-- ==== Sys2Proof/Word.lean ====
section
/-! DEFINITION. The two word types of the part: the byte of the serial line and of the saved record, and the 16-bit
check word (R174). Counts, tick counts, tracks and figures are plain numbers, as the manual treats them. -/

namespace Sys2Proof

/-- One byte of the bench serial line (R181) or of the saved profile record (R174). -/
abbrev Byte := BitVec 8

/-- A 16-bit word: the check word of a saved record (R174) and a two-byte field on the line (R194). -/
abbrev Half := BitVec 16

/-- A four-byte field on the line (R194). -/
abbrev Quad := BitVec 32

end Sys2Proof
end

