-- ==== Sys2Proof/Syntax.lean ====
section
/-! DEFINITION. The commands: one constructor per row of spec/opcode_table.json, with the operands that arrive with it.
A request command is the arrival of that request's checked frame, with the frame's TAG and the fields of its payload in
the order of R186 and R194 (log 6). -/

namespace Sys2Proof

/-- The level of the RAMP_SENSE input (R163). -/
inductive Ramp where
  | onRamp
  | offRamp
deriving DecidableEq, Repr

/-- The level of the PREAMP_FAULT input (R163). -/
inductive PreampLine where
  | active
  | inactive
deriving DecidableEq, Repr

/-- The two rest timers (R157). -/
inductive RestTimer where
  | a
  | b
deriving DecidableEq, Repr

/-- How the start-up read of the fixture profile memory ends (R175): no answer; an answer with what the memory holds; or
an answer with other contents, the bytes from address 0 on (a memory written by other means, log 10). -/
inductive MemRead where
  | noAnswer
  | contents
  | other (bytes : List Byte)
deriving DecidableEq, Repr

/-- The commands of the part, in the order of spec/opcode_table.json. -/
inductive Instr where
  /-- POWER_ON_RESET (R175). -/
  | powerOnReset
  /-- SLOT_END_MARK (R2): the four fields read, and the ticks from the latest index arrival to the mark (log 3). -/
  | slotEndMark (sector : BitVec 10) (code : BitVec 18) (e o : BitVec 12) (ticks : Nat)
  /-- SLOT_END_MISS (R1). -/
  | slotEndMiss
  /-- INDEX_ARRIVAL (R19): the ticks from the index reference to this arrival (log 3). -/
  | indexArrival (ticks : Nat)
  /-- RAMP_SENSE_CHANGE (R39): the new level of the line. -/
  | rampSenseChange (level : Ramp)
  /-- PREAMP_FAULT_CHANGE (R167): the new level of the line. -/
  | preampFaultChange (level : PreampLine)
  /-- HEAT_TICK (R145). -/
  | heatTick
  /-- SEEK_PACE_RELEASE (R150). -/
  | seekPaceRelease
  /-- HOT_PARK_COUNT_EXPIRY (R153). -/
  | hotParkCountExpiry
  /-- SPINUP_MS_EXPIRY (R20). -/
  | spinupMsExpiry
  /-- INDEX_SILENCE_EXPIRY (R21). -/
  | indexSilenceExpiry
  /-- BRAKING_QUIET_EXPIRY (R22). -/
  | brakingQuietExpiry
  /-- LOAD_MS_EXPIRY (R30). -/
  | loadMsExpiry
  /-- ACQ_MS_EXPIRY (R37). -/
  | acqMsExpiry
  /-- SEEK_MS_EXPIRY (R34). -/
  | seekMsExpiry
  /-- SETTLE_MS_EXPIRY (R36). -/
  | settleMsExpiry
  /-- UNLOAD_MS_EXPIRY (R39). -/
  | unloadMsExpiry
  /-- WINDOW_TIMEOUT (R55). -/
  | windowTimeout
  /-- GATE_U_OVERFLOW (R81). -/
  | gateUOverflow
  /-- GATE_L_OVERFLOW (R83). -/
  | gateLOverflow
  /-- REST_TIMER_EXPIRY (R159): which timer ran out. -/
  | restTimerExpiry (timer : RestTimer)
  /-- SPINDLE_RECOVERY_EXPIRY (R121). -/
  | spindleRecoveryExpiry
  /-- PROFILE_MEMORY_READ_DONE (R175): how the read ended. -/
  | profileMemoryReadDone (answer : MemRead)
  /-- PROFILE_LOAD_LIMIT_EXPIRY (R175). -/
  | profileLoadLimitExpiry
  /-- PROFILE_MEMORY_WRITE_DONE (R179). -/
  | profileMemoryWriteDone
  /-- PROFILE_MEMORY_FAULT (R179). -/
  | profileMemoryFault
  /-- SAVE_WRITE_LIMIT_EXPIRY (R179). -/
  | saveWriteLimitExpiry
  /-- BYTE_RECEIVED (R181): the byte. -/
  | byteReceived (byte : Byte)
  /-- GAP_LIMIT_EXPIRY (R181). -/
  | gapLimitExpiry
  /-- TRANSMIT_COMPLETE (R187). -/
  | transmitComplete
  /-- REQUEST_UNKNOWN_KIND (R185): a checked frame whose KIND names no request kind. -/
  | requestUnknownKind (kind tag : Byte) (payload : List Byte)
  /-- STATUS_READ (R191). -/
  | statusRead (tag : Byte)
  /-- MOTION_READ (R41). -/
  | motionRead (tag : Byte)
  /-- THERMAL_READ (R154). -/
  | thermalRead (tag : Byte)
  /-- LINES_READ (R169). -/
  | linesRead (tag : Byte)
  /-- LINK_READ (R190): 1 sets the counters to 0 once reported. -/
  | linkRead (tag clear : Byte)
  /-- COUNTERS_READ (R13). -/
  | countersRead (tag : Byte)
  /-- PROFILE_READ (R176). -/
  | profileRead (tag : Byte)
  /-- JOB_LIST (R105). -/
  | jobList (tag : Byte)
  /-- RESULT_READ (R104): selector 0 by id, 1 oldest unread. -/
  | resultRead (tag selector id : Byte)
  /-- MAP_READ (R139): copy, form, head, zone. -/
  | mapRead (tag copy form head zone : Byte)
  /-- EVENTS_READ (R189). -/
  | eventsRead (tag : Byte)
  /-- JOB_SUBMIT (R100): kind, heads, zones and options (an id and a two-byte value each). -/
  | jobSubmit (tag kind : Byte) (heads zones : List Byte) (options : List (Byte × Half))
  /-- JOB_CANCEL (R123). -/
  | jobCancel (tag id : Byte)
  /-- JOB_SUSPEND (R119). -/
  | jobSuspend (tag id : Byte)
  /-- JOB_RESUME (R119). -/
  | jobResume (tag id : Byte)
  /-- MAP_PUBLISH (R135). -/
  | mapPublish (tag : Byte)
  /-- MAP_EXCLUDE (R131). -/
  | mapExclude (tag head : Byte)
  /-- MAP_INCLUDE (R131). -/
  | mapInclude (tag head : Byte)
  /-- MAP_CLEAR (R133): selector 0 one head, 1 all. -/
  | mapClear (tag selector head : Byte)
  /-- SPIN_UP (R27). -/
  | spinUp (tag : Byte)
  /-- SPIN_DOWN (R28). -/
  | spinDown (tag : Byte)
  /-- HEADS_LOAD (R29). -/
  | headsLoad (tag : Byte)
  /-- HEADS_UNLOAD (R40). -/
  | headsUnload (tag : Byte)
  /-- SEEK (R32): target track, and target offset in two's complement. -/
  | seek (tag : Byte) (track : Quad) (offset : Half)
  /-- PROFILE_WRITE (R177): the whole payload, whose length the Profile Store judges. -/
  | profileWrite (tag : Byte) (payload : List Byte)
  /-- PROFILE_SAVE (R179). -/
  | profileSave (tag : Byte)
  /-- REST_WRITE (R161): the two presets and the seven table entries. -/
  | restWrite (tag : Byte) (presetA presetB : Quad) (table : List Byte)
  /-- EVENT_MASK_WRITE (R189). -/
  | eventMaskWrite (tag mask : Byte)
  /-- LINES_WRITE (R168). -/
  | linesWrite (tag group owner head mode level : Byte)
  /-- COUNTERS_CLEAR (R14): selector 0 one head, 1 all. -/
  | countersClear (tag selector head : Byte)
  /-- BENCH_RESET (R192). -/
  | benchReset (tag : Byte)
  /-- BENCH_RESET_EFFECT (R192). -/
  | benchResetEffect
deriving DecidableEq, Repr

end Sys2Proof
end

