-- ==== Sys2Proof/WellFormed.lean ====
section
/-! DEFINITION. Which commands can be sent: a request command must fit into one frame of the bench serial line (R181, R194),
and its fields must be those of its payload (R186). -/

namespace Sys2Proof

/-- The KIND codes of R186. -/
def knownKinds : List Nat :=
  [0x01, 0x02, 0x03, 0x04, 0x05, 0x06, 0x07, 0x08, 0x09, 0x0A, 0x0B, 0x10, 0x11, 0x12, 0x13, 0x18, 0x19, 0x1A, 0x1B, 0x20,
   0x21, 0x22, 0x23, 0x24, 0x28, 0x29, 0x2A, 0x2B, 0x2C, 0x2D, 0x3F]

/-- A checked frame of an unknown kind: its KIND is none of R186 and its payload has at most 240 bytes. -/
def unknownOk (kind : Byte) (payload : List Byte) : Bool :=
  !knownKinds.contains kind.toNat && decide (payload.length ≤ 240)

/-- A JOB_SUBMIT fits into one frame: 4 + n + m + 3k bytes (R186), at most 240 (R181). -/
def submitOk (heads zones : List Byte) (options : List (Byte × Half)) : Bool :=
  decide (4 + heads.length + zones.length + 3 * options.length ≤ 240)

/-- A PROFILE_WRITE fits into one frame; its length is judged by the Profile Store (R177). -/
def profileOk (payload : List Byte) : Bool := decide (payload.length ≤ 240)

/-- A REST_WRITE carries seven table entries (R161). -/
def restOk (table : List Byte) : Bool := decide (table.length = 7)

/-- The commands that can be sent. -/
def Instr.wellFormed : Instr → Bool
  | .requestUnknownKind kind _ payload => unknownOk kind payload
  | .jobSubmit _ _ heads zones options => submitOk heads zones options
  | .profileWrite _ payload => profileOk payload
  | .restWrite _ _ _ table => restOk table
  | .powerOnReset => true
  | .slotEndMark _ _ _ _ _ => true
  | .slotEndMiss => true
  | .indexArrival _ => true
  | .rampSenseChange _ => true
  | .preampFaultChange _ => true
  | .heatTick => true
  | .seekPaceRelease => true
  | .hotParkCountExpiry => true
  | .spinupMsExpiry => true
  | .indexSilenceExpiry => true
  | .brakingQuietExpiry => true
  | .loadMsExpiry => true
  | .acqMsExpiry => true
  | .seekMsExpiry => true
  | .settleMsExpiry => true
  | .unloadMsExpiry => true
  | .windowTimeout => true
  | .gateUOverflow => true
  | .gateLOverflow => true
  | .restTimerExpiry _ => true
  | .spindleRecoveryExpiry => true
  | .profileMemoryReadDone _ => true
  | .profileLoadLimitExpiry => true
  | .profileMemoryWriteDone => true
  | .profileMemoryFault => true
  | .saveWriteLimitExpiry => true
  | .byteReceived _ => true
  | .gapLimitExpiry => true
  | .transmitComplete => true
  | .statusRead _ => true
  | .motionRead _ => true
  | .thermalRead _ => true
  | .linesRead _ => true
  | .linkRead _ _ => true
  | .countersRead _ => true
  | .profileRead _ => true
  | .jobList _ => true
  | .resultRead _ _ _ => true
  | .mapRead _ _ _ _ _ => true
  | .eventsRead _ => true
  | .jobCancel _ _ => true
  | .jobSuspend _ _ => true
  | .jobResume _ _ => true
  | .mapPublish _ => true
  | .mapExclude _ _ => true
  | .mapInclude _ _ => true
  | .mapClear _ _ _ => true
  | .spinUp _ => true
  | .spinDown _ => true
  | .headsLoad _ => true
  | .headsUnload _ => true
  | .seek _ _ _ => true
  | .profileSave _ => true
  | .eventMaskWrite _ _ => true
  | .linesWrite _ _ _ _ _ _ => true
  | .countersClear _ _ _ => true
  | .benchReset _ => true
  | .benchResetEffect => true

end Sys2Proof
end

