-- ==== Sys2Proof/Decode.lean ====
section
/-! DEFINITION. The command that a word spells by the table's bits. No row of spec/opcode_table.json gives any bits (every
row is a command of a block), so no word spells one (log 1). The frames of the serial line are decoded by the Bench Link
(Machine/Link.lean). -/

namespace Sys2Proof

/-- The command that the word `w` of `nbits` bits spells: none (log 1). -/
def decodeTableWord (_nbits _w : Nat) : Option Instr := none

end Sys2Proof
end

