-- ==== Sys2Proof/Config.lean ====
section
/-! DEFINITION. What is fixed for one part: the manual's time constants in ticks of the 200 MHz timebase, and the free
values, which the manual leaves open (log 8, log 11). -/

namespace Sys2Proof

/-- How the control output follows from the output before and the anchor error. R24 says only that the output "is driven
to bring e toward 0". DESIGN CHOICE (log 8), safe: nothing constrains the law. -/
opaque Config.controlLaw : Int → Int → Int

/-- The n-th byte whose value the manual leaves open: what the fixture profile memory holds after a failed or an abandoned
write (R179, R180). DESIGN CHOICE (log 11), safe: nothing constrains the byte. -/
opaque Config.freeByte : Nat → Byte

/-- Whether the memory's n-th answer that could be either is that of a write given up, and not of the write awaited (R179).
DESIGN CHOICE (log 42), safe: nothing constrains it. -/
opaque Config.lateAnswer : Nat → Bool

/-- Ticks of the 200 MHz timebase in one millisecond (00_scope section 4.1: one tick is 5 ns). -/
def Config.ticksPerMs : Nat := 200000

/-- Ticks between two heat ticks, 10 ms (R145). -/
def Config.heatTicks : Nat := 2000000

/-- Ticks one byte occupies on the line, 5 µs (11_the_bench_link section 11.1). -/
def Config.byteTicks : Nat := 1000

/-- Bytes of a fixture profile memory (log 10): the longest record, of 24 zones, and its check word (R174). -/
def Config.memoryBytes : Nat := 194

/-- How many reports and continuations of the Job Controller one arrival can take (log 16). -/
def Config.drainFuel : Nat := 65536

end Sys2Proof
end

