-- ==== Sys2Proof/Machine/State.lean ====
section
/-! DEFINITION. The state of the FGA-2040 as plain data, block by block (00_scope section 2.1), and the state right after
the power-on reset. Every `inductive` of names lists its values in the order in which the rule that first specifies them
does, because R194 encodes an enumerated field by its position. -/

namespace Sys2Proof.Machine

/-! ## Why a step can stop -/

/-- No rule of the manual stops the part, so no meaning ends in a fault: the type has no value. -/
inductive Fault : Type
deriving DecidableEq, Repr

/-- The refusals of a step. -/
inductive Refusal where
  /-- Raised by `exec` for an instruction that has no meaning yet. Safe: nothing is claimed of it. -/
  | notModelled (mnemonic : String)
  /-- Raised by the request commands whose payload exceeds 240 bytes: no frame can carry it (R181, R194), so no such
  command can be sent (log 27). Safe. -/
  | payloadTooLong
deriving DecidableEq, Repr

/-! ## Sector Decoder (chapter 1) -/

/-- The four saturating counters of one head (R12). -/
structure HeadCounters where
  miss : Nat := 0
  weak : Nat := 0
  wild : Nat := 0
  slip : Nat := 0
deriving DecidableEq, Repr

/-- State of the Sector Decoder. -/
structure Sdc where
  /-- Expected next sector number, `none` when unset (R8). -/
  expect : Option Nat
  /-- Recovery marker, `true` when armed (R6). -/
  marker : Bool
  /-- The counters of heads 0 to 19 (R12). -/
  counters : List HeadCounters
  /-- Tick at which the slot in progress ends without a mark; `none` while no slot runs (R1). -/
  slotDue : Option Nat
deriving DecidableEq, Repr

/-- The class of a sector record (R4). -/
inductive SectorClass where
  | recovery | miss | wild | weak | good
deriving DecidableEq, Repr

/-- The fields a mark brings, with the track number decoded (R2, R3). -/
structure Mark where
  sector : Nat
  track : Nat
  e : Nat
  o : Nat
deriving DecidableEq, Repr

/-- A sector record (R10). -/
structure SectorRecord where
  head : Nat
  /-- Presence MARK with its fields, or `none` for MISS. -/
  mark : Option Mark
  cls : SectorClass
  /-- The PES, meaningful for GOOD records (R5). -/
  pes : Int
  slip : Bool
deriving DecidableEq, Repr

/-! ## Positioner (chapter 2) -/

/-- Spindle states (R18). -/
inductive SpindleState where
  | stopped | accelerating | atSpeed | offSpeed | braking | bench
deriving DecidableEq, Repr

/-- SPIN_ENABLE as driven by the engine, in the order in which R18's table first names the values. -/
inductive EngineSpin where
  | off | on | notDriven
deriving DecidableEq, Repr

/-- The spindle drive output (R18, R165): the motor released, driven at regulated speed by the Positioner, or run without
regulation of speed. -/
inductive SpindleDrive where
  | released | regulated | unregulated
deriving DecidableEq, Repr

/-- How the voice coil is driven, the third column of R23's table. The states that servo carry the control output of R24, whose
law is a free value (log 8). -/
inductive CoilDrive where
  /-- To hold the arm on the ramp. -/
  | holdOnRamp
  /-- Along the load path, off the ramp and over the disk. -/
  | loadPath
  /-- From anchor sectors, holding the track being read. -/
  | holdTrack (output : Int)
  /-- From anchor sectors, toward the target track. -/
  | toTrack (track : Nat) (output : Int)
  /-- From anchor sectors, toward the target track and offset. -/
  | toOffset (track : Nat) (offset : Int) (output : Int)
  /-- Along the unload path, onto the ramp. -/
  | unloadPath
deriving DecidableEq, Repr

/-- Actuator states (R23). -/
inductive ActState where
  | parked | loading | acquiring | following | seeking | settling | unloading
deriving DecidableEq, Repr

/-- Owner of a move (R25). A move of the Job Controller carries the attempt it was ordered for (R115, log 17). -/
inductive Owner where
  | bench
  | job (attempt : Nat)
  | nobody
deriving DecidableEq, Repr

/-- Causes of an unload (R38). -/
inductive UnloadCause where
  | bench | loadFail | seekTimeout | servoLost | spindle | preamp | rest | thermal
deriving DecidableEq, Repr

/-- Kinds of move (R25). -/
inductive MoveKind where
  | spinUp | spinDown | load | seek | jog | unload
deriving DecidableEq, Repr

/-- What interrupted a move (R25, R33). -/
inductive StopCause where
  | spinDown | spinUp | benchReset | unload (cause : UnloadCause) | servoLost | offTrack | hot | replaced
deriving DecidableEq, Repr

/-- Outcomes of a move, in the order in which the table of R25 first names them. -/
inductive MoveOutcome where
  | spunUp | spinupFail | interrupted (cause : StopCause) | stopped | loaded | loadFail | settled | settleTimeout
  | seekTimeout | parked | parkedUnconfirmed
deriving DecidableEq, Repr

/-- A move in flight with its owner (R25). -/
structure Move where
  kind : MoveKind
  owner : Owner
deriving DecidableEq, Repr

/-- A held seek (R33). -/
structure HeldSeek where
  track : Nat
  offset : Int
  owner : Owner
deriving DecidableEq, Repr

/-- The five actuator deadlines (R23). -/
inductive DeadlineKind where
  | load | acq | seek | settle | unload
deriving DecidableEq, Repr

/-- The running actuator deadline and the tick of its expiry. -/
structure ActDeadline where
  kind : DeadlineKind
  due : Nat
deriving DecidableEq, Repr

/-- State of the Positioner. -/
structure Pos where
  spindle : SpindleState
  /-- The tick of the previous index arrival, or unset (R19). -/
  indexRef : Option Nat
  /-- The latest revolution period in ticks (R19). -/
  period : Option Nat
  inTol : Nat
  outTol : Nat
  spinDownPending : Bool
  /-- The SPINUP_MS deadline (R20). -/
  spinupDue : Option Nat
  /-- The index silence limit (R21). -/
  silenceDue : Option Nat
  /-- The 500 ms limit of BRAKING (R22). -/
  quietDue : Option Nat
  act : ActState
  deadline : Option ActDeadline
  target : Nat
  offset : Int
  /-- The control output (R24). -/
  control : Int
  acqRun : Nat
  settleRun : Nat
  otRun : Nat
  lossRun : Nat
  held : Option HeldSeek
  spinMove : Option Move
  actMove : Option Move
  seekOrigin : Nat
  unloadCause : UnloadCause
  lastBench : Option (MoveKind × MoveOutcome)
  /-- Cause, and the UNCONFIRMED indication (R39). -/
  lastPark : Option (UnloadCause × Bool)
deriving DecidableEq, Repr

/-! ## Window Collector (chapter 3) -/

/-- Kinds of window, and of the first two kinds of job (R44, R98). -/
inductive WindowKind where
  | qualify | span
deriving DecidableEq, Repr

/-- An open window's record (R44). -/
structure Window where
  /-- `true` in PROBE_VISIT, `false` in FOLLOW_RUN. -/
  probing : Bool
  kind : WindowKind
  head : Nat
  anchorOnly : Bool
  size : Nat
  follow : Nat
  visit : Nat
  limit : Nat
  track : Nat
  offset : Int
  pos : Nat
  revs : Nat
  used : Nat
  weak : Nat
  miss : Nat
  wild : Nat
  sumV : Int
  sumAmp : Nat
  /-- The attempt whose opening order this window answers (R115, log 17). -/
  attempt : Nat
deriving DecidableEq, Repr

/-- Causes of an ABANDONED ending (R59, R61). -/
inductive AbandonCause where
  | job | unload | replaced | reset
deriving DecidableEq, Repr

/-- Endings of a window (R59). -/
inductive WindowEnding where
  | complete | poorServo | timeout | offTrack | abandoned (cause : AbandonCause)
deriving DecidableEq, Repr

/-- The ending report (R59): the window as it stood at the ending, and the mean of a COMPLETE one. -/
structure WindowReport where
  ending : WindowEnding
  window : Window
  mean : Option Int
deriving DecidableEq, Repr

/-! ## Gate Counter Unit (chapter 5) -/

/-- Gate states (R78). -/
inductive GateState where
  | idle | armed | counting
deriving DecidableEq, Repr

/-- Gate modes (R78). -/
inductive GateMode where
  | chained | split
deriving DecidableEq, Repr

/-- The two stages; as a value of the overflow indication the stage that overflowed. -/
inductive Stage where
  | l | u
deriving DecidableEq, Repr

/-- Endings of a gate (R85). -/
inductive GateEnding where
  | closed | missed | overrange | aborted
deriving DecidableEq, Repr

/-- What closed a gate (R85). -/
inductive ClosedBy where
  | index | mark
deriving DecidableEq, Repr

/-- Abort causes (R85). -/
inductive AbortCause where
  | job | reset
deriving DecidableEq, Repr

/-- An ending record (R85). -/
structure GateRecord where
  ending : GateEnding
  abortCause : Option AbortCause
  mode : GateMode
  head : Option Nat
  value : Option Nat
  closedBy : Option ClosedBy
  marks : Option Nat
  overflowed : Option Stage
deriving DecidableEq, Repr

/-- State of the Gate Counter Unit. While the gate is COUNTING the running stages follow from `start` and the clock
(`gateL`, `gateU`); `stageL` and `stageU` are the stages as last fixed, and in SPLIT mode `stageU` counts marks (log 29). -/
structure Gcu where
  state : GateState
  mode : GateMode
  head : Option Nat
  stageL : Nat
  stageU : Nat
  start : Nat
  overflow : Option Stage
  last : Option GateRecord
  /-- The attempt whose arm order this gate answers (R115, log 17). -/
  attempt : Nat
deriving DecidableEq, Repr

/-! ## Head Map entries (chapters 4, 5, 7) -/

/-- Reason codes of entries and first faults, at their codes 0 to 13 (R194). -/
inductive Reason where
  | none | gainRange | offsetRange | notQualified | anchor | timeout | poorServo | offTrack | settleTimeout | skewMiss
  | overrange | amplitude | weak | miss
deriving DecidableEq, Repr

/-- The qualification figures, each absent when its divisor is 0 (R74). -/
structure QualFigures where
  amp : Option Nat
  weak : Option Nat
  miss : Option Nat
deriving DecidableEq, Repr

/-- A qualify result (R77, R126). -/
inductive QualifyResult where
  | pass (figures : QualFigures)
  | fail (reason : Reason) (figures : QualFigures)
deriving DecidableEq, Repr

/-- The figures of an OK span (R71, R127). -/
structure SpanFigures where
  d : Int
  dt : Int
  df : Nat
  g : Int
  v1 : Int
  v2 : Int
  o1 : Int
  o2 : Int
deriving DecidableEq, Repr

/-- A span result (R71, R72, R127). -/
inductive SpanResult where
  | ok (figures : SpanFigures)
  | reference
  | fault (reason : Reason)
deriving DecidableEq, Repr

/-- The figures of an OK skew (R96, R128). -/
structure SkewFigures where
  skew : Int
  ra : Nat
  rh : Nat
  nRev : Nat
  saturated : Bool
deriving DecidableEq, Repr

/-- A skew result (R96, R97, R128). -/
inductive SkewResult where
  | ok (figures : SkewFigures)
  | reference
  | fault (reason : Reason)
deriving DecidableEq, Repr

/-- An entry of the head map with its source job id (R126 to R128). -/
structure Entry (α : Type) where
  result : α
  job : Nat
deriving DecidableEq, Repr

/-- The three entry slots of one head-zone (R125). -/
structure ZoneSlots where
  qualify : Option (Entry QualifyResult) := none
  span : Option (Entry SpanResult) := none
  skew : Option (Entry SkewResult) := none
deriving DecidableEq, Repr

/-- A head record: the exclude flag (working copy) or EXCLUDED mark (published copy) and the slots of each zone (R125). -/
structure HeadRecord where
  excluded : Bool
  zones : List ZoneSlots
deriving DecidableEq, Repr

/-- State of the Head Map. -/
structure Hmp where
  working : List HeadRecord
  published : List HeadRecord
  gen : Nat
  unpub : Bool
deriving DecidableEq, Repr

/-- The derived head state, at its codes 0 to 2 (R130, R194). -/
inductive HeadState where
  | unknown | qualified | disqualified
deriving DecidableEq, Repr

/-! ## Job Controller (chapter 6) -/

/-- Job kinds (R98). -/
inductive JobKind where
  | qualify | span | skew
deriving DecidableEq, Repr

/-- Job states (R98). -/
inductive JobState where
  | queued | running | suspended
deriving DecidableEq, Repr

/-- The suspension reasons (R98). -/
inductive SuspendReason where
  | bench | thermal | spindle
deriving DecidableEq, Repr

/-- A suspension reason set (R98). -/
structure Reasons where
  bench : Bool := false
  thermal : Bool := false
  spindle : Bool := false
deriving DecidableEq, Repr

/-- Phases of a head-zone (R98). -/
inductive Phase where
  | prepare | zoneSeek | collect | jog1 | collect1 | jog2 | collect2 | period | gateA | gateP | compute
deriving DecidableEq, Repr

/-- The cursor of a job once RUNNING (R98). -/
structure Cursor where
  zone : Nat
  head : Nat
  phase : Phase
  retries : Nat
  failedZones : Nat
deriving DecidableEq, Repr

/-- The resolved figures of a job once RUNNING (R99, R65, R88). -/
structure Figures where
  w : Nat
  centre : Int
  jog : Nat
  o1 : Int
  o2 : Int
  r : Nat
deriving DecidableEq, Repr

/-- The summary counts (R98). -/
structure Counts where
  ok : Nat := 0
  reference : Nat := 0
  fault : Nat := 0
  skipped : Nat := 0
deriving DecidableEq, Repr

/-- The first entry captured as FAULT or FAIL (R98). -/
structure FirstFault where
  head : Nat
  zone : Nat
  reason : Reason
deriving DecidableEq, Repr

/-- The four options of a job, each absent or clamped to its range (R99, R101). -/
structure Options where
  window : Option Nat := none
  jog : Option Nat := none
  centre : Option Int := none
  skewRevs : Option Nat := none
deriving DecidableEq, Repr

/-- DUPLICATES and the four clamped indications (R98). -/
structure JobFlags where
  duplicates : Bool := false
  window : Bool := false
  jog : Bool := false
  centre : Bool := false
  skewRevs : Bool := false
deriving DecidableEq, Repr

/-- A job record (R98). -/
structure Job where
  id : Nat
  kind : JobKind
  heads : List Nat
  zones : List Nat
  options : Options
  state : JobState
  reasons : Reasons
  cursor : Option Cursor
  figures : Option Figures
  counts : Counts
  first : Option FirstFault
  flags : JobFlags
deriving DecidableEq, Repr

/-- Final states of a job (R103). -/
inductive FinalState where
  | done | donePartial | failed | cancelled
deriving DecidableEq, Repr

/-- Job fail reasons (R103). -/
inductive FailReason where
  | loadFail | spinupFail | spindle | preamp | anchor
deriving DecidableEq, Repr

/-- A finished record (R103). -/
structure Finished where
  id : Nat
  kind : JobKind
  final : FinalState
  reason : Option FailReason
  counts : Counts
  first : Option FirstFault
  flags : JobFlags
  read : Bool
deriving DecidableEq, Repr

/-- The order whose outcome the Job Controller awaits (R115). -/
inductive Await where
  | spinUp | load | seek | jog | window | gate
deriving DecidableEq, Repr

/-- The condition a RUNNING job waits for in PREPARE or ZONE_SEEK (R105). -/
inductive WaitCond where
  | spunUp | stopped | spindleGroup | loaded | followingOrParked | parked | selectGroup | heldSeek | seekOutcome
deriving DecidableEq, Repr

/-- The skew tally (R88). -/
structure Tally where
  nRev : Option Nat := none
  pairs : Nat := 0
  ra : Nat := 0
  rh : Nat := 0
  sumA : Nat := 0
  sumH : Nat := 0
deriving DecidableEq, Repr

/-- The head-zone context of the active job (chapter 6, introduction). -/
structure JobCtx where
  await : Option Await := none
  waits : Option WaitCond := none
  /-- The first window report of a span measurement (R113). -/
  firstReport : Option WindowReport := none
  tally : Tally := {}
  /-- The Job Controller has selected the probe head for a skew gate (R91). -/
  probe : Bool := false
deriving DecidableEq, Repr

/-- State of the Job Controller. -/
structure Jct where
  table : List Job
  finished : List Finished
  nextId : Nat
  ctx : JobCtx
  /-- The mark of the attempt in flight (R115, log 17). -/
  attempt : Nat
  /-- The zone's anchor-failure state (R107, R111). -/
  zoneFailed : Bool
  /-- The spindle recovery deadline (R121). -/
  recoverDue : Option Nat
deriving DecidableEq, Repr

/-! ## Coil Heat Monitor (chapter 8) -/

/-- Heat levels (R144). -/
inductive HeatLevel where
  | cool | warm | hot
deriving DecidableEq, Repr

/-- Causes of a level change (R144). -/
inductive LevelCause where
  | tick | seek | jog | profile | reset
deriving DecidableEq, Repr

/-- A level change (R144). -/
structure LevelChange where
  before : HeatLevel
  after : HeatLevel
  cause : LevelCause
deriving DecidableEq, Repr

/-- State of the Coil Heat Monitor (R144). -/
structure Chm where
  heat : Nat
  level : HeatLevel
  pace : Nat
  hot : Nat
  last : Option LevelChange
  /-- Tick of the next heat tick (R145). -/
  nextTick : Nat
deriving DecidableEq, Repr

/-! ## Rest Timers (chapter 9) -/

/-- A rest timer: its preset in ms and the tick of its expiry, `none` when EXPIRED (R157, log 28). -/
structure Timer where
  preset : Nat
  due : Option Nat
deriving DecidableEq, Repr

/-- What a source is mapped to, at its codes 0 to 2 (R158, R186). -/
inductive RestMap where
  | none | a | b
deriving DecidableEq, Repr

/-- The seven activity sources (R158). -/
inductive Source where
  | motionReq | jobReq | jobEnd | mapReq | readReq | lineReq | configReq
deriving DecidableEq, Repr

/-- The rest source table (R158). -/
structure RestTable where
  motionReq : RestMap
  jobReq : RestMap
  jobEnd : RestMap
  mapReq : RestMap
  readReq : RestMap
  lineReq : RestMap
  configReq : RestMap
deriving DecidableEq, Repr

/-- State of the Rest Timers (R157). -/
structure Rtm where
  a : Timer
  b : Timer
  table : RestTable
deriving DecidableEq, Repr

/-! ## Fixture Line Control (chapter 9) -/

/-- Preamp modes (R163). -/
inductive PreampMode where
  | sleep | standby | read
deriving DecidableEq, Repr

/-- State of Fixture Line Control (R163). -/
structure Flc where
  /-- Owner of the SELECT group: `true` for BENCH. -/
  selectBench : Bool
  /-- Owner of the SPINDLE group: `true` for BENCH. -/
  spindleBench : Bool
  /-- Owner of the SENSE group: `true` for BENCH. -/
  senseBench : Bool
  /-- The head number of the engine selection. -/
  engineHead : Nat
  benchHead : Nat
  benchMode : PreampMode
  /-- The bench level of SPIN_ENABLE, `true` for ON. -/
  benchSpin : Bool
  heldRamp : Ramp
  heldPreamp : PreampLine
  liveRamp : Ramp
  livePreamp : PreampLine
deriving DecidableEq, Repr

/-! ## Profile Store (chapter 10) -/

/-- The drive profile: fields 0 to 45 and the zone table (R172, R173). The initial values are the built-in default. -/
structure Profile where
  headCount : Nat := 4
  zoneCount : Nat := 16
  anchor : Nat := 0
  sectors : Nat := 256
  trackMax : Nat := 200000
  nRevNom : Nat := 1666667
  speedTolPm : Nat := 5
  ampFloor : Nat := 256
  window : Nat := 64
  windowRevs : Nat := 16
  follow : Nat := 8
  visit : Nat := 3
  jog : Nat := 1024
  jogCentre : Int := 0
  retries : Nat := 1
  skewRevs : Nat := 4
  settleTol : Nat := 400
  settleCount : Nat := 8
  settleMs : Nat := 30
  otTol : Nat := 1200
  otCount : Nat := 3
  acqCount : Nat := 8
  acqMs : Nat := 100
  loadMs : Nat := 400
  seekMs : Nat := 60
  unloadMs : Nat := 300
  spinupMs : Nat := 12000
  speedRecoverMs : Nat := 3000
  gainMinQ8 : Nat := 160
  gainMaxQ8 : Nat := 384
  ampMin : Nat := 600
  weakMaxPm : Nat := 50
  missMaxPm : Nat := 20
  zoneStepMax : Nat := 8192
  skewStepMax : Nat := 2048
  warmOff : Nat := 28000
  warmOn : Nat := 32000
  hotOff : Nat := 40000
  hotOn : Nat := 48000
  decayQ8 : Nat := 3
  holdCost : Nat := 8
  seekBase : Nat := 120
  seekDiv : Nat := 64
  jogCost : Nat := 10
  paceTicks : Nat := 5
  hotParkTicks : Nat := 300
  /-- The representative tracks, one per zone (R173). -/
  zoneTracks : List Nat :=
    [6000, 18000, 30000, 42000, 54000, 66000, 78000, 90000, 102000, 114000, 126000, 138000, 150000, 162000, 174000, 186000]
deriving DecidableEq, Repr

/-- Store states (R171). -/
inductive StoreState where
  | starting | ready | saving
deriving DecidableEq, Repr

/-- Profile sources (R171). -/
inductive ProfileSource where
  | loaded | defaulted | written
deriving DecidableEq, Repr

/-- The start-up record (R171): LOADED, or DEFAULTED with its cause. -/
inductive StartupRecord where
  | loaded | read | check | value (field : Nat)
deriving DecidableEq, Repr

/-- Stages of a save (R171, R179). -/
inductive SaveStage where
  | erase | record | checkWord
deriving DecidableEq, Repr

/-- A save in flight: its stage, and the tick at which the 100 ms limit of the write issued expires (R179). -/
structure Save where
  stage : SaveStage
  due : Nat
deriving DecidableEq, Repr

/-- Last save outcomes (R171). -/
inductive SaveOutcome where
  | none | done | failed (stage : SaveStage) | abandoned
deriving DecidableEq, Repr

/-- The bytes of the fixture profile memory at the part's port, from address 0: the saved record and the check word behind it
(10 section 10.2, R174; log 10). -/
abbrev ProfileMemory := List Byte

/-- State of the Profile Store (R171). -/
structure Pst where
  state : StoreState
  profile : Profile
  source : ProfileSource
  defaulted : Bool
  unsaved : Bool
  startup : StartupRecord
  save : Option Save
  lastSave : SaveOutcome
  /-- The 500 ms limit of the start-up read (R175). -/
  loadDue : Option Nat
  memory : ProfileMemory
  /-- The MODEL's count of writes given up, by the expiry of their limit or with their save, that the memory has not answered
  yet (R179, log 42). -/
  late : Nat
deriving DecidableEq, Repr

/-! ## Bench Link (chapter 11) -/

/-- A frame without its start byte, LEN and CHECK (R194). -/
structure Frame where
  kind : Byte
  tag : Byte
  payload : List Byte
deriving DecidableEq, Repr

/-- States of the receive assembler (R181). -/
inductive AsmState where
  | hunt | length | body | check
deriving DecidableEq, Repr

/-- The receive assembler: its state, LEN once received, the bytes KIND, TAG and payload held, and the gap limit (R181). -/
structure Assembler where
  state : AsmState
  len : Nat
  got : List Byte
  gapDue : Option Nat
deriving DecidableEq, Repr

/-- Receive faults (R183). -/
inductive RxFault where
  | length | gap | check | overrun
deriving DecidableEq, Repr

/-- The last link fault record (R183). -/
structure LinkFault where
  fault : RxFault
  kind : Option Byte
  tag : Option Byte
deriving DecidableEq, Repr

/-- The link counters, each 0 to 255 (R183). -/
structure LinkCounters where
  check : Nat := 0
  length : Nat := 0
  gap : Nat := 0
  overrun : Nat := 0
deriving DecidableEq, Repr

/-- Event kinds, in the order of their mask bits (R189). -/
inductive EventKind where
  | jobEnd | jobHeld | thermal | motion | preamp | link | profile
deriving DecidableEq, Repr

/-- A set of event kinds (R188, R189). -/
structure EventSet where
  jobEnd : Bool
  jobHeld : Bool
  thermal : Bool
  motion : Bool
  preamp : Bool
  link : Bool
  profile : Bool
deriving DecidableEq, Repr

/-- A record that waits for the transmitter (R187). A reply knows whether it is the ACK of a BENCH_RESET (R192). -/
inductive Waiting where
  | reply (frame : Frame) (reset : Bool)
  | notice (kind : EventKind)
deriving DecidableEq, Repr

/-- The record in transmission (R187), and the tick at which its last byte has been sent. -/
structure Sending where
  frame : Frame
  isReply : Bool
  reset : Bool
  due : Nat
deriving DecidableEq, Repr

/-- State of the Bench Link. -/
structure Blk where
  asm : Assembler
  buffer : List Frame
  counters : LinkCounters
  lastFault : Option LinkFault
  events : EventSet
  mask : EventSet
  sending : Option Sending
  waiting : List Waiting
deriving DecidableEq, Repr

/-! ## The whole part -/

/-- What one block hands the Job Controller inside an arrival, and the Job Controller's own continuations (log 15). -/
inductive JctMsg where
  /-- The outcome of a move the Job Controller ordered (R25). -/
  | moveEnded (kind : MoveKind) (outcome : MoveOutcome) (attempt : Nat)
  /-- A change of spindle or actuator state (R108). -/
  | posChanged
  /-- The spindle arriving at AT_SPEED (R21, R120). -/
  | atSpeed
  /-- The spindle arriving at OFF_SPEED (R21, R118). -/
  | offSpeed
  /-- The actuator leaving FOLLOWING during a skew measurement (R93). -/
  | departed (dest : ActState) (attempt : Nat)
  /-- A window's ending report (R58). -/
  | windowEnded (report : WindowReport) (attempt : Nat)
  /-- A gate's ending report (R85). -/
  | gateEnded (record : GateRecord) (attempt : Nat)
  /-- The anchor record of the switch point (R91). -/
  | switchPoint (attempt : Nat)
  /-- An index arrival in GATE_P before the switch point (R91). -/
  | switchLost (attempt : Nat)
  /-- The heat level arriving at HOT (R151). -/
  | hot
  /-- The heat level leaving HOT (R152). -/
  | leftHot
  /-- The return of the SELECT or the SPINDLE group to the engine (R164, R165). -/
  | linesReturned
  /-- PREAMP_FAULT becoming active with the heads loaded (R122). -/
  | preampFault
  /-- The cursor comes to a head-zone (R107). -/
  | takeUp
  /-- A head-zone enters PREPARE (R108). -/
  | prepare
  /-- The start conditions are tested (R106). -/
  | startTest
  /-- The rest condition is tested once every step of R103 is complete (R160). -/
  | restTest
deriving DecidableEq, Repr

/-- The state of the FGA-2040. -/
structure State where
  /-- The 200 MHz timebase: ticks since the power-on reset (log 3). -/
  now : Nat
  sdc : Sdc
  pos : Pos
  /-- The open window, `none` when CLOSED (R44). -/
  window : Option Window
  gcu : Gcu
  jct : Jct
  hmp : Hmp
  chm : Chm
  rtm : Rtm
  flc : Flc
  pst : Pst
  blk : Blk
  /-- The MODEL's counter that selects the next free value (log 12). -/
  free : Nat
  /-- The MODEL's list of reports handed to the Job Controller inside one arrival (log 15). -/
  inbox : List JctMsg
  /-- The MODEL's queue of commands that wait, first in, first out (log 1). -/
  pending : List Instr
deriving DecidableEq, Repr

/-- An empty head-map copy of the given shape (R125). -/
def emptyMap (heads zones : Nat) : List HeadRecord :=
  List.replicate heads { excluded := false, zones := List.replicate zones {} }

/-- The default rest source table (R158). -/
def defaultRestTable : RestTable :=
  { motionReq := .a, jobReq := .a, jobEnd := .a, mapReq := .b, readReq := .none, lineReq := .b, configReq := .b }

/-- The Rest Timers' values after either reset (R162). -/
def Rtm.reset : Rtm :=
  { a := { preset := 30000, due := none }, b := { preset := 0, due := none }, table := defaultRestTable }

/-- The event set with every kind, or none. -/
def EventSet.all (b : Bool) : EventSet :=
  { jobEnd := b, jobHeld := b, thermal := b, motion := b, preamp := b, link := b, profile := b }

/-- The part right after the power-on reset: the power-on columns of R15, R42, R61, R87, R124, R142, R155, R162, R170,
R175 and R193. The values the manual does not state are named in log 8, 9, 10, 38 and 39. -/
def State.reset : State :=
  { now := 0
    sdc := { expect := none, marker := false, counters := List.replicate 20 {}, slotDue := none }
    pos :=
      { spindle := .stopped, indexRef := none, period := none, inTol := 0, outTol := 0, spinDownPending := false
        spinupDue := none, silenceDue := none, quietDue := none, act := .parked, deadline := none, target := 0
        offset := 0, control := 0, acqRun := 0, settleRun := 0, otRun := 0, lossRun := 0, held := none
        spinMove := none, actMove := none, seekOrigin := 0, unloadCause := .bench, lastBench := none, lastPark := none }
    window := none
    gcu :=
      { state := .idle, mode := .chained, head := none, stageL := 0, stageU := 0, start := 0, overflow := none, last := none
        attempt := 0 }
    jct :=
      { table := [], finished := [], nextId := 1, ctx := {}, attempt := 0, zoneFailed := false, recoverDue := none }
    hmp := { working := emptyMap 4 16, published := emptyMap 4 16, gen := 0, unpub := false }
    chm := { heat := 0, level := .cool, pace := 0, hot := 0, last := none, nextTick := 2000000 }
    rtm := Rtm.reset
    flc :=
      { selectBench := false, spindleBench := false, senseBench := false, engineHead := 0, benchHead := 0
        benchMode := .standby, benchSpin := false, heldRamp := .onRamp, heldPreamp := .inactive, liveRamp := .onRamp
        livePreamp := .inactive }
    pst :=
      { state := .starting, profile := {}, source := .defaulted, defaulted := false, unsaved := false, startup := .loaded
        save := none, lastSave := .none, loadDue := some 100000000, memory := List.replicate Config.memoryBytes 0xFF
        late := 0 }
    blk :=
      { asm := { state := .hunt, len := 0, got := [], gapDue := none }, buffer := [], counters := {}, lastFault := none
        events := EventSet.all false, mask := EventSet.all true, sending := none, waiting := [] }
    free := 0
    inbox := []
    pending := [] }

end Sys2Proof.Machine
end

