-- ==== Sys2Proof/Machine/Ops.lean ====
section
/-! DEFINITION. The named operations every block uses: one update per field of State, reports to the Job Controller, the
clock, saturation and the two divisions of R63, and the small questions about the state that more than one block asks. -/

namespace Sys2Proof.Machine

/-! ## One update per field -/

/-- Replace the field `now`. -/
def State.setNow (s : State) (x : Nat) : State := { s with now := x }

/-- Replace the field `sdc`. -/
def State.setSdc (s : State) (x : Sdc) : State := { s with sdc := x }

/-- Replace the field `pos`. -/
def State.setPos (s : State) (x : Pos) : State := { s with pos := x }

/-- Replace the field `window`. -/
def State.setWindow (s : State) (x : Option Window) : State := { s with window := x }

/-- Replace the field `gcu`. -/
def State.setGcu (s : State) (x : Gcu) : State := { s with gcu := x }

/-- Replace the field `jct`. -/
def State.setJct (s : State) (x : Jct) : State := { s with jct := x }

/-- Replace the field `hmp`. -/
def State.setHmp (s : State) (x : Hmp) : State := { s with hmp := x }

/-- Replace the field `chm`. -/
def State.setChm (s : State) (x : Chm) : State := { s with chm := x }

/-- Replace the field `rtm`. -/
def State.setRtm (s : State) (x : Rtm) : State := { s with rtm := x }

/-- Replace the field `flc`. -/
def State.setFlc (s : State) (x : Flc) : State := { s with flc := x }

/-- Replace the field `pst`. -/
def State.setPst (s : State) (x : Pst) : State := { s with pst := x }

/-- Replace the field `blk`. -/
def State.setBlk (s : State) (x : Blk) : State := { s with blk := x }

/-- Replace the field `free`. -/
def State.setFree (s : State) (x : Nat) : State := { s with free := x }

/-- Replace the field `inbox`. -/
def State.setInbox (s : State) (x : List JctMsg) : State := { s with inbox := x }

/-- Replace the field `pending`. -/
def State.setPending (s : State) (x : List Instr) : State := { s with pending := x }

/-! ## Reports to the Job Controller (log 15) -/

/-- Hand the Job Controller a report; it takes it after the reports handed before. -/
def State.tell (s : State) (m : JctMsg) : State := s.setInbox (s.inbox ++ [m])

/-- The Job Controller goes on with `m` before it takes the next report. -/
def State.goOn (s : State) (m : JctMsg) : State := s.setInbox (m :: s.inbox)

/-! ## The clock (log 3) -/

/-- The clock stands at tick `t` or later. -/
def State.atTick (s : State) (t : Nat) : State := s.setNow (max s.now t)

/-- A number of milliseconds in ticks. -/
def msTicks (n : Nat) : Nat := n * Config.ticksPerMs

/-- The tick `n` milliseconds from now. -/
def State.inMs (s : State) (n : Nat) : Nat := s.now + msTicks n

/-! ## Arithmetic (00_scope section 4.2) -/

/-- Addition that saturates at `cap`: a value that would pass the bound stands at the bound. -/
def satAdd (cap n k : Nat) : Nat := min cap (n + k)

/-- Round half away from zero (R63): magnitude divided, the quotient raised when twice the remainder reaches the divisor,
the sign restored. -/
def roundDiv (n : Int) (d : Nat) : Int :=
  let q := n.natAbs / d
  let r := n.natAbs % d
  let m : Nat := if d ≤ 2 * r then q + 1 else q
  if n < 0 then -(m : Int) else (m : Int)

/-- Replace a value outside `lo` to `hi` by the nearer bound (00_scope section 4.2, Clamping). -/
def clampInt (lo hi x : Int) : Int := if x < lo then lo else if hi < x then hi else x

/-- Clamping of an unsigned value. -/
def clampNat (lo hi x : Nat) : Nat := if x < lo then lo else if hi < x then hi else x

/-! ## Questions about the state -/

/-- The current profile (R171). -/
def State.prof (s : State) : Profile := s.pst.profile

/-- The five loaded states (R23). -/
def ActState.isLoaded : ActState → Bool
  | .loading => true
  | .acquiring => true
  | .following => true
  | .seeking => true
  | .settling => true
  | .parked => false
  | .unloading => false

/-- SPIN_ENABLE as driven by the engine, by the spindle state: the third column of R18's table. -/
def SpindleState.engineSpin : SpindleState → EngineSpin
  | .stopped => .off
  | .accelerating => .on
  | .atSpeed => .on
  | .offSpeed => .on
  | .braking => .off
  | .bench => .notDriven

/-- Whether the engine drives SPIN_ENABLE on (R18). -/
def SpindleState.enable (x : SpindleState) : Bool := x.engineSpin == .on

/-- The slot period in whole ticks (R1): the latest revolution period, or N_REV_NOM before any, divided by S. -/
def State.slotPeriod (s : State) : Nat := s.pos.period.getD s.prof.nRevNom / s.prof.sectors

/-- The engine view of RAMP_SENSE (R163): live while SENSE is engine-owned, held while it is bench-owned. -/
def State.rampView (s : State) : Ramp := if s.flc.senseBench then s.flc.heldRamp else s.flc.liveRamp

/-- The engine view of PREAMP_FAULT (R163). -/
def State.preampView (s : State) : PreampLine := if s.flc.senseBench then s.flc.heldPreamp else s.flc.livePreamp

/-- The head number driven on the head-select lines, the selected head (R163, R164). -/
def State.drivenHead (s : State) : Nat := if s.flc.selectBench then s.flc.benchHead else s.flc.engineHead

/-- The engine's preamp mode: READ in every actuator state but PARKED (R164). -/
def State.engineMode (s : State) : PreampMode := if s.pos.act = .parked then .standby else .read

/-- The preamp mode driven on the lines (R163). -/
def State.drivenMode (s : State) : PreampMode := if s.flc.selectBench then s.flc.benchMode else s.engineMode

/-- The level driven on SPIN_ENABLE (R165). -/
def State.spinEnable (s : State) : Bool := if s.flc.spindleBench then s.flc.benchSpin else s.pos.spindle.enable

/-- The spindle drive output (R165): regulated by the Positioner while the SPINDLE group is engine-owned and the spindle state
drives the motor (R18); while the group is bench-owned, running the motor without regulation whenever the bench level is
ON. -/
def State.spindleDrive (s : State) : SpindleDrive :=
  if s.flc.spindleBench then if s.flc.benchSpin then .unregulated else .released
  else if s.pos.spindle.enable then .regulated else .released

/-- The voice-coil drive output (R23, R29, R38; 00_scope section 6). -/
def State.coilDrive (s : State) : CoilDrive :=
  match s.pos.act with
  | .parked => .holdOnRamp
  | .loading => .loadPath
  | .acquiring => .holdTrack s.pos.control
  | .following => .toOffset s.pos.target s.pos.offset s.pos.control
  | .seeking => .toTrack s.pos.target s.pos.control
  | .settling => .toOffset s.pos.target s.pos.offset s.pos.control
  | .unloading => .unloadPath

/-- A job is active when it is RUNNING or SUSPENDED (R106). -/
def Job.isActive (j : Job) : Bool := j.state != .queued

/-- The active job, if any (R106). -/
def State.active (s : State) : Option Job := s.jct.table.find? Job.isActive

/-- The active job while it is RUNNING. -/
def State.running (s : State) : Option Job :=
  match s.active with
  | some j => if j.state = .running then some j else none
  | none => none

/-- The phase at the cursor of the RUNNING job. -/
def State.runningPhase (s : State) : Option Phase := s.running.bind fun j => j.cursor.map (·.phase)

/-- The phases of a skew measurement (R93). -/
def Phase.isSkew : Phase → Bool
  | .period => true
  | .gateA => true
  | .gateP => true
  | .prepare => false
  | .zoneSeek => false
  | .collect => false
  | .jog1 => false
  | .collect1 => false
  | .jog2 => false
  | .collect2 => false
  | .compute => false

end Sys2Proof.Machine
end

