-- ==== Sys2Proof/Machine/Flags.lean ====
section
/-! DEFINITION. The event pending set, the notice mask and the waiting notices of the Bench Link (R187 to R189). -/

namespace Sys2Proof.Machine

/-- Whether a kind is in the set. -/
def EventSet.has (e : EventSet) : EventKind → Bool
  | .jobEnd => e.jobEnd
  | .jobHeld => e.jobHeld
  | .thermal => e.thermal
  | .motion => e.motion
  | .preamp => e.preamp
  | .link => e.link
  | .profile => e.profile

/-- Put a kind into the set or take it out. -/
def EventSet.put (e : EventSet) (k : EventKind) (b : Bool) : EventSet :=
  match k with
  | .jobEnd => { e with jobEnd := b }
  | .jobHeld => { e with jobHeld := b }
  | .thermal => { e with thermal := b }
  | .motion => { e with motion := b }
  | .preamp => { e with preamp := b }
  | .link => { e with link := b }
  | .profile => { e with profile := b }

/-- The bit number of a kind in the mask byte and in a notice (R189, R194). -/
def EventKind.code : EventKind → Nat
  | .jobEnd => 0
  | .jobHeld => 1
  | .thermal => 2
  | .motion => 3
  | .preamp => 4
  | .link => 5
  | .profile => 6

/-- Every kind, in ascending bit order. -/
def EventKind.inOrder : List EventKind := [.jobEnd, .jobHeld, .thermal, .motion, .preamp, .link, .profile]

/-- The set as a number, a bit per kind (R189). -/
def EventSet.bits (e : EventSet) : Nat :=
  EventKind.inOrder.foldl (fun n k => n + if e.has k then 2 ^ k.code else 0) 0

/-- The set that the bits of a number name (R189). -/
def EventSet.ofBits (n : Nat) : EventSet :=
  { jobEnd := n.testBit 0, jobHeld := n.testBit 1, thermal := n.testBit 2, motion := n.testBit 3
    preamp := n.testBit 4, link := n.testBit 5, profile := n.testBit 6 }

/-- Whether a waiting record is the notice of kind `k`. -/
def Waiting.isNotice (k : EventKind) : Waiting → Bool
  | .notice k' => k' == k
  | .reply _ _ => false

/-- Whether a waiting record is a reply. -/
def Waiting.isReply : Waiting → Bool
  | .notice _ => false
  | .reply _ _ => true

/-- The notice of `k` joins the end of the list of waiting records (R187). -/
def Blk.joinNotice (b : Blk) (k : EventKind) : Blk := { b with waiting := b.waiting ++ [.notice k] }

/-- The waiting notice of `k` is withdrawn unsent (R187). -/
def Blk.withdraw (b : Blk) (k : EventKind) : Blk := { b with waiting := b.waiting.filter fun w => !w.isNotice k }

/-- A kind becomes pending (R188): from not pending to pending with its mask bit on, its notice joins the list; a kind
already pending stays pending and causes no further notice. -/
def Blk.raise (b : Blk) (k : EventKind) : Blk :=
  if b.events.has k then b
  else
    let b' := { b with events := b.events.put k true }
    if b.mask.has k then b'.joinNotice k else b'

/-- A kind is cleared, and its notice withdrawn if it still waits (R187, R188). -/
def Blk.clear (b : Blk) (k : EventKind) : Blk := ({ b with events := b.events.put k false } : Blk).withdraw k

/-- What EVENT_MASK_WRITE does for one kind (R189): its bit goes from off to on while pending, its notice joins the list;
its bit goes off, its waiting notice is withdrawn. -/
def Blk.remask (before after : EventSet) (b : Blk) (k : EventKind) : Blk :=
  if after.has k then
    if !before.has k && b.events.has k then b.joinNotice k else b
  else b.withdraw k

/-- Replace the notice mask (R189). -/
def Blk.setMask (b : Blk) (m : EventSet) : Blk :=
  EventKind.inOrder.foldl (Blk.remask b.mask m) { b with mask := m }

/-- An event kind becomes pending (R188). -/
def State.raise (s : State) (k : EventKind) : State := s.setBlk (s.blk.raise k)

/-- An event kind is cleared by its owner's read (R188). -/
def State.clearEvent (s : State) (k : EventKind) : State := s.setBlk (s.blk.clear k)

end Sys2Proof.Machine
end

