-- ==== Sys2Proof/Machine/Decoder.lean ====
section
/-! DEFINITION. The Sector Decoder (chapter 1) and the head selection of Fixture Line Control that it observes (R6, R164). -/

namespace Sys2Proof.Machine

/-! ## Head selection -/

/-- The Sector Decoder takes a change of the driven head from `before` (R6): another head while not PARKED arms the recovery
marker, another head while PARKED clears it, the same head is no change. -/
def State.takeHeadChange (s : State) (before : Nat) : State :=
  if s.drivenHead = before then s
  else s.setSdc { s.sdc with marker := s.pos.act != .parked }

/-- A block of the part asks for a head (R164): it becomes the engine selection, and it is driven while SELECT is
engine-owned. -/
def State.selectHead (s : State) (h : Nat) : State :=
  (s.setFlc { s.flc with engineHead := h }).takeHeadChange s.drivenHead

/-! ## Slots -/

/-- Slots begin when the actuator leaves PARKED (R1). -/
def State.startSlots (s : State) : State := s.setSdc { s.sdc with slotDue := some (s.now + s.slotPeriod) }

/-- The actuator arrives at PARKED: slots stop, the expectation becomes unset, the marker is cleared (R1, R6, R9). -/
def State.stopSlots (s : State) : State :=
  s.setSdc { s.sdc with expect := none, marker := false, slotDue := none }

/-- Decoding the reflected-binary track code (R3): going down from the most significant digit, a digit is 1 when the code
digit differs from the track-number digit just above it. `acc` holds the digits decided, the latest as bit 0. -/
def grayStep (code : BitVec 18) (acc i : Nat) : Nat :=
  2 * acc + if code.getLsbD i = (acc % 2 == 1) then 0 else 1

/-- The track number of a code (R3). -/
def decodeTrack (code : BitVec 18) : Nat :=
  [17, 16, 15, 14, 13, 12, 11, 10, 9, 8, 7, 6, 5, 4, 3, 2, 1, 0].foldl (grayStep code) 0

/-- What a slot that found a sync mark carries: a sector number of S or greater is a miss (R2). -/
def markOf (sectors : Nat) (sector : BitVec 10) (code : BitVec 18) (e o : BitVec 12) : Option Mark :=
  if sector.toNat < sectors then
    some { sector := sector.toNat, track := decodeTrack code, e := e.toNat, o := o.toNat }
  else none

/-- The class of a record, the first check that applies (R4). -/
def classify (p : Profile) (marker : Bool) (mark : Option Mark) : SectorClass :=
  if marker then .recovery
  else
    match mark with
    | none => .miss
    | some m => if p.trackMax < m.track then .wild else if m.e + m.o < p.ampFloor then .weak else .good

/-- The PES of a mark, truncated toward zero (R5). -/
def pesOf (m : Mark) : Int := (8192 * ((m.e : Int) - m.o)).tdiv (m.e + m.o : Nat)

/-- The expectation after a slot (R8). -/
def nextExpect (sectors : Nat) (expect : Option Nat) : Option Mark → Option Nat
  | some m => some ((m.sector + 1) % sectors)
  | none => expect.map fun n => (n + 1) % sectors

/-- Whether a slot's SLIP counter is due to increment (R8). -/
def slipDue (expect : Option Nat) : Option Mark → Bool
  | some m => expect.any fun n => n != m.sector
  | none => false

/-- The record of a slot (R10). -/
def formRecord (s : State) (mark : Option Mark) : SectorRecord :=
  let cls := classify s.prof s.sdc.marker mark
  { head := s.drivenHead
    mark := mark
    cls := cls
    pes := if cls = .good then (mark.map pesOf).getD 0 else 0
    slip := slipDue s.sdc.expect mark }

/-- Increment a counter, saturating at 65,535 (R12). -/
def bump (n : Nat) : Nat := satAdd 65535 n 1

/-- What a record adds to the counters of its head (R12). -/
def HeadCounters.count (c : HeadCounters) (cls : SectorClass) (slip : Bool) : HeadCounters :=
  { miss := if cls = .miss then bump c.miss else c.miss
    weak := if cls = .weak then bump c.weak else c.weak
    wild := if cls = .wild then bump c.wild else c.wild
    slip := if slip then bump c.slip else c.slip }

/-- The Sector Decoder's own share of a slot's end (R4, R6, R8, R12): the record counted, the expectation updated, the
marker cleared, and the next slot begun at tick `start` (R1). -/
def State.endSlot (s : State) (r : SectorRecord) (start : Nat) : State :=
  s.setSdc
    { expect := nextExpect s.prof.sectors s.sdc.expect r.mark
      marker := false
      counters := s.sdc.counters.modify r.head fun c => c.count r.cls r.slip
      slotDue := some (start + s.slotPeriod) }

/-- The Window Collector reports a reclassification: the WILD counter of that head increments (R12, R51). -/
def State.countWild (s : State) (head : Nat) : State :=
  s.setSdc { s.sdc with counters := s.sdc.counters.modify head fun c => { c with wild := bump c.wild } }

/-- The counters of a head (R12). -/
def State.headCounters (s : State) (head : Nat) : HeadCounters := s.sdc.counters.getD head {}

/-- The values of a BENCH_RESET and of an accepted profile (R15, R9). -/
def State.clearDecoder (s : State) : State :=
  s.setSdc { s.sdc with expect := none, marker := false, counters := List.replicate 20 {} }

end Sys2Proof.Machine
end

