-- ==== Sys2Proof/Machine/Windows.lean ====
section
/-! DEFINITION. The Window Collector (chapter 3): opening, schedule, entries, endings. -/

namespace Sys2Proof.Machine

/-- The window mean of a COMPLETE window (R53). -/
def Window.mean (w : Window) : Int := roundDiv w.sumV w.size

/-- Whether an ending is reported to the Job Controller: all but ABANDONED with cause RESET (R58). -/
def WindowEnding.reported : WindowEnding → Bool
  | .abandoned .reset => false
  | .abandoned .job => true
  | .abandoned .unload => true
  | .abandoned .replaced => true
  | .complete => true
  | .poorServo => true
  | .timeout => true
  | .offTrack => true

/-- The ending report of a window (R59). -/
def Window.report (w : Window) (e : WindowEnding) : WindowReport :=
  { ending := e, window := w, mean := if e = .complete then some w.mean else none }

/-- The window `w` ends (R58): the ending kind and mean fixed, the anchor selected if in PROBE_VISIT, the report handed on,
the state CLOSED. -/
def State.closeWindow (s : State) (w : Window) (e : WindowEnding) : State :=
  let s1 := if w.probing then s.selectHead s.prof.anchor else s
  let s2 := if e.reported then s1.tell (.windowEnded (w.report e) w.attempt) else s1
  s2.setWindow none

/-- An open window ends; a CLOSED collector is unchanged. -/
def State.endWindow (s : State) (e : WindowEnding) : State :=
  match s.window with
  | some w => s.closeWindow w e
  | none => s

/-- The ending that the actuator's leaving FOLLOWING gives (R56). -/
def departureEnding : ActState → WindowEnding
  | .unloading => .abandoned .unload
  | .parked => .abandoned .unload
  | .loading => .offTrack
  | .acquiring => .offTrack
  | .following => .offTrack
  | .seeking => .offTrack
  | .settling => .offTrack

/-- The window record an opening order builds (R45). -/
def State.newWindow (s : State) (kind : WindowKind) (head size attempt : Nat) : Window :=
  { probing := false, kind := kind, head := head, anchorOnly := head == s.prof.anchor, size := size
    follow := s.prof.follow, visit := s.prof.visit, limit := s.prof.windowRevs, track := s.pos.target
    offset := s.pos.offset, pos := 0, revs := 0, used := 0, weak := 0, miss := 0, wild := 0, sumV := 0, sumAmp := 0
    attempt := attempt }

/-- The Job Controller's opening order (R45): a window already open ends ABANDONED with cause REPLACED; outside FOLLOWING
the new window ends at once as OFF_TRACK. -/
def State.openWindow (s : State) (kind : WindowKind) (head size attempt : Nat) : State :=
  let s1 := s.endWindow (.abandoned .replaced)
  let w := s1.newWindow kind head size attempt
  if s1.pos.act = .following then s1.setWindow (some w) else s1.closeWindow w .offTrack

/-- One entry of a record of the measured head (R50 to R52), before the endings are tested. -/
def Window.enter (w : Window) (r : SectorRecord) : Window :=
  match r.cls with
  | .recovery => w
  | .miss => { w with miss := bump w.miss }
  | .wild => { w with wild := bump w.wild }
  | .weak => { w with weak := bump w.weak }
  | .good =>
    match r.mark with
    | none => w
    | some m =>
      let dt : Int := (m.track : Int) - w.track
      if dt.natAbs ≤ 127 then
        { w with used := w.used + 1, sumV := w.sumV + (dt * 16384 + r.pes), sumAmp := w.sumAmp + (m.e + m.o) }
      else { w with wild := bump w.wild }

/-- Whether a GOOD record of the measured head is reclassified WILD (R51). -/
def Window.reclassifies (w : Window) (r : SectorRecord) : Bool :=
  r.cls == .good && r.mark.any fun m => !decide (((m.track : Int) - w.track).natAbs ≤ 127)

/-- The ending an entry brings (R53, R54), completion tested first. -/
def Window.entryEnding (w : Window) : Option WindowEnding :=
  if w.size ≤ w.used then some .complete
  else if w.size / 4 < w.miss + w.wild then some .poorServo
  else none

/-- A record of the measured head is entered, and the window ends where the entry brings an ending (R50 to R54). The second
component says whether the window is still open. -/
def State.enterRecord (s : State) (w : Window) (r : SectorRecord) : State × Bool :=
  let w' := w.enter r
  let s1 := (if w.reclassifies r then s.countWild r.head else s).setWindow (some w')
  if r.cls = .recovery then (s1, true)
  else
    match w'.entryEnding with
    | some e => (s1.closeWindow w' e, false)
    | none => (s1, true)

/-- A record in FOLLOW_RUN of an ordinary window (R46). -/
def State.followRecord (s : State) (w : Window) : State :=
  if w.pos + 1 < w.follow then s.setWindow (some { w with pos := w.pos + 1 })
  else if s.pos.act = .following then
    (s.selectHead w.head).setWindow (some { w with probing := true, pos := 0 })
  else s.closeWindow { w with pos := w.pos + 1 } (departureEnding s.pos.act)

/-- The schedule's step after a record of PROBE_VISIT that left the window open (R47). -/
def State.visitStep (s : State) (w : Window) : State :=
  if w.pos < w.visit then s.setWindow (some w)
  else (s.selectHead s.prof.anchor).setWindow (some { w with probing := false, pos := 0 })

/-- A record in PROBE_VISIT (R47): taken into the counts when its head is the measured head. -/
def State.visitRecord (s : State) (w : Window) (r : SectorRecord) : State :=
  let w1 := { w with pos := w.pos + 1 }
  if r.head = w.head then
    match s.enterRecord w1 r with
    | (s1, true) => s1.visitStep (w1.enter r)
    | (s1, false) => s1
  else s.visitStep w1

/-- The Window Collector takes a sector record (R46, R47, R49). -/
def State.windowRecord (s : State) (r : SectorRecord) : State :=
  match s.window with
  | none => s
  | some w =>
    if w.anchorOnly then (if r.head = w.head then (s.enterRecord w r).1 else s)
    else if w.probing then s.visitRecord w r
    else s.followRecord w

/-- The Window Collector takes an index arrival (R55). -/
def State.windowIndex (s : State) : State :=
  match s.window with
  | none => s
  | some w =>
    let w' := { w with revs := w.revs + 1 }
    if w.limit ≤ w.revs + 1 then s.closeWindow w' .timeout else s.setWindow (some w')

end Sys2Proof.Machine
end

