-- ==== Sys2Proof/Machine/Span.lean ====
section
/-! DEFINITION. The Span Calculator (chapter 4, and section 5.4): it holds no state; every function answers a result from what
its request carries and the current profile (R62). -/

namespace Sys2Proof.Machine

/-! ## Span (R66 to R72) -/

/-- The whole tracks of D by floor (R63): the magnitude divided by 16,384, a negative quotient lowered by one where a
remainder stands. -/
def wholeTracks (d : Int) : Int :=
  let q := d.natAbs / 16384
  if 0 ≤ d then (q : Int) else if d.natAbs % 16384 = 0 then -(q : Int) else -(q : Int) - 1

/-- The fraction of D by floor (R63), 0 to 16,383. -/
def fractionOf (d : Int) : Nat :=
  let r := d.natAbs % 16384
  if 0 ≤ d then r else if r = 0 then 0 else 16384 - r

/-- The gain (R67), from the difference of the means and the jog span. -/
def spanGain (v1 v2 : Int) (jogSpan : Nat) : Int := roundDiv (256 * (v1 - v2)) jogSpan

/-- The centre reading (R68). -/
def centreReading (v1 v2 o2 : Int) (jogSpan : Nat) : Int := v2 + roundDiv ((v1 - v2) * (0 - o2)) jogSpan

/-- The offset from the anchor (R69). -/
def anchorOffset (v0 : Int) (g : Nat) : Int := roundDiv (256 * v0) g

/-- The span arithmetic on the four inputs of R66: gain and its test (R67), centre reading (R68), offset and its test (R69),
split (R70). -/
def spanFrom (p : Profile) (v1 v2 o1 o2 : Int) : SpanResult :=
  let jogSpan := (o1 - o2).toNat
  let g := spanGain v1 v2 jogSpan
  if g < p.gainMinQ8 ∨ (p.gainMaxQ8 : Int) < g then .fault .gainRange
  else
    let d := anchorOffset (centreReading v1 v2 o2 jogSpan) g.toNat
    if 2080768 < d.natAbs then .fault .offsetRange
    else .ok { d := d, dt := wholeTracks d, df := fractionOf d, g := g, v1 := v1, v2 := v2, o1 := o1, o2 := o2 }

/-- The span computation on two COMPLETE reports (R66). -/
def spanComputation (p : Profile) (first second : WindowReport) : SpanResult :=
  spanFrom p (first.mean.getD 0) (second.mean.getD 0) first.window.offset second.window.offset

/-! ## Qualification (R73 to R77) -/

/-- A rounded quotient, absent when the divisor is 0 (R74). -/
def figure (n d : Nat) : Option Nat := if d = 0 then none else some (roundDiv n d).toNat

/-- The three qualification figures of a window (R74). DEDUCED (log 43): a TIMEOUT window without used sectors has a weak figure
when it entered a weak one, by R74's table; R76's last sentence speaks of none. -/
def qualFigures (w : Window) : QualFigures :=
  { amp := figure w.sumAmp w.used
    weak := figure (1000 * w.weak) (w.used + w.weak)
    miss := figure (1000 * w.miss) (w.used + w.weak + w.miss + w.wild) }

/-- The verdict on the figures of a COMPLETE window, the first failing test giving the reason (R75). -/
def completeVerdict (p : Profile) (f : QualFigures) : QualifyResult :=
  if f.amp.getD 0 < p.ampMin then .fail .amplitude f
  else if p.weakMaxPm < f.weak.getD 0 then .fail .weak f
  else if p.missMaxPm < f.miss.getD 0 then .fail .miss f
  else .pass f

/-- The qualification computation (R73, R75, R76); `none` for an ending that is not sent for computation. -/
def qualification (p : Profile) (r : WindowReport) : Option QualifyResult :=
  let f := qualFigures r.window
  match r.ending with
  | .complete => some (completeVerdict p f)
  | .poorServo => some (.fail .miss f)
  | .timeout => some (.fail .timeout f)
  | .offTrack => none
  | .abandoned _ => none

/-! ## Skew (R95 to R97) -/

/-- The skew before its clamp (R95). -/
def rawSkew (sectors nRev ra rh sumA sumH : Nat) : Int :=
  roundDiv (4096 * sectors * ((sumH : Int) * ra - (sumA : Int) * rh)) (ra * rh * nRev)

/-- The skew computation (R95, R96). -/
def skewComputation (sectors nRev ra rh sumA sumH : Nat) : SkewResult :=
  let k := rawSkew sectors nRev ra rh sumA sumH
  .ok
    { skew := clampInt (-16383) 16383 k, ra := ra, rh := rh, nRev := nRev
      saturated := decide (k < -16383) || decide (16383 < k) }

end Sys2Proof.Machine
end

