-- ==== Sys2Proof/Machine/HeadMap.lean ====
section
/-! DEFINITION. The Head Map (chapter 7): capture, derived states, exclusion, clearing, publishing. -/

namespace Sys2Proof.Machine

/-! ## Reading a copy -/

/-- The slots of a head-zone; every slot absent outside the copy (R125). -/
def slotsOf (m : List HeadRecord) (head zone : Nat) : ZoneSlots :=
  match m[head]? with
  | some r => r.zones.getD zone {}
  | none => {}

/-- A head's exclude flag or EXCLUDED mark (R125). -/
def excludedIn (m : List HeadRecord) (head : Nat) : Bool := (m[head]?).any fun r => r.excluded

/-- Whether a qualify entry is FAIL (R126). -/
def QualifyResult.isFail : QualifyResult → Bool
  | .pass _ => false
  | .fail _ _ => true

/-- The derived head state from a head's qualify entries (R130). -/
def HeadRecord.derived (r : HeadRecord) : HeadState :=
  let es := r.zones.filterMap fun z => z.qualify
  if es.isEmpty then .unknown else if es.any (fun e => e.result.isFail) then .disqualified else .qualified

/-- The derived state of a head of a copy (R130). -/
def derivedIn (m : List HeadRecord) (head : Nat) : HeadState :=
  match m[head]? with
  | some r => r.derived
  | none => .unknown

/-! ## Capture (R129) -/

/-- The outcome of a head-zone, as the Span Calculator or the Job Controller forms it. -/
inductive Result where
  | qualify (r : QualifyResult)
  | span (r : SpanResult)
  | skew (r : SkewResult)
deriving DecidableEq, Repr

/-- Replace the entry of the result's kind (R129). -/
def ZoneSlots.put (z : ZoneSlots) (r : Result) (job : Nat) : ZoneSlots :=
  match r with
  | .qualify x => { z with qualify := some { result := x, job := job } }
  | .span x => { z with span := some { result := x, job := job } }
  | .skew x => { z with skew := some { result := x, job := job } }

/-- Replace one slot of a copy. -/
def putEntry (m : List HeadRecord) (head zone : Nat) (r : Result) (job : Nat) : List HeadRecord :=
  m.modify head fun h => { h with zones := h.zones.modify zone fun z => z.put r job }

/-- A capture from the Job Controller (R129): the entry written into the working copy, the unpublished indication set
(R140). -/
def State.capture (s : State) (head zone : Nat) (r : Result) (job : Nat) : State :=
  s.setHmp { s.hmp with working := putEntry s.hmp.working head zone r job, unpub := true }

/-! ## Excluding and clearing (R131, R133) -/

/-- Set a head's exclude flag of the working copy to `flag`; a change sets the unpublished indication (R131, R140). -/
def State.setExcluded (s : State) (head : Nat) (flag : Bool) : State :=
  if excludedIn s.hmp.working head = flag then s
  else
    s.setHmp
      { s.hmp with working := s.hmp.working.modify head (fun h => { h with excluded := flag }), unpub := true }

/-- An empty head record of the current profile's shape. -/
def State.emptyHead (s : State) : HeadRecord :=
  { excluded := false, zones := List.replicate s.prof.zoneCount {} }

/-- Every slot of a head absent and its flag clear (R133). -/
def State.clearHead (s : State) (head : Nat) : State :=
  s.setHmp { s.hmp with working := s.hmp.working.modify head (fun _ => s.emptyHead), unpub := true }

/-- An empty copy of the current profile's shape (R125). -/
def State.emptyCopy (s : State) : List HeadRecord := emptyMap s.prof.headCount s.prof.zoneCount

/-- The working copy emptied (R133). -/
def State.clearMap (s : State) : State := s.setHmp { s.hmp with working := s.emptyCopy, unpub := true }

/-- Both copies emptied, the generation 0, the unpublished indication clear: the values of an accepted profile (R143). -/
def State.emptyMaps (s : State) : State :=
  s.setHmp { working := s.emptyCopy, published := s.emptyCopy, gen := 0, unpub := false }

/-- The values of a BENCH_RESET (R142). -/
def State.resetMap (s : State) : State :=
  s.setHmp { s.hmp with working := s.emptyCopy, unpub := s.hmp.gen != 0 }

/-! ## Publishing (R134 to R136) -/

/-- The D and g of a span entry that carries them: OK, or REFERENCE with D = 0 and g = 256 (R72, R127). -/
def SpanResult.dg : SpanResult → Option (Int × Int)
  | .ok f => some (f.d, f.g)
  | .reference => some (0, 256)
  | .fault _ => none

/-- The skew of a skew entry that carries it (R97, R128). -/
def SkewResult.value : SkewResult → Option Int
  | .ok f => some f.skew
  | .reference => some 0
  | .fault _ => none

/-- Check 2 at a head-zone (R134): the span entry present, OK or REFERENCE, its g within the gain limits. -/
def spanCheck (p : Profile) (z : ZoneSlots) : Bool :=
  match z.span.bind fun e => e.result.dg with
  | some (_, g) => decide ((p.gainMinQ8 : Int) ≤ g) && decide (g ≤ (p.gainMaxQ8 : Int))
  | none => false

/-- Check 3 at a head-zone (R134): the skew entry present, OK or REFERENCE. -/
def skewCheck (z : ZoneSlots) : Bool := (z.skew.bind fun e => e.result.value).isSome

/-- The D of a head-zone that has passed check 2. -/
def ZoneSlots.d (z : ZoneSlots) : Int := ((z.span.bind fun e => e.result.dg).map (·.1)).getD 0

/-- The skew of a head-zone that has passed check 3. -/
def ZoneSlots.skewValue (z : ZoneSlots) : Int := (z.skew.bind fun e => e.result.value).getD 0

/-- Check 4 between neighbouring zones (R134). -/
def stepCheck (p : Profile) (below z : ZoneSlots) : Bool :=
  decide ((z.d - below.d).natAbs ≤ p.zoneStepMax) && decide ((z.skewValue - below.skewValue).natAbs ≤ p.skewStepMax)

/-- A failed publish check: head, zone (255 for check 1) and the number of the check (R135). -/
structure PublishFault where
  head : Nat
  zone : Nat
  check : Nat
deriving DecidableEq, Repr

/-- The walk over the zones of one head from zone `zone` on, `below` being the zone below (R135, step 3). -/
def walkZones (p : Profile) (head : Nat) : (zone : Nat) → (below : Option ZoneSlots) → List ZoneSlots → Option PublishFault
  | _, _, [] => none
  | zone, below, z :: zs =>
    if spanCheck p z = false then some { head := head, zone := zone, check := 2 }
    else if skewCheck z = false then some { head := head, zone := zone, check := 3 }
    else if (below.any fun b => !stepCheck p b z) = true then some { head := head, zone := zone, check := 4 }
    else walkZones p head (zone + 1) (some z) zs

/-- The walk over one head (R135, steps 1 to 3). -/
def walkHead (p : Profile) (head : Nat) (r : HeadRecord) : Option PublishFault :=
  if r.excluded then none
  else if r.derived = .qualified then walkZones p head 0 none r.zones
  else some { head := head, zone := 255, check := 1 }

/-- The walk over the heads from head `head` on: the first failure (R135). -/
def walkHeads (p : Profile) : (head : Nat) → List HeadRecord → Option PublishFault
  | _, [] => none
  | head, r :: rs =>
    match walkHead p head r with
    | some f => some f
    | none => walkHeads p (head + 1) rs

/-- The next generation (R136, step 3). -/
def nextGen (g : Nat) : Nat := if g = 65535 then 1 else g + 1

/-- A successful publish (R136). -/
def State.publish (s : State) : State :=
  s.setHmp { s.hmp with published := s.hmp.working, gen := nextGen s.hmp.gen, unpub := false }

end Sys2Proof.Machine
end

