-- ==== Sys2Proof/Machine/Gates.lean ====
section
/-! DEFINITION. The Gate Counter Unit (chapter 5, sections 5.1 and 5.2). -/

namespace Sys2Proof.Machine

/-- Ticks a COUNTING gate has counted at tick `now`. -/
def Gcu.ticks (g : Gcu) (now : Nat) : Nat := now - g.start

/-- Stage L at tick `now` (R80 to R83): while COUNTING, the lower half of the ticks in CHAINED mode and the ticks in SPLIT
mode, which stand at 65,535 until the overflow is taken; otherwise the stage as last fixed (log 29). -/
def Gcu.liveL (g : Gcu) (now : Nat) : Nat :=
  match g.state with
  | .counting =>
    match g.mode with
    | .chained => min 4294967295 (g.ticks now) % 65536
    | .split => min 65535 (g.ticks now)
  | .idle => g.stageL
  | .armed => g.stageL

/-- Stage U at tick `now`: the upper half of the ticks in CHAINED mode; the marks counted in SPLIT mode (R81, R82). -/
def Gcu.liveU (g : Gcu) (now : Nat) : Nat :=
  match g.state with
  | .counting =>
    match g.mode with
    | .chained => min 4294967295 (g.ticks now) / 65536
    | .split => g.stageU
  | .idle => g.stageU
  | .armed => g.stageU

/-- The gate ends (R85): the stages fixed, the last ending record replaced, the report handed to the Job Controller but for
an abort with cause RESET, the gate IDLE. -/
def State.endGate (s : State) (ending : GateEnding) (cause : Option AbortCause) (value : Option Nat)
    (by' : Option ClosedBy) (overflowed : Option Stage) (l u : Nat) : State :=
  let g := s.gcu
  let r : GateRecord :=
    { ending := ending, abortCause := cause, mode := g.mode, head := g.head, value := value, closedBy := by'
      marks := if g.mode = .split && ending != .aborted then some u else none
      overflowed := if ending = .overrange then overflowed else none }
  let s1 := s.setGcu { g with state := .idle, stageL := l, stageU := u, overflow := overflowed, last := some r }
  if cause = some .reset then s1 else s1.tell (.gateEnded r g.attempt)

/-- The Job Controller's arm order (R79); `none` when it is not taken, with cause BUSY. -/
def State.armGate (s : State) (mode : GateMode) (head : Option Nat) (attempt : Nat) : Option State :=
  match s.gcu.state with
  | .idle => some (s.setGcu { s.gcu with state := .armed, mode := mode, head := head, attempt := attempt })
  | .armed => none
  | .counting => none

/-- The Job Controller's abort order (R84). -/
def State.abortGate (s : State) (cause : AbortCause) : State :=
  match s.gcu.state with
  | .idle => s
  | .armed => s.endGate .aborted (some cause) none none s.gcu.overflow s.gcu.stageL s.gcu.stageU
  | .counting => s.endGate .aborted (some cause) none none none (s.gcu.liveL s.now) (s.gcu.liveU s.now)

/-- The Gate Counter Unit takes an index arrival at tick `t` (R80, R81). -/
def State.gateIndex (s : State) (t : Nat) : State :=
  match s.gcu.state with
  | .idle => s
  | .armed => s.setGcu { s.gcu with state := .counting, stageL := 0, stageU := 0, overflow := none, start := t }
  | .counting =>
    match s.gcu.mode with
    | .split => s
    | .chained =>
      let v := min 4294967295 (s.gcu.ticks t)
      s.endGate .closed none (some v) (some .index) none (v % 65536) (v / 65536)

/-- Whether a SPLIT gate uses a record (R82): of the gate head, with a mark, not RECOVERY. -/
def Gcu.usesRecord (g : Gcu) (r : SectorRecord) : Bool :=
  g.head == some r.head && r.mark.isSome && r.cls != .recovery

/-- The Gate Counter Unit takes a sector record whose mark came at tick `t` (R78, R82). -/
def State.gateRecord (s : State) (r : SectorRecord) (t : Nat) : State :=
  if s.gcu.state = .counting ∧ s.gcu.mode = .split ∧ s.gcu.usesRecord r then
    let l := min 65535 (s.gcu.ticks t)
    if (r.mark.map (·.sector)) = some 0 then s.endGate .closed none (some l) (some .mark) none l s.gcu.stageU
    else if s.gcu.stageU + 1 < 3 then s.setGcu { s.gcu with stageU := s.gcu.stageU + 1 }
    else s.endGate .missed none none none none l (s.gcu.stageU + 1)
  else s

/-- The values of a BENCH_RESET (R87). -/
def State.resetGate (s : State) : State :=
  let s1 := s.abortGate .reset
  s1.setGcu { s1.gcu with mode := .chained, head := none, stageL := 0, stageU := 0, overflow := none }

end Sys2Proof.Machine
end

