-- ==== Sys2Proof/Machine/Operands.lean ====
section
/-! DEFINITION. The forms in which values cross the bench serial line and stand in the saved record (R194): little-endian
fields, two's complement, enumerated fields by position, presence bytes, indication bytes; and the two cyclic checks
(R174, R182). -/

namespace Sys2Proof.Machine

/-! ## Fields -/

/-- The low byte of a number. -/
def byteOf (n : Nat) : Byte := BitVec.ofNat 8 n

/-- A number in `w` bytes, little-endian. -/
def leBytes : (w : Nat) → Nat → List Byte
  | 0, _ => []
  | w + 1, n => byteOf n :: leBytes w (n / 256)

/-- A signed number in `w` bytes, little-endian two's complement. -/
def leSigned (w : Nat) (x : Int) : List Byte := leBytes w ((x % (256 ^ w : Nat)).toNat)

/-- The number that bytes hold, little-endian. -/
def leNat : List Byte → Nat
  | [] => 0
  | b :: bs => b.toNat + 256 * leNat bs

/-- The signed number that bytes hold, little-endian two's complement. -/
def leInt (bs : List Byte) : Int :=
  let n := leNat bs
  if 2 * n < 256 ^ bs.length then (n : Int) else (n : Int) - (256 ^ bs.length : Nat)

/-- `w` bytes of a payload from offset `i`. -/
def fieldBytes (p : List Byte) (i w : Nat) : List Byte := (p.drop i).take w

/-- The byte at offset `i`, as a number. -/
def byteAt (p : List Byte) (i : Nat) : Nat := (p.getD i 0).toNat

/-- One indication or Bool as a byte 0 or 1. -/
def boolByte (b : Bool) : Byte := if b then 1 else 0

/-- Indications packed as bits of one byte, from bit 0. -/
def packBits : List Bool → Nat
  | [] => 0
  | b :: bs => (if b then 1 else 0) + 2 * packBits bs

/-- The packed indication byte. -/
def bitsByte (bs : List Bool) : Byte := byteOf (packBits bs)

/-- An optional item: a presence byte, then the item when present (R194). -/
def optItem (x : Option (List Byte)) : List Byte :=
  match x with
  | some bs => 1 :: bs
  | none => [0]

/-- A list of records: a one-byte count, then the records (R194). -/
def listItem (xs : List (List Byte)) : List Byte := byteOf xs.length :: xs.flatten

/-! ## Enumerated fields (R194: the position, counted from 0, in the list of the rule that first specifies the value) -/

/-- R18. -/
def SpindleState.code : SpindleState → Nat
  | .stopped => 0
  | .accelerating => 1
  | .atSpeed => 2
  | .offSpeed => 3
  | .braking => 4
  | .bench => 5

/-- R23. -/
def ActState.code : ActState → Nat
  | .parked => 0
  | .loading => 1
  | .acquiring => 2
  | .following => 3
  | .seeking => 4
  | .settling => 5
  | .unloading => 6

/-- R25: BENCH, JOB or NONE. -/
def Owner.code : Owner → Nat
  | .bench => 0
  | .job _ => 1
  | .nobody => 2

/-- R25. -/
def MoveKind.code : MoveKind → Nat
  | .spinUp => 0
  | .spinDown => 1
  | .load => 2
  | .seek => 3
  | .jog => 4
  | .unload => 5

/-- R25, in the order in which its table first names the outcomes (log 18). -/
def MoveOutcome.code : MoveOutcome → Nat
  | .spunUp => 0
  | .spinupFail => 1
  | .interrupted _ => 2
  | .stopped => 3
  | .loaded => 4
  | .loadFail => 5
  | .settled => 6
  | .settleTimeout => 7
  | .seekTimeout => 8
  | .parked => 9
  | .parkedUnconfirmed => 10

/-- R38. -/
def UnloadCause.code : UnloadCause → Nat
  | .bench => 0
  | .loadFail => 1
  | .seekTimeout => 2
  | .servoLost => 3
  | .spindle => 4
  | .preamp => 5
  | .rest => 6
  | .thermal => 7

/-- R44. -/
def WindowKind.code : WindowKind → Nat
  | .qualify => 0
  | .span => 1

/-- R78. -/
def GateState.code : GateState → Nat
  | .idle => 0
  | .armed => 1
  | .counting => 2

/-- R78: CHAINED or SPLIT. -/
def GateMode.code : GateMode → Nat
  | .chained => 0
  | .split => 1

/-- R85. -/
def GateEnding.code : GateEnding → Nat
  | .closed => 0
  | .missed => 1
  | .overrange => 2
  | .aborted => 3

/-- The overflow indication: 0 none, 1 L, 2 U (R194). -/
def overflowCode : Option Stage → Nat
  | none => 0
  | some .l => 1
  | some .u => 2

/-- Reason codes 0 to 13 (R194). -/
def Reason.code : Reason → Nat
  | .none => 0
  | .gainRange => 1
  | .offsetRange => 2
  | .notQualified => 3
  | .anchor => 4
  | .timeout => 5
  | .poorServo => 6
  | .offTrack => 7
  | .settleTimeout => 8
  | .skewMiss => 9
  | .overrange => 10
  | .amplitude => 11
  | .weak => 12
  | .miss => 13

/-- R194's explicit values of MAP_READ: 0 UNKNOWN, 1 QUALIFIED, 2 DISQUALIFIED. DEDUCED (log 18): the replies of MAP_EXCLUDE and
MAP_INCLUDE carry the same values, and not the positions of R130's table. -/
def HeadState.code : HeadState → Nat
  | .unknown => 0
  | .qualified => 1
  | .disqualified => 2

/-- R98. -/
def JobKind.code : JobKind → Nat
  | .qualify => 0
  | .span => 1
  | .skew => 2

/-- The job kind a payload byte names (R194). -/
def JobKind.ofCode : Nat → Option JobKind
  | 0 => some .qualify
  | 1 => some .span
  | 2 => some .skew
  | _ => none

/-- R98. -/
def JobState.code : JobState → Nat
  | .queued => 0
  | .running => 1
  | .suspended => 2

/-- A reason set as bits 0, 1 and 2 for BENCH, THERMAL and SPINDLE (R194). -/
def Reasons.byte (r : Reasons) : Byte := bitsByte [r.bench, r.thermal, r.spindle]

/-- R98. -/
def Phase.code : Phase → Nat
  | .prepare => 0
  | .zoneSeek => 1
  | .collect => 2
  | .jog1 => 3
  | .collect1 => 4
  | .jog2 => 5
  | .collect2 => 6
  | .period => 7
  | .gateA => 8
  | .gateP => 9
  | .compute => 10

/-- R194: 0 DONE, 1 DONE_PARTIAL, 2 FAILED, 3 CANCELLED. -/
def FinalState.code : FinalState → Nat
  | .done => 0
  | .donePartial => 1
  | .failed => 2
  | .cancelled => 3

/-- R194: 0 LOAD_FAIL to 4 ANCHOR, 255 absent. -/
def failReasonCode : Option FailReason → Nat
  | some .loadFail => 0
  | some .spinupFail => 1
  | some .spindle => 2
  | some .preamp => 3
  | some .anchor => 4
  | none => 255

/-- The conditions of R105, in its order. -/
def WaitCond.code : WaitCond → Nat
  | .spunUp => 0
  | .stopped => 1
  | .spindleGroup => 2
  | .loaded => 3
  | .followingOrParked => 4
  | .parked => 5
  | .selectGroup => 6
  | .heldSeek => 7
  | .seekOutcome => 8

/-- R144. -/
def HeatLevel.code : HeatLevel → Nat
  | .cool => 0
  | .warm => 1
  | .hot => 2

/-- R144. -/
def LevelCause.code : LevelCause → Nat
  | .tick => 0
  | .seek => 1
  | .jog => 2
  | .profile => 3
  | .reset => 4

/-- 0 NONE, 1 A, 2 B: R186's codes of the request, in the reply too (log 18). -/
def RestMap.code : RestMap → Nat
  | .none => 0
  | .a => 1
  | .b => 2

/-- The mapping a table entry names (R186). -/
def RestMap.ofCode : Nat → Option RestMap
  | 0 => some .none
  | 1 => some .a
  | 2 => some .b
  | _ => Option.none

/-- SLEEP, STANDBY or READ (R163). -/
def PreampMode.code : PreampMode → Nat
  | .sleep => 0
  | .standby => 1
  | .read => 2

/-- The preamp mode a payload byte names (R168). -/
def PreampMode.ofCode : Nat → Option PreampMode
  | 0 => some .sleep
  | 1 => some .standby
  | 2 => some .read
  | _ => none

/-- SPIN_ENABLE as driven by the engine: off, on, not driven by the engine, in the order in which R18's table first names
them (R41, log 18). -/
def EngineSpin.code : EngineSpin → Nat
  | .off => 0
  | .on => 1
  | .notDriven => 2

/-- A SPIN_ENABLE level of the SPINDLE group: ON or OFF, in the order in which R163 lists them (R168, R169, log 18). -/
def levelCode (on : Bool) : Nat := if on then 0 else 1

/-- The SPIN_ENABLE level a payload byte names (R168, log 18). -/
def levelOfCode : Nat → Option Bool
  | 0 => some true
  | 1 => some false
  | _ => none

/-- ENGINE or BENCH (R163); a set bit means BENCH. -/
def ownerCode (bench : Bool) : Nat := if bench then 1 else 0

/-- ON_RAMP or OFF_RAMP (R163). -/
def rampCode : Ramp → Nat
  | .onRamp => 0
  | .offRamp => 1

/-- ACTIVE or INACTIVE (R163). -/
def preampCode : PreampLine → Nat
  | .active => 0
  | .inactive => 1

/-- R171. -/
def StoreState.code : StoreState → Nat
  | .starting => 0
  | .ready => 1
  | .saving => 2

/-- R171. -/
def ProfileSource.code : ProfileSource → Nat
  | .loaded => 0
  | .defaulted => 1
  | .written => 2

/-- The cause byte of the start-up record (R171). DEDUCED (log 18): LOADED, which has no cause, is 0, and the causes follow it in
R171's order. -/
def StartupRecord.code : StartupRecord → Nat
  | .loaded => 0
  | .read => 1
  | .check => 2
  | .value _ => 3

/-- The field index of the start-up record, 0 where it names none. -/
def StartupRecord.field : StartupRecord → Nat
  | .value i => i
  | .loaded => 0
  | .read => 0
  | .check => 0

/-- R171. -/
def SaveStage.code : SaveStage → Nat
  | .erase => 0
  | .record => 1
  | .checkWord => 2

/-- R171. -/
def SaveOutcome.code : SaveOutcome → Nat
  | .none => 0
  | .done => 1
  | .failed _ => 2
  | .abandoned => 3

/-- The stage of a FAILED save, 0 where the outcome names none. -/
def SaveOutcome.stageCode : SaveOutcome → Nat
  | .failed st => st.code
  | .none => 0
  | .done => 0
  | .abandoned => 0

/-- R181. -/
def AsmState.code : AsmState → Nat
  | .hunt => 0
  | .length => 1
  | .body => 2
  | .check => 3

/-- The table of R183. -/
def RxFault.code : RxFault → Nat
  | .length => 0
  | .gap => 1
  | .check => 2
  | .overrun => 3

/-! ## Cyclic checks -/

/-- One shift of the CRC-8 with polynomial x^8 + x^2 + x + 1 (R182). -/
def crc8Shift (c : BitVec 8) : BitVec 8 := if c.msb then (c <<< 1) ^^^ 0x07 else c <<< 1

/-- `k` shifts. -/
def crc8Shifts : Nat → BitVec 8 → BitVec 8
  | 0, c => c
  | k + 1, c => crc8Shifts k (crc8Shift c)

/-- One byte of the CRC-8, most significant bit first. -/
def crc8Byte (c b : Byte) : Byte := crc8Shifts 8 (c ^^^ b)

/-- The CRC-8 of R182: initial value 0, each byte most significant bit first, no final inversion. -/
def crc8 (bs : List Byte) : Byte := bs.foldl crc8Byte 0

/-- One shift of the CRC-16 with polynomial x^16 + x^12 + x^5 + 1 (R174). -/
def crc16Shift (c : BitVec 16) : BitVec 16 := if c.msb then (c <<< 1) ^^^ 0x1021 else c <<< 1

/-- `k` shifts. -/
def crc16Shifts : Nat → BitVec 16 → BitVec 16
  | 0, c => c
  | k + 1, c => crc16Shifts k (crc16Shift c)

/-- One byte of the CRC-16, most significant bit first. -/
def crc16Byte (c : Half) (b : Byte) : Half := crc16Shifts 8 (c ^^^ ((b.setWidth 16 : Half) <<< (8 : Nat)))

/-- The CRC-16 of R174 before its most significant bit is cleared: initial value 0xFFFF, no final inversion. -/
def crc16 (bs : List Byte) : Half := bs.foldl crc16Byte 0xFFFF

/-- The check word of a record (R174): the CRC-16 with its most significant bit cleared. -/
def checkWord (record : List Byte) : Half := crc16 record &&& 0x7FFF

end Sys2Proof.Machine
end

