-- ==== Sys2Proof/Machine/Positioner.lean ====
section
/-! DEFINITION. The Positioner's moves, state changes, orders and unloads (chapter 2), but for its handling of sector records
and index arrivals (Servo.lean). -/

namespace Sys2Proof.Machine

/-- Why a request or an order is not taken (the refusal codes of R186). -/
inductive RefuseCode where
  | unknownKind | badLength | badValue | full | busy | notFound | notActive | notParked | notStopped | linesHeld | spindle
  | preamp | hot | anchor | publishCheck | starting | saving
deriving DecidableEq, Repr

/-- A refusal: its code and its detail bytes as numbers (R194; PUBLISH_CHECK carries head and zone behind the check). -/
structure Refuse where
  code : RefuseCode
  detail : Nat := 0
  more : List Nat := []
deriving DecidableEq, Repr

/-! ## Moves and their outcomes (R25) -/

/-- The outcome of a move reaches its owner: the Job Controller, the last bench-move outcome, or no one (R25). -/
def State.reportMove (s : State) (m : Move) (o : MoveOutcome) : State :=
  match m.owner with
  | .bench => s.setPos { s.pos with lastBench := some (m.kind, o) }
  | .job n => s.tell (.moveEnded m.kind o n)
  | .nobody => s

/-- The actuator move in flight, if any, ends with an outcome. -/
def State.endActMove (s : State) (o : MoveOutcome) : State :=
  match s.pos.actMove with
  | some m => (s.setPos { s.pos with actMove := none }).reportMove m o
  | none => s

/-- The spindle move in flight, if any, ends with an outcome. -/
def State.endSpinMove (s : State) (o : MoveOutcome) : State :=
  match s.pos.spinMove with
  | some m => (s.setPos { s.pos with spinMove := none }).reportMove m o
  | none => s

/-- A held seek, if any, is discarded and ends INTERRUPTED (R33). -/
def State.discardHeld (s : State) (c : StopCause) : State :=
  match s.pos.held with
  | some h => (s.setPos { s.pos with held := none }).reportMove { kind := .seek, owner := h.owner } (.interrupted c)
  | none => s

/-! ## Changes of state -/

/-- The actuator leaves FOLLOWING for `a` (R31): the open window ends (R56), and the Job Controller learns of it during
a skew measurement (R93). -/
def State.departFollowing (s : State) (a : ActState) : State :=
  let s1 := s.endWindow (departureEnding a)
  if (s.runningPhase.map Phase.isSkew) = some true then s1.tell (.departed a s.jct.attempt) else s1

/-- The actuator becomes `a` with deadline `d`: every run count 0 (R24), slots begun on leaving PARKED (R1), the
departure from FOLLOWING told (R31), the change reported (R108). -/
def State.setAct (s : State) (a : ActState) (d : Option ActDeadline) : State :=
  let was := s.pos.act
  let s1 := s.setPos
    { s.pos with act := a, deadline := d, acqRun := 0, settleRun := 0, otRun := 0, lossRun := 0 }
  let s2 := if was = .parked ∧ a ≠ .parked then s1.startSlots else s1
  let s3 := if was = .following ∧ a ≠ .following then s2.departFollowing a else s2
  s3.tell .posChanged

/-- The spindle becomes `st`; every change is reported (R108). -/
def State.setSpindle (s : State) (st : SpindleState) : State :=
  (s.setPos { s.pos with spindle := st }).tell .posChanged

/-- An actuator deadline of `n` milliseconds that starts now. -/
def State.deadlineIn (s : State) (k : DeadlineKind) (n : Nat) : Option ActDeadline := some { kind := k, due := s.inMs n }

/-- The spindle becomes BRAKING (R22): SPIN_ENABLE off, the 500 ms limit started; a pending spin-down is thereby carried
out (R28). -/
def State.brake (s : State) : State :=
  (s.setPos
    { s.pos with spinDownPending := false, spinupDue := none, silenceDue := none, quietDue := some (s.inMs 500) }).setSpindle
    .braking

/-- The actuator arrives at PARKED (R39): park record replaced, unload move ended, slots stopped, a pending spin-down
carried out; UNCONFIRMED makes MOTION pending. -/
def State.arrivePark (s : State) (unconfirmed : Bool) : State :=
  let s1 := s.setPos { s.pos with lastPark := some (s.pos.unloadCause, unconfirmed) }
  let s2 := s1.endActMove (if unconfirmed then .parkedUnconfirmed else .parked)
  let s3 := (s2.setAct .parked none).stopSlots
  let s4 := if unconfirmed then s3.raise .motion else s3
  if s4.pos.spinDownPending then s4.brake else s4

/-- An unload begins, from any loaded state (R38); RAMP_SENSE is checked on entry (R39). In PARKED and UNLOADING a
demand changes nothing. DESIGN CHOICE (log 22): a held seek ends before the move in flight. -/
def State.beginUnload (s : State) (c : UnloadCause) : State :=
  if s.pos.act.isLoaded then
    let s1 := (s.discardHeld (.unload c)).endActMove (.interrupted (.unload c))
    let s2 := s1.setAct .unloading (s1.deadlineIn .unload s1.prof.unloadMs)
    let s3 := s2.setPos
      { s2.pos with
        actMove := some { kind := .unload, owner := if c = .bench then .bench else .nobody }
        unloadCause := c }
    let s4 := if c = .bench then s3 else s3.raise .motion
    if s4.rampView = .onRamp then s4.arrivePark false else s4
  else s

/-! ## Spinning up and down (R27, R28) -/

/-- SPIN_UP by the spindle state, for the bench or the Job Controller (R20, R27). -/
def State.takeSpinUp (s : State) (o : Owner) : Except Refuse State :=
  match s.pos.spindle with
  | .stopped =>
    .ok ((s.setPos
      { s.pos with inTol := 0, spinupDue := some (s.inMs s.prof.spinupMs), quietDue := none
                   spinMove := some { kind := .spinUp, owner := o } }).setSpindle .accelerating)
  | .accelerating => .ok (s.setPos { s.pos with spinMove := some { kind := .spinUp, owner := o } })
  | .atSpeed | .offSpeed =>
    if s.pos.spinDownPending then
      .ok ((s.setPos { s.pos with spinDownPending := false }).endSpinMove (.interrupted .spinUp))
    else .ok s
  | .braking => .error { code := .busy }
  | .bench => .error { code := .linesHeld }

/-- Put a spin-down move owned by `o` in flight. -/
def State.newSpinDown (s : State) (o : Owner) : State :=
  s.setPos { s.pos with spinMove := some { kind := .spinDown, owner := o } }

/-- SPIN_DOWN by the spindle and actuator states (R28). -/
def State.takeSpinDown (s : State) (o : Owner) : Except Refuse State :=
  match s.pos.spindle with
  | .stopped => .ok s
  | .braking => .ok (s.newSpinDown o)
  | .accelerating => .ok (((s.endSpinMove (.interrupted .spinDown)).newSpinDown o).brake)
  | .atSpeed | .offSpeed =>
    if s.pos.act = .parked then .ok ((s.newSpinDown o).brake)
    else
      let s1 := s.newSpinDown o
      .ok ((s1.setPos { s1.pos with spinDownPending := true }).beginUnload .bench)
  | .bench => .error { code := .linesHeld }

/-! ## Loading (R29) -/

/-- HEADS_LOAD, or a load order (R29): the actuator state, then the three conditions, in order. -/
def State.takeLoad (s : State) (o : Owner) : Except Refuse State :=
  match s.pos.act with
  | .loading | .unloading => .error { code := .busy }
  | .acquiring | .following | .seeking | .settling => .ok s
  | .parked =>
    if s.flc.selectBench then .error { code := .linesHeld }
    else if s.pos.spindle ≠ .atSpeed then .error { code := .spindle }
    else if s.preampView = .active then .error { code := .preamp }
    else
      let s1 := s.selectHead s.prof.anchor
      let s2 := s1.setAct .loading (s1.deadlineIn .load s1.prof.loadMs)
      .ok (s2.setPos { s2.pos with actMove := some { kind := .load, owner := o } })

/-! ## Seeking and jogging (R32, R33, R35) -/

/-- Whether the Coil Heat Monitor lets a seek start (R150); in HOT, no. -/
def Chm.maySeek (c : Chm) (p : Profile) : Bool :=
  match c.level with
  | .cool => true
  | .warm => decide (p.paceTicks ≤ c.pace)
  | .hot => false

/-- A seek is started (R32). -/
def State.startSeek (s : State) (track : Nat) (offset : Int) (o : Owner) : State :=
  let s1 := s.endActMove (.interrupted .replaced)
  let s2 := s1.setPos { s1.pos with seekOrigin := s1.pos.target, target := track, offset := offset }
  let s3 := s2.setAct .seeking (s2.deadlineIn .seek s2.prof.seekMs)
  s3.setPos { s3.pos with actMove := some { kind := .seek, owner := o } }

/-- A jog from FOLLOWING (R35). -/
def State.startJog (s : State) (offset : Int) (o : Owner) : State :=
  let s1 := s.endActMove (.interrupted .replaced)
  let s2 := s1.setPos { s1.pos with offset := offset }
  let s3 := s2.setAct .settling (s2.deadlineIn .settle s2.prof.settleMs)
  s3.setPos { s3.pos with actMove := some { kind := .jog, owner := o } }

/-- A new target offset in SETTLING (R32, R36): SETTLE_MS restarts, the settle run is 0, a jog move replaces any move.
-/
def State.restartSettle (s : State) (offset : Int) (o : Owner) : State :=
  let s1 := s.endActMove (.interrupted .replaced)
  s1.setPos
    { s1.pos with
      offset := offset
      settleRun := 0
      deadline := s1.deadlineIn .settle s1.prof.settleMs
      actMove := some { kind := .jog, owner := o } }

/-- A seek in flight is redirected (R32): the same move with a new target and a new owner; SEEK_MS restarts. -/
def State.redirectSeek (s : State) (track : Nat) (offset : Int) (o : Owner) : State :=
  s.setPos
    { s.pos with
      target := track
      offset := offset
      deadline := s.deadlineIn .seek s.prof.seekMs
      actMove := some { kind := .seek, owner := o } }

/-- How a seek or jog order was taken. -/
inductive SeekTaken where
  /-- No change: the target already stands as named. -/
  | unchanged
  /-- A move began or was redirected. -/
  | moving
  /-- The seek is held (R33). -/
  | held
deriving DecidableEq, Repr

/-- A seek to another track from FOLLOWING or SETTLING: started, or held when it may not start yet (R33). A held seek
before it is replaced, and ends before the move in flight (DESIGN CHOICE, log 22). -/
def State.seekOrHold (s : State) (track : Nat) (offset : Int) (o : Owner) : SeekTaken × State :=
  let s1 := s.discardHeld .replaced
  if s1.chm.maySeek s1.prof then (.moving, s1.startSeek track offset o)
  else (.held, s1.setPos { s1.pos with held := some { track := track, offset := offset, owner := o } })

/-- SEEK by the actuator state, its offset already clamped (the table of R32). DESIGN CHOICE (log 22): a held seek ends
before the move in flight. -/
def State.takeSeek (s : State) (track : Nat) (offset : Int) (o : Owner) : Except Refuse (SeekTaken × State) :=
  match s.pos.act with
  | .parked | .loading | .acquiring | .unloading => .error { code := .busy, detail := s.pos.act.code }
  | .following =>
    if track = s.pos.target then
      if offset = s.pos.offset then .ok (.unchanged, s.discardHeld .replaced)
      else .ok (.moving, (s.discardHeld .replaced).startJog offset o)
    else .ok (s.seekOrHold track offset o)
  | .seeking => .ok (.moving, s.redirectSeek track offset o)
  | .settling =>
    if track = s.pos.target then
      if offset = s.pos.offset then .ok (.unchanged, s.discardHeld .replaced)
      else .ok (.moving, (s.discardHeld .replaced).restartSettle offset o)
    else .ok (s.seekOrHold track offset o)

/-- A jog order of the Job Controller (R35): taken in FOLLOWING alone. DESIGN CHOICE (log 22): a held seek of the bench
stays held through it. -/
def State.takeJog (s : State) (offset : Int) (o : Owner) : Except Refuse State :=
  if s.pos.act = .following then .ok (s.startJog offset o) else .error { code := .busy }

/-- A held seek is released (R33, R150): started without asking again, and removed. -/
def State.releaseHeld (s : State) : State :=
  match s.pos.held with
  | some h =>
    if s.pos.act = .following ∨ s.pos.act = .settling then
      (s.setPos { s.pos with held := none }).startSeek h.track h.offset h.owner
    else s
  | none => s

end Sys2Proof.Machine
end

