-- ==== Sys2Proof/Machine/Heat.lean ====
section
/-! DEFINITION. The Coil Heat Monitor (chapter 8). -/

namespace Sys2Proof.Machine

/-- The level after, from the level before and H (R146). -/
def nextLevel (p : Profile) (before : HeatLevel) (h : Nat) : HeatLevel :=
  match before with
  | .cool => if p.hotOn ≤ h then .hot else if p.warmOn ≤ h then .warm else .cool
  | .warm => if p.hotOn ≤ h then .hot else if h < p.warmOff then .cool else .warm
  | .hot => if h < p.warmOff then .cool else if h < p.hotOff then .warm else .hot

/-- The level that BENCH_RESET reads from H alone (R155). -/
def levelOfHeat (p : Profile) (h : Nat) : HeatLevel :=
  if p.hotOff ≤ h then .hot else if p.warmOff ≤ h then .warm else .cool

/-- A change of level is recorded and makes THERMAL pending (R147). -/
def State.recordLevel (s : State) (after : HeatLevel) (c : LevelCause) : State :=
  (s.setChm { s.chm with level := after, last := some { before := s.chm.level, after := after, cause := c } }).raise .thermal

/-- The level becomes `after` (R147): no change hands nothing on; an arrival at HOT goes to the Job Controller, which takes it
before any other report of the arrival, so that a job makes no order in HOT, and discards a held seek (R151, log 15); a
departure from HOT goes to the Job Controller (R152); WARM to COOL releases a held seek (R150). -/
def State.changeLevel (s : State) (after : HeatLevel) (c : LevelCause) : State :=
  let before := s.chm.level
  if after = before then s
  else
    let s1 := s.recordLevel after c
    match before, after with
    | _, .hot => (s1.goOn .hot).discardHeld .hot
    | .hot, _ => s1.tell .leftHot
    | .warm, .cool => s1.releaseHeld
    | _, _ => s1

/-- The level is recomputed from H (R146). -/
def State.recompute (s : State) (c : LevelCause) : State :=
  s.changeLevel (nextLevel s.prof s.chm.level s.chm.heat) c

/-- Add heat, saturating at 65,535 (R144). -/
def State.addHeat (s : State) (n : Nat) : State := s.setChm { s.chm with heat := satAdd 65535 s.chm.heat n }

/-- A seek completion of distance `d` (R148): the cost added, the level recomputed, the pace count 0. -/
def State.seekCost (s : State) (d : Nat) : State :=
  let s1 := (s.addHeat (s.prof.seekBase + d / s.prof.seekDiv)).recompute .seek
  s1.setChm { s1.chm with pace := 0 }

/-- A jog completion (R149). -/
def State.jogCost (s : State) : State := (s.addHeat s.prof.jogCost).recompute .jog

/-- The decay of one heat tick (R145, stage 1). -/
def decay (p : Profile) (h : Nat) : Nat := h - h * p.decayQ8 / 256

/-- Stages 1 and 2 of a heat tick (R145): decay, then the holding cost with the heads loaded. -/
def State.tickHeat (s : State) : State :=
  let s1 := s.setChm { s.chm with heat := decay s.prof s.chm.heat }
  if s1.pos.act.isLoaded then s1.addHeat s1.prof.holdCost else s1

/-- Stage 4 of a heat tick (R145): the pace count, and the release of a held seek in WARM (R150). -/
def State.tickPace (s : State) : State :=
  let s1 := s.setChm { s.chm with pace := satAdd 65535 s.chm.pace 1 }
  if s1.chm.level = .warm ∧ s1.prof.paceTicks ≤ s1.chm.pace then s1.releaseHeld else s1

/-- Stage 5 of a heat tick (R153): the HOT count, and the unload it demands. DESIGN CHOICE (log 41): a count that an acceptance
left at or above a lowered HOT_PARK_TICKS (R156) demands the unload at the next tick that counts. -/
def State.tickHot (s : State) : State :=
  if s.chm.level = .hot ∧ s.pos.act.isLoaded then
    if s.prof.hotParkTicks ≤ s.chm.hot + 1 then (s.setChm { s.chm with hot := 0 }).beginUnload .thermal
    else s.setChm { s.chm with hot := s.chm.hot + 1 }
  else s.setChm { s.chm with hot := 0 }

/-- A heat tick, its five stages in order (R145). -/
def State.takeHeatTick (s : State) : State := ((s.tickHeat.recompute .tick).tickPace).tickHot

/-- The level of a BENCH_RESET (R155): recomputed from H alone; a change is recorded with cause RESET and reaches no one but
the Bench Link. -/
def State.resetHeat (s : State) : State :=
  let s1 := s.setChm { s.chm with hot := 0 }
  let after := levelOfHeat s1.prof s1.chm.heat
  if after = s1.chm.level then s1 else s1.recordLevel after .reset

end Sys2Proof.Machine
end

