-- ==== Sys2Proof/Machine/Rest.lean ====
section
/-! DEFINITION. The Rest Timers (chapter 9, sections 9.1 to 9.3). -/

namespace Sys2Proof.Machine

/-- What the table maps a source to (R158). -/
def RestTable.of (t : RestTable) : Source → RestMap
  | .motionReq => t.motionReq
  | .jobReq => t.jobReq
  | .jobEnd => t.jobEnd
  | .mapReq => t.mapReq
  | .readReq => t.readReq
  | .lineReq => t.lineReq
  | .configReq => t.configReq

/-- A timer is RUNNING while its count is above 0 (R157). -/
def Timer.isRunning (t : Timer) : Bool := t.due.isSome

/-- The remaining count in milliseconds at tick `now` (R157): 0 when EXPIRED; a RUNNING timer's millisecond in progress
counts whole, and the count stands at 1 until its expiry is taken (log 28). -/
def Timer.remaining (t : Timer) (now : Nat) : Nat :=
  match t.due with
  | none => 0
  | some d => max 1 ((d - now + (Config.ticksPerMs - 1)) / Config.ticksPerMs)

/-- A reload at tick `now` (R157, R158): one full preset from here; a preset of 0 ignores it. -/
def Timer.reload (t : Timer) (now : Nat) : Timer :=
  if t.preset = 0 then t else { t with due := some (now + msTicks t.preset) }

/-- A new preset (R161, step 2): a remaining count above it is reduced to it; a preset of 0 makes the timer EXPIRED. -/
def Timer.represet (t : Timer) (preset now : Nat) : Timer :=
  { preset := preset
    due := if preset = 0 then none else t.due.map fun d => min d (now + msTicks preset) }

/-- An arrival of an activity source reloads the timer it is mapped to (R158). -/
def State.reload (s : State) (src : Source) : State :=
  match s.rtm.table.of src with
  | .none => s
  | .a => s.setRtm { s.rtm with a := s.rtm.a.reload s.now }
  | .b => s.setRtm { s.rtm with b := s.rtm.b.reload s.now }

/-- The rest condition (R160): both timers EXPIRED, the actuator FOLLOWING, no job RUNNING. -/
def State.restHolds (s : State) : Bool :=
  !s.rtm.a.isRunning && !s.rtm.b.isRunning && s.pos.act == .following && s.running.isNone

/-- The rest test (R160). -/
def State.restTest (s : State) : State := if s.restHolds then s.beginUnload .rest else s

/-- The expiry of a timer (R157, R159): the clock at its tick, the timer EXPIRED, the rest condition tested. A timer that is
not RUNNING makes no expiry. -/
def State.expireTimer (s : State) (which : RestTimer) : State :=
  match which with
  | .a =>
    match s.rtm.a.due with
    | some d => ((s.atTick d).setRtm { s.rtm with a := { s.rtm.a with due := none } }).restTest
    | none => s
  | .b =>
    match s.rtm.b.due with
    | some d => ((s.atTick d).setRtm { s.rtm with b := { s.rtm.b with due := none } }).restTest
    | none => s

end Sys2Proof.Machine
end

