-- ==== Sys2Proof/Machine/Servo.lean ====
section
/-! DEFINITION. The Positioner's handling of sector records, index arrivals and its deadlines (chapter 2). -/

namespace Sys2Proof.Machine

/-! ## Records (R24, R30, R31, R34, R36, R37) -/

/-- The anchor error of a GOOD record (R24). -/
def anchorError (s : State) (m : Mark) (pes : Int) : Int :=
  ((m.track : Int) - s.pos.target) * 16384 + pes - s.pos.offset

/-- The control output changes from a GOOD anchor record with error `e` (R24). -/
def State.drive (s : State) (e : Int) : State :=
  s.setPos { s.pos with control := Config.controlLaw s.pos.control e }

/-- The actuator arrives at FOLLOWING; the Rest Timers test their condition (R160). -/
def State.arriveFollowing (s : State) : State := (s.setAct .following none).restTest

/-- An off-track arrival (R31). -/
def State.offTrack (s : State) : State :=
  let s1 := s.discardHeld .offTrack
  s1.setAct .settling (s1.deadlineIn .settle s1.prof.settleMs)

/-- A loss of servo (R37). DESIGN CHOICE (log 22): a held seek ends before the move in flight, so of two that the bench
owns the move's outcome is the last. -/
def State.loseServo (s : State) : State :=
  let s1 := (s.discardHeld .servoLost).endActMove (.interrupted .servoLost)
  s1.setAct .acquiring (s1.deadlineIn .acq s1.prof.acqMs)

/-- The end of an acquisition on track `track` (R30, R37). -/
def State.acquired (s : State) (track : Nat) : State :=
  let s1 := s.setPos { s.pos with target := track, offset := 0 }
  (s1.endActMove .loaded).arriveFollowing

/-- Settling ends within tolerance (R36): the move ends SETTLED, and a jog move reports a jog completion. -/
def State.settled (s : State) : State :=
  let jog := s.pos.actMove.any fun m => m.kind == .jog
  let s1 := (s.endActMove .settled).setAct .following none
  (if jog then s1.jogCost else s1).restTest

/-- A MISS anchor record counts toward a loss of servo in FOLLOWING and SETTLING (R24, R37). -/
def State.countLoss (s : State) : State :=
  if s.pos.lossRun + 1 < 4 then s.setPos { s.pos with lossRun := s.pos.lossRun + 1 } else s.loseServo

/-- A non-recovery anchor record in ACQUIRING (R24, R30). -/
def State.acquireRecord (s : State) (r : SectorRecord) : State :=
  match r.cls, r.mark with
  | .good, some m =>
    let s1 := s.drive r.pes
    if s1.prof.acqCount ≤ s1.pos.acqRun + 1 then s1.acquired m.track
    else s1.setPos { s1.pos with acqRun := s1.pos.acqRun + 1 }
  | _, _ => s.setPos { s.pos with acqRun := 0 }

/-- A non-recovery anchor record in FOLLOWING (R24, R31, R37). -/
def State.followingRecord (s : State) (r : SectorRecord) : State :=
  match r.cls, r.mark with
  | .good, some m =>
    let e := anchorError s m r.pes
    let s1 := s.drive e
    let s2 := s1.setPos { s1.pos with lossRun := 0 }
    if s2.prof.otTol < e.natAbs then
      if s2.prof.otCount ≤ s2.pos.otRun + 1 then s2.offTrack
      else s2.setPos { s2.pos with otRun := s2.pos.otRun + 1 }
    else s2.setPos { s2.pos with otRun := 0 }
  | .miss, _ => (s.setPos { s.pos with otRun := 0 }).countLoss
  | _, _ => s.setPos { s.pos with otRun := 0, lossRun := 0 }

/-- A non-recovery anchor record in SETTLING (R24, R36, R37). -/
def State.settlingRecord (s : State) (r : SectorRecord) : State :=
  match r.cls, r.mark with
  | .good, some m =>
    let e := anchorError s m r.pes
    let s1 := s.drive e
    let s2 := s1.setPos { s1.pos with lossRun := 0 }
    if e.natAbs ≤ s2.prof.settleTol then
      if s2.prof.settleCount ≤ s2.pos.settleRun + 1 then s2.settled
      else s2.setPos { s2.pos with settleRun := s2.pos.settleRun + 1 }
    else s2.setPos { s2.pos with settleRun := 0 }
  | .miss, _ => (s.setPos { s.pos with settleRun := 0 }).countLoss
  | _, _ => s.setPos { s.pos with settleRun := 0, lossRun := 0 }

/-- The settle run's share of the record that completed a seek, which is the first record of SETTLING and has already
driven the control output (R34, R36). -/
def State.firstSettleRecord (s : State) (e : Int) : State :=
  if e.natAbs ≤ s.prof.settleTol then
    if s.prof.settleCount ≤ s.pos.settleRun + 1 then s.settled
    else s.setPos { s.pos with settleRun := s.pos.settleRun + 1 }
  else s.setPos { s.pos with settleRun := 0 }

/-- A non-recovery anchor record in SEEKING (R24, R34). -/
def State.seekingRecord (s : State) (r : SectorRecord) : State :=
  match r.cls, r.mark with
  | .good, some m =>
    let e := anchorError s m r.pes
    let s1 := s.drive e
    if m.track = s1.pos.target then
      let d := ((s1.pos.target : Int) - s1.pos.seekOrigin).natAbs
      let s2 := s1.setAct .settling (s1.deadlineIn .settle s1.prof.settleMs)
      (s2.seekCost d).firstSettleRecord e
    else s1
  | _, _ => s

/-- The first anchor record with a mark ends LOADING and is the first record of ACQUIRING (R30). -/
def State.loadingRecord (s : State) (r : SectorRecord) : State :=
  if r.mark.isSome then
    let s1 := s.setAct .acquiring s.pos.deadline
    if r.cls = .recovery then s1 else s1.acquireRecord r
  else s

/-- The Positioner takes a sector record (R11, R24): records of other heads and, but for the end of LOADING (R30),
RECOVERY records are left unused. -/
def State.servoRecord (s : State) (r : SectorRecord) : State :=
  if r.head = s.prof.anchor then
    match s.pos.act with
    | .loading => s.loadingRecord r
    | .acquiring => if r.cls = .recovery then s else s.acquireRecord r
    | .following => if r.cls = .recovery then s else s.followingRecord r
    | .seeking => if r.cls = .recovery then s else s.seekingRecord r
    | .settling => if r.cls = .recovery then s else s.settlingRecord r
    | .parked => s
    | .unloading => s
  else s

/-! ## The speed monitor (R19 to R22) -/

/-- Whether a revolution period is in tolerance (R19). -/
def inTolerance (p : Profile) (period : Nat) : Bool :=
  decide (((period : Int) - p.nRevNom).natAbs * 1000 ≤ p.speedTolPm * p.nRevNom)

/-- The spindle arrives at OFF_SPEED (R21): MOTION pending, loaded heads unloaded with cause SPINDLE, the Job Controller
told; the out-of-tolerance run stands as it was counted. -/
def State.arriveOffSpeed (s : State) : State :=
  let s1 := (s.setPos { s.pos with inTol := 0, silenceDue := none }).setSpindle .offSpeed
  ((s1.raise .motion).tell .offSpeed).beginUnload .spindle

/-- The spindle arrives at AT_SPEED (R20, R21): the spin-up deadline cancelled, the index silence limit running; the in-
tolerance run stands as it was counted, and the out-of-tolerance run starts from 0 (DEDUCED, log 45). -/
def State.arriveAtSpeed (s : State) : State :=
  let s1 := s.setPos
    { s.pos with outTol := 0, spinupDue := none, silenceDue := some (s.now + 2 * s.prof.nRevNom) }
  (s1.setSpindle .atSpeed).tell .atSpeed

/-- The in-tolerance run after a revolution (R20, R21); `good` says that it was in tolerance. -/
def State.runInTol (s : State) (good : Bool) : State :=
  s.setPos { s.pos with inTol := if good then s.pos.inTol + 1 else 0 }

/-- The out-of-tolerance run after a revolution (R21). -/
def State.runOutTol (s : State) (good : Bool) : State :=
  s.setPos { s.pos with outTol := if good then 0 else s.pos.outTol + 1 }

/-- A measured or discarded revolution moves the speed state (R20, R21); `good` says that it was in tolerance. -/
def State.judgeRevolution (s : State) (good : Bool) : State :=
  match s.pos.spindle with
  | .accelerating =>
    let s1 := s.runInTol good
    if 4 ≤ s1.pos.inTol then (s1.endSpinMove .spunUp).arriveAtSpeed else s1
  | .offSpeed =>
    let s1 := s.runInTol good
    if 4 ≤ s1.pos.inTol then s1.arriveAtSpeed else s1
  | .atSpeed =>
    let s1 := s.runOutTol good
    if 2 ≤ s1.pos.outTol then s1.arriveOffSpeed else s1
  | .stopped => s
  | .braking => s
  | .bench => s

/-- The limits an index arrival restarts: index silence in AT_SPEED (R21), the 500 ms limit in BRAKING (R22). -/
def State.restartIndexLimits (s : State) : State :=
  match s.pos.spindle with
  | .atSpeed => s.setPos { s.pos with silenceDue := some (s.now + 2 * s.prof.nRevNom) }
  | .braking => s.setPos { s.pos with quietDue := some (s.inMs 500) }
  | .stopped => s
  | .accelerating => s
  | .offSpeed => s
  | .bench => s

/-- The speed monitor takes an index arrival at tick `t` (R19). -/
def State.speedMonitor (s : State) (t : Nat) : State :=
  let s1 := (s.setPos { s.pos with indexRef := some t }).restartIndexLimits
  match s.pos.indexRef with
  | none => s1
  | some ref =>
    let period := t - ref
    if 4 * s.prof.nRevNom < period then s1.judgeRevolution false
    else (s1.setPos { s1.pos with period := some period }).judgeRevolution (inTolerance s.prof period)

/-! ## Deadlines -/

/-- SPINUP_MS expires (R20). -/
def State.expireSpinup (s : State) : State :=
  match s.pos.spindle, s.pos.spinupDue with
  | .accelerating, some d =>
    let s1 := s.atTick d
    ((s1.endSpinMove .spinupFail).brake).raise .motion
  | _, _ => s

/-- The index silence limit expires (R21). -/
def State.expireSilence (s : State) : State :=
  match s.pos.spindle, s.pos.silenceDue with
  | .atSpeed, some d => (s.atTick d).arriveOffSpeed
  | _, _ => s

/-- 500 ms without an index in BRAKING (R22). -/
def State.expireQuiet (s : State) : State :=
  match s.pos.spindle, s.pos.quietDue with
  | .braking, some d =>
    let s1 := s.atTick d
    let s2 := s1.setPos { s1.pos with indexRef := none, quietDue := none }
    (s2.endSpinMove .stopped).setSpindle .stopped
  | _, _ => s

/-- The actuator states in which a deadline runs (R23): LOAD_MS from LOADING through the ACQUIRING entered from it. -/
def DeadlineKind.runsIn : DeadlineKind → ActState → Bool
  | .load, a => a == .loading || a == .acquiring
  | .acq, a => a == .acquiring
  | .seek, a => a == .seeking
  | .settle, a => a == .settling
  | .unload, a => a == .unloading

/-- The tick at which the actuator deadline of kind `k` expires, where it runs. -/
def State.deadlineOf (s : State) (k : DeadlineKind) : Option Nat :=
  match s.pos.deadline with
  | some d => if d.kind = k ∧ k.runsIn s.pos.act then some d.due else none
  | none => none

/-- LOAD_MS expires (R30): the load move ends LOAD_FAIL and the heads unload. -/
def State.expireLoad (s : State) : State :=
  match s.deadlineOf .load with
  | some d => ((s.atTick d).endActMove .loadFail).beginUnload .loadFail
  | none => s

/-- ACQ_MS expires (R37). -/
def State.expireAcq (s : State) : State :=
  match s.deadlineOf .acq with
  | some d => (s.atTick d).beginUnload .servoLost
  | none => s

/-- SEEK_MS expires (R34): the seek move ends SEEK_TIMEOUT and the heads unload. -/
def State.expireSeek (s : State) : State :=
  match s.deadlineOf .seek with
  | some d => ((s.atTick d).endActMove .seekTimeout).beginUnload .seekTimeout
  | none => s

/-- SETTLE_MS expires (R36): FOLLOWING the same target, no jog completion, the move ends SETTLE_TIMEOUT. -/
def State.expireSettle (s : State) : State :=
  match s.deadlineOf .settle with
  | some d => ((s.atTick d).endActMove .settleTimeout).arriveFollowing
  | none => s

/-- UNLOAD_MS expires (R39): PARKED, UNCONFIRMED. -/
def State.expireUnload (s : State) : State :=
  match s.deadlineOf .unload with
  | some d => (s.atTick d).arrivePark true
  | none => s

end Sys2Proof.Machine
end

