-- ==== Sys2Proof/Machine/Jobs.lean ====
section
/-! DEFINITION. The Job Controller (chapter 6, and section 5.3): starting, finishing, suspending, the order of the head-zones,
the measurements, and how it takes the reports of the other blocks. It goes on through the list `inbox` of State, one message
at a time (log 15). -/

namespace Sys2Proof.Machine

/-! ## The active job's record -/

/-- Edit the record of the active job. -/
def State.editActive (s : State) (f : Job → Job) : State :=
  s.setJct { s.jct with table := s.jct.table.map fun j => if j.isActive then f j else j }

/-- Replace the head-zone context. -/
def State.setCtx (s : State) (c : JobCtx) : State := s.setJct { s.jct with ctx := c }

/-- Edit the cursor of a record. -/
def Job.onCursor (j : Job) (f : Cursor → Cursor) : Job := { j with cursor := j.cursor.map f }

/-- The active job's head-zone comes to a phase. -/
def State.enterPhase (s : State) (p : Phase) : State :=
  s.editActive fun j => j.onCursor fun c => { c with phase := p }

/-- The order whose outcome is awaited, and the condition JOB_LIST reports (R105, R115). -/
def State.await (s : State) (a : Option Await) (w : Option WaitCond) : State :=
  s.setCtx { s.jct.ctx with await := a, waits := w }

/-- A new attempt with an empty head-zone context (R107, R116). -/
def State.newAttempt (s : State) : State := s.setJct { s.jct with ctx := {}, attempt := s.jct.attempt + 1 }

/-- Whether a report answers the order the RUNNING job awaits (R115). -/
def State.answers (s : State) (a : Await) (attempt : Nat) : Bool :=
  s.running.isSome && s.jct.ctx.await == some a && s.jct.attempt == attempt

/-- The owner of a motion order of the attempt in flight. -/
def State.jobOwner (s : State) : Owner := .job s.jct.attempt

/-- The RUNNING job at its cursor: record, cursor, resolved figures, head number and zone number. -/
structure Here where
  job : Job
  cursor : Cursor
  figures : Figures
  head : Nat
  zone : Nat
deriving DecidableEq, Repr

/-- The head-zone in the hands of the RUNNING job. -/
def State.here (s : State) : Option Here :=
  match s.running with
  | none => none
  | some j =>
    match j.cursor, j.figures with
    | some c, some f =>
      match j.heads[c.head]?, j.zones[c.zone]? with
      | some h, some z => some { job := j, cursor := c, figures := f, head := h, zone := z }
      | _, _ => none
    | _, _ => none

/-! ## Finishing and suspending (R103, R118 to R121) -/

/-- The steps of R93 that end a skew measurement: the gate aborted, the anchor selected again if the probe was selected, the
tally discarded. -/
def State.stopSkew (s : State) : State :=
  let s1 := s.abortGate .job
  let s2 := if s.jct.ctx.probe then s1.selectHead s1.prof.anchor else s1
  s2.setCtx { s2.jct.ctx with tally := {}, probe := false }

/-- The measurement in flight is ended (R103, R118): the window abandoned, a skew measurement stopped, the head-zone context
emptied. -/
def State.endMeasurement (s : State) : State :=
  let s1 := s.endWindow (.abandoned .job)
  let s2 := if (s.runningPhase.map Phase.isSkew) = some true then s1.stopSkew else s1
  s2.setCtx {}

/-- The finished record of a job (R103). -/
def Job.finish (j : Job) (final : FinalState) (reason : Option FailReason) : Finished :=
  { id := j.id, kind := j.kind, final := final, reason := reason, counts := j.counts, first := j.first, flags := j.flags
    read := false }

/-- A record joins the finished list, the oldest of 8 dropped (R103, step 3). -/
def joinFinished (xs : List Finished) (x : Finished) : List Finished := xs.drop (xs.length - 7) ++ [x]

/-- A job finishes (R103); the rest test follows the whole of it (R160). -/
def State.finishJob (s : State) (j : Job) (final : FinalState) (reason : Option FailReason) : State :=
  let s1 :=
    if j.isActive then
      let t := s.endMeasurement
      t.setJct { t.jct with recoverDue := none }
    else s
  let s2 := s1.setJct
    { s1.jct with
      table := s1.jct.table.filter fun x => x.id != j.id
      finished := joinFinished s1.jct.finished (j.finish final reason) }
  (((s2.raise .jobEnd).reload .jobEnd).goOn .restTest).goOn .startTest

/-- The active job finishes. -/
def State.finishActive (s : State) (final : FinalState) (reason : Option FailReason) : State :=
  match s.active with
  | some j => s.finishJob j final reason
  | none => s

/-- Whether a reason is in the set (R98). -/
def Reasons.has (r : Reasons) : SuspendReason → Bool
  | .bench => r.bench
  | .thermal => r.thermal
  | .spindle => r.spindle

/-- Put a reason into the set or take it out. -/
def Reasons.put (r : Reasons) (k : SuspendReason) (b : Bool) : Reasons :=
  match k with
  | .bench => { r with bench := b }
  | .thermal => { r with thermal := b }
  | .spindle => { r with spindle := b }

/-- Whether a reason set is empty. -/
def Reasons.isEmpty (r : Reasons) : Bool := !r.bench && !r.thermal && !r.spindle

/-- A RUNNING job becomes SUSPENDED (R118), and the Rest Timers test their condition (R160). -/
def State.suspend (s : State) : State :=
  ((s.endMeasurement.editActive fun j => { j with state := .suspended }).raise .jobHeld).restTest

/-- The spindle recovery deadline starts; at 0 ms the job finishes at once (R121). -/
def State.startRecovery (s : State) : State :=
  if s.prof.speedRecoverMs = 0 then s.finishActive .failed (some .spindle)
  else s.setJct { s.jct with recoverDue := some (s.inMs s.prof.speedRecoverMs) }

/-- The active job gains a suspension reason (R118, R121); a reason already held is not added twice. -/
def State.addReason (s : State) (r : SuspendReason) : State :=
  match s.active with
  | none => s
  | some j =>
    if j.reasons.has r then s
    else
      let s1 := s.editActive fun j => { j with reasons := j.reasons.put r true }
      let s2 := if j.state = .running then s1.suspend else s1
      if r = .spindle then s2.startRecovery else s2

/-- The active job becomes RUNNING again (R120): its head-zone from PREPARE, a new attempt, retries used 0. -/
def State.resume (s : State) : State :=
  let s1 := s.editActive fun j =>
    ({ j with state := .running } : Job).onCursor fun c => { c with phase := .prepare, retries := 0 }
  s1.newAttempt.goOn .prepare

/-- A suspension reason is removed (R120, R121). -/
def State.dropReason (s : State) (r : SuspendReason) : State :=
  match s.active with
  | none => s
  | some j =>
    if j.reasons.has r then
      let s1 := s.editActive fun j => { j with reasons := j.reasons.put r false }
      let s2 := if r = .spindle then s1.setJct { s1.jct with recoverDue := none } else s1
      if (j.reasons.put r false).isEmpty then s2.resume else s2
    else s

/-! ## Starting (R106, R99, R65) -/

/-- The queue head: the first record that is not active (R106). -/
def State.queueHead (s : State) : Option Job := s.jct.table.find? fun j => !j.isActive

/-- The waiting causes (R106). -/
inductive WaitingCause where
  | activeJob | selectHeld | spindleHeld | hot
deriving DecidableEq, Repr

/-- The first start condition that fails (R106). -/
def State.waitingCause (s : State) : Option WaitingCause :=
  if s.active.isSome then some .activeJob
  else if s.flc.selectBench then some .selectHeld
  else if s.flc.spindleBench then some .spindleHeld
  else if s.chm.level = .hot then some .hot
  else none

/-- J as used (R65): reduced where |o_c| + J would pass 8,191. -/
def reducedJog (centre : Int) (jog : Nat) : Nat := if 8191 < centre.natAbs + jog then 8191 - centre.natAbs else jog

/-- The figures of a job that becomes RUNNING (R99, R65); no J reduction is made for a QUALIFY job. -/
def resolveFigures (p : Profile) (j : Job) : Figures :=
  let centre := j.options.centre.getD p.jogCentre
  let given := j.options.jog.getD p.jog
  let jog := if j.kind = .qualify then given else reducedJog centre given
  { w := j.options.window.getD p.window, centre := centre, jog := jog, o1 := centre + jog, o2 := centre - jog
    r := j.options.skewRevs.getD p.skewRevs }

/-- Whether J was reduced (R65). -/
def jogReduced (p : Profile) (j : Job) : Bool :=
  j.kind != .qualify && decide (8191 < (j.options.centre.getD p.jogCentre).natAbs + j.options.jog.getD p.jog)

/-- A record becomes RUNNING at its first head-zone (R106). -/
def Job.start (j : Job) (p : Profile) : Job :=
  { j with
    state := .running
    cursor := some { zone := 0, head := 0, phase := .prepare, retries := 0, failedZones := 0 }
    figures := some (resolveFigures p j)
    flags := { j.flags with jog := j.flags.jog || jogReduced p j } }

/-- The start conditions are tested (R106). -/
def State.startTest (s : State) : State :=
  match s.waitingCause, s.queueHead with
  | none, some j =>
    (s.setJct
      { s.jct with
        table := s.jct.table.map fun x => if x.id = j.id then x.start s.prof else x
        ctx := {}
        zoneFailed := false }).goOn .takeUp
  | _, _ => s

/-! ## The end of a head-zone (R107, R111, R117) -/

/-- The reason of an entry that is FAULT or FAIL. -/
def Result.faultReason : Result → Option Reason
  | .qualify (.pass _) => none
  | .qualify (.fail r _) => some r
  | .span (.ok _) => none
  | .span .reference => none
  | .span (.fault r) => some r
  | .skew (.ok _) => none
  | .skew .reference => none
  | .skew (.fault r) => some r

/-- Whether an entry is REFERENCE. -/
def Result.isReference : Result → Bool
  | .qualify _ => false
  | .span .reference => true
  | .span (.ok _) => false
  | .span (.fault _) => false
  | .skew .reference => true
  | .skew (.ok _) => false
  | .skew (.fault _) => false

/-- The entry that carries a failure's reason and no figures (R116): FAIL for QUALIFY, FAULT for SPAN and SKEW. -/
def faultEntry (k : JobKind) (r : Reason) : Result :=
  match k with
  | .qualify => .qualify (.fail r { amp := none, weak := none, miss := none })
  | .span => .span (.fault r)
  | .skew => .skew (.fault r)

/-- The summary counts and first fault after a captured entry (R117). -/
def Job.countResult (j : Job) (head zone : Nat) (r : Result) : Job :=
  match r.faultReason with
  | some why =>
    { j with
      counts := { j.counts with fault := j.counts.fault + 1 }
      first := if j.counts.fault = 0 then some { head := head, zone := zone, reason := why } else j.first }
  | none =>
    if r.isReference then { j with counts := { j.counts with reference := j.counts.reference + 1 } }
    else { j with counts := { j.counts with ok := j.counts.ok + 1 } }

/-- The cursor moves into the next zone, or the job finishes (R107, R103). -/
def State.nextZone (s : State) (h : Here) (failedZones : Nat) : State :=
  if h.cursor.zone + 1 < h.job.zones.length then
    let s1 := s.editActive fun j => j.onCursor fun c =>
      { zone := c.zone + 1, head := 0, phase := .prepare, retries := 0, failedZones := failedZones }
    (s1.setJct { s1.jct with ctx := {}, zoneFailed := false }).goOn .takeUp
  else
    let faults := (s.active.map fun j => j.counts.fault).getD 0
    s.finishActive (if faults = 0 then .done else .donePartial) none

/-- The active job's consecutive anchor-failed zones (R98). -/
def State.failedZones (s : State) : Nat := ((s.active.bind fun j => j.cursor).map fun c => c.failedZones).getD 0

/-- The cursor moves past a head-zone that has ended (R107); past the last head of a failed zone the consecutive count of
failed zones grows, and at 2 the job fails (R111). -/
def State.advance (s : State) (h : Here) : State :=
  if h.cursor.head + 1 < h.job.heads.length then
    let s1 := s.editActive fun j => j.onCursor fun c => { c with head := c.head + 1, phase := .prepare, retries := 0 }
    (s1.setCtx {}).goOn .takeUp
  else if s.jct.zoneFailed then
    if 2 ≤ s.failedZones + 1 then s.finishActive .failed (some .anchor)
    else s.nextZone h (s.failedZones + 1)
  else s.nextZone h s.failedZones

/-- A head-zone ends with an entry (R117). -/
def State.endWith (s : State) (h : Here) (r : Result) : State :=
  let s1 := s.capture h.head h.zone r h.job.id
  (s1.editActive fun j => j.countResult h.head h.zone r).advance h

/-- A head-zone is skipped (R107, R117). -/
def State.skipHead (s : State) (h : Here) : State :=
  (s.editActive fun j => { j with counts := { j.counts with skipped := j.counts.skipped + 1 } }).advance h

/-- The REFERENCE entry of a SPAN or SKEW job (R72, R97). -/
def referenceEntry : JobKind → Option Result
  | .qualify => none
  | .span => some (.span .reference)
  | .skew => some (.skew .reference)

/-- What the head at the cursor needs, decided without measurement (R107, R111); `none` when it is measured. -/
def State.decided (s : State) (h : Here) : Option Result :=
  if h.head = s.prof.anchor ∧ h.job.kind ≠ .qualify then referenceEntry h.job.kind
  else if h.head ≠ s.prof.anchor ∧ h.job.kind ≠ .qualify ∧ derivedIn s.hmp.working h.head ≠ .qualified then
    some (faultEntry h.job.kind .notQualified)
  else if s.jct.zoneFailed then some (faultEntry h.job.kind .anchor)
  else none

/-- The cursor comes to a head-zone (R107): skipped, decided at once, or measured from PREPARE with a new attempt. -/
def State.takeUp (s : State) : State :=
  match s.here with
  | none => s
  | some h =>
    if excludedIn s.hmp.working h.head then s.skipHead h
    else
      match s.decided h with
      | some r => s.endWith h r
      | none => ((s.newAttempt).enterPhase .prepare).goOn .prepare

/-! ## Failures (R111, R116) -/

/-- The head-zone starts again in PREPARE with one more retry used (R111, R116). -/
def State.retry (s : State) : State :=
  let s1 := s.editActive fun j => j.onCursor fun c => { c with retries := c.retries + 1, phase := .prepare }
  s1.newAttempt.goOn .prepare

/-- A head-zone failure (R116). -/
def State.failHead (s : State) (h : Here) (r : Reason) : State :=
  if h.cursor.retries < s.prof.retries then s.retry else s.endWith h (faultEntry h.job.kind r)

/-- A zone-seek failure (R111). -/
def State.failZone (s : State) (h : Here) : State :=
  if h.cursor.retries < s.prof.retries then s.retry
  else (s.setJct { s.jct with zoneFailed := true }).endWith h (faultEntry h.job.kind .anchor)

/-! ## The measurements (R112 to R114, R88 to R94) -/

/-- An opening order in phase `p` (R112, R113). -/
def State.collect (s : State) (h : Here) (p : Phase) (k : WindowKind) : State :=
  ((s.enterPhase p).await (some .window) none).openWindow k h.head h.figures.w s.jct.attempt

/-- A jog order in phase `p`; refused BUSY it is a failure OFF_TRACK (R113). -/
def State.jogTo (s : State) (h : Here) (p : Phase) (offset : Int) : State :=
  match s.takeJog offset s.jobOwner with
  | .ok s1 => (s1.enterPhase p).await (some .jog) none
  | .error _ => s.failHead h .offTrack

/-- JOG_1; no order where the target offset already equals o1 (R113). -/
def State.jogFirst (s : State) (h : Here) : State :=
  if s.pos.offset = h.figures.o1 then s.collect h .collect1 .span else s.jogTo h .jog1 h.figures.o1

/-- An arm order; one not taken with cause BUSY is sent again after an abort order (R114). -/
def State.arm (s : State) (mode : GateMode) (head : Option Nat) : State :=
  let s1 := s.await (some .gate) none
  match s1.armGate mode head s1.jct.attempt with
  | some s2 => s2
  | none => ((s1.abortGate .job).armGate mode head s1.jct.attempt).getD s1

/-- PERIOD: an empty tally and an arm order for CHAINED mode (R88, R89). -/
def State.startPeriod (s : State) : State :=
  let s1 := s.enterPhase .period
  (s1.setCtx { s1.jct.ctx with tally := {}, probe := false }).arm .chained none

/-- GATE_A: an arm order for SPLIT mode with the anchor (R90). -/
def State.startGateA (s : State) : State := (s.enterPhase .gateA).arm .split (some s.prof.anchor)

/-- GATE_P: the switch point is waited for (R90, R91). -/
def State.startGateP (s : State) : State := (s.enterPhase .gateP).await none none

/-- Replace the skew tally. -/
def State.setTally (s : State) (t : Tally) : State := s.setCtx { s.jct.ctx with tally := t }

/-- A skew measurement ends with a failure, the tally discarded (R94, R116). -/
def State.failSkew (s : State) (h : Here) (r : Reason) : State := (s.setTally {}).failHead h r

/-- R pairs are done: the majority test, and the computation (R94, R95). -/
def State.endSkew (s : State) (h : Here) : State :=
  let t := s.jct.ctx.tally
  let m := (h.figures.r + 1) / 2
  if t.ra < m ∨ t.rh < m then s.failSkew h .skewMiss
  else
    let r := skewComputation s.prof.sectors (t.nRev.getD 0) t.ra t.rh t.sumA t.sumH
    ((s.enterPhase .compute).setTally {}).endWith h (.skew r)

/-- A pair is done (R92, step 3). -/
def State.pairDone (s : State) (h : Here) : State :=
  let t := s.jct.ctx.tally
  let s1 := s.setTally { t with pairs := t.pairs + 1 }
  if t.pairs + 1 < h.figures.r then s1.startGateA else s1.endSkew h

/-- The first phase of the job's kind, the zone reached (R110, R112 to R114). -/
def State.firstPhase (s : State) (h : Here) : State :=
  match h.job.kind with
  | .qualify => s.collect h .collect .qualify
  | .span => s.jogFirst h
  | .skew => s.startPeriod

/-- The zone is reached: consecutive anchor-failed zones 0, and on to the first phase (R110). -/
def State.zoneReached (s : State) (h : Here) : State :=
  let s1 := s.editActive fun j => j.onCursor fun c => { c with failedZones := 0 }
  (s1.await none none).firstPhase h

/-! ## Preparing and reaching the zone (R108 to R110) -/

/-- Whether ZONE_SEEK needs no order (R110). -/
def State.onZone (s : State) (h : Here) (track : Nat) : Bool :=
  s.pos.act == .following && s.pos.target == track && (h.job.kind != .qualify || s.pos.offset == h.figures.centre)

/-- ZONE_SEEK (R110). -/
def State.zoneSeek (s : State) (h : Here) : State :=
  let s0 := s.enterPhase .zoneSeek
  let track := s0.prof.zoneTracks.getD h.zone 0
  if s0.onZone h track then s0.zoneReached h
  else
    match s0.takeSeek track h.figures.centre s0.jobOwner with
    | .ok (.unchanged, s1) => s1.zoneReached h
    | .ok (.moving, s1) => s1.await (some .seek) (some .seekOutcome)
    | .ok (.held, s1) => s1.await (some .seek) (some .heldSeek)
    | .error _ => ((s0.enterPhase .prepare).await none none).goOn .prepare

/-- A load order of PREPARE (R109). -/
def State.prepareLoad (s : State) : State :=
  match s.takeLoad s.jobOwner with
  | .ok s1 => s1.await (some .load) (some .loaded)
  | .error e =>
    match e.code with
    | .preamp => s.finishActive .failed (some .preamp)
    | .linesHeld => s.await none (some .selectGroup)
    | .spindle => (s.await none none).goOn .prepare
    | _ => s.await none (some .followingOrParked)

/-- The actuator in PREPARE, the spindle being AT_SPEED (R108). The job's own load keeps LOADED as the condition waited for
(log 33). -/
def State.prepareActuator (s : State) (h : Here) : State :=
  match s.pos.act with
  | .following => s.zoneSeek h
  | .parked => s.prepareLoad
  | .loading | .acquiring =>
    if s.jct.ctx.await = some .load then s.await (some .load) (some .loaded) else s.await none (some .followingOrParked)
  | .seeking | .settling => s.await none (some .followingOrParked)
  | .unloading => s.await none (some .parked)

/-- A spin-up order of PREPARE; refused, the job waits as the table of R108 says for the state found (R109). -/
def State.prepareSpin (s : State) : State :=
  match s.takeSpinUp s.jobOwner with
  | .ok s1 => s1.await (some .spinUp) (some .spunUp)
  | .error e => s.await none (some (if e.code = .linesHeld then .spindleGroup else .stopped))

/-- PREPARE: the spindle first (R108). -/
def State.prepare (s : State) : State :=
  match s.here with
  | none => s
  | some h =>
    if h.cursor.phase = .prepare then
      match s.pos.spindle with
      | .stopped | .accelerating => s.prepareSpin
      | .atSpeed =>
        if s.pos.spinDownPending then
          match s.takeSpinUp s.jobOwner with
          | .ok s1 => s1.prepareActuator h
          | .error _ => s
        else s.prepareActuator h
      | .offSpeed => s.addReason .spindle
      | .braking => s.await none (some .stopped)
      | .bench => s.await none (some .spindleGroup)
    else s

/-! ## Reports (R109 to R115) -/

/-- The outcome of a spin-up ordered in PREPARE (R109). -/
def State.takeSpinOutcome (s : State) (o : MoveOutcome) : State :=
  match o with
  | .spunUp => (s.await none none).goOn .prepare
  | .spinupFail => s.finishActive .failed (some .spinupFail)
  | _ => s

/-- The outcome of a load ordered in PREPARE (R109). -/
def State.takeLoadOutcome (s : State) (o : MoveOutcome) : State :=
  match o with
  | .loaded => (s.await none none).goOn .prepare
  | .loadFail => s.finishActive .failed (some .loadFail)
  | _ => s

/-- The outcome of a zone seek (R110). -/
def State.takeSeekOutcome (s : State) (h : Here) (o : MoveOutcome) : State :=
  match o with
  | .settled => s.zoneReached h
  | .seekTimeout | .settleTimeout | .interrupted .servoLost | .interrupted .offTrack => s.failZone h
  | _ => s

/-- The outcome of a jog in JOG_1 or JOG_2 (R113). DESIGN CHOICE (log 44): a jog INTERRUPTED by a replacing move gives the job
nothing, and it stays in its phase. -/
def State.takeJogOutcome (s : State) (h : Here) (o : MoveOutcome) : State :=
  match o with
  | .settled => s.collect h (if h.cursor.phase = .jog1 then .collect1 else .collect2) .span
  | .settleTimeout => s.failHead h .settleTimeout
  | .interrupted .servoLost => s.failHead h .offTrack
  | _ => s

/-- The outcome of a move the Job Controller ordered, where it answers the order awaited (R115). A zone seek to the track
already held is a jog (R110). -/
def State.takeMove (s : State) (k : MoveKind) (o : MoveOutcome) (attempt : Nat) : State :=
  match s.here with
  | none => s
  | some h =>
    match k with
    | .spinUp => if s.answers .spinUp attempt then s.takeSpinOutcome o else s
    | .load => if s.answers .load attempt then s.takeLoadOutcome o else s
    | .seek | .jog =>
      if s.answers .seek attempt then s.takeSeekOutcome h o
      else if s.answers .jog attempt then s.takeJogOutcome h o
      else s
    | .spinDown | .unload => s

/-- The reason that a window's ending gives a failed head-zone (R113). -/
def WindowEnding.failure : WindowEnding → Option Reason
  | .complete => none
  | .poorServo => some .poorServo
  | .timeout => some .timeout
  | .offTrack => some .offTrack
  | .abandoned _ => none

/-- A QUALIFY window has ended (R112). -/
def State.takeQualify (s : State) (h : Here) (r : WindowReport) : State :=
  match qualification s.prof r with
  | some q => ((s.enterPhase .compute).await none none).endWith h (.qualify q)
  | none => if r.ending = .offTrack then s.failHead h .offTrack else s

/-- A SPAN window has ended (R113). -/
def State.takeSpan (s : State) (h : Here) (r : WindowReport) : State :=
  match r.ending.failure with
  | some why => s.failHead h why
  | none =>
    if r.ending = .complete then
      if h.cursor.phase = .collect1 then
        (s.setCtx { s.jct.ctx with firstReport := some r }).jogTo h .jog2 h.figures.o2
      else
        match s.jct.ctx.firstReport with
        | some first => ((s.enterPhase .compute).await none none).endWith h (.span (spanComputation s.prof first r))
        | none => s
    else s

/-- A window's ending report (R58, R112, R113, R115). -/
def State.takeWindow (s : State) (r : WindowReport) (attempt : Nat) : State :=
  match s.here with
  | none => s
  | some h =>
    if s.answers .window attempt then
      if h.job.kind = .qualify then s.takeQualify h r else s.takeSpan h r
    else s

/-- The period gate has ended (R89). -/
def State.takePeriod (s : State) (h : Here) (r : GateRecord) : State :=
  match r.ending with
  | .closed => (s.setTally { s.jct.ctx.tally with nRev := r.value }).startGateA
  | .overrange => s.failSkew h .overrange
  | .missed => s
  | .aborted => s

/-- The anchor gate has ended (R90). -/
def State.takeGateA (s : State) (h : Here) (r : GateRecord) : State :=
  let t := s.jct.ctx.tally
  match r.ending with
  | .closed => (s.setTally { t with ra := t.ra + 1, sumA := t.sumA + r.value.getD 0 }).startGateP
  | .missed => s.startGateP
  | .overrange => s.failSkew h .overrange
  | .aborted => s

/-- The probe gate has ended (R92): the anchor selected first. -/
def State.takeGateP (s : State) (h : Here) (r : GateRecord) : State :=
  let s0 := (s.selectHead s.prof.anchor).setCtx { s.jct.ctx with probe := false, await := none }
  let t := s0.jct.ctx.tally
  match r.ending with
  | .closed => (s0.setTally { t with rh := t.rh + 1, sumH := t.sumH + r.value.getD 0 }).pairDone h
  | .missed => s0.pairDone h
  | .overrange => s0.failSkew h .overrange
  | .aborted => s

/-- A gate's ending report (R85, R89 to R92, R115). -/
def State.takeGate (s : State) (r : GateRecord) (attempt : Nat) : State :=
  match s.here with
  | none => s
  | some h =>
    if s.answers .gate attempt then
      match h.cursor.phase with
      | .period => s.takePeriod h r
      | .gateA => s.takeGateA h r
      | .gateP => s.takeGateP h r
      | _ => s
    else s

/-- The end of a skew measurement by a departure of the actuator to `dest` (R93). -/
def State.departSkew (s : State) (h : Here) (dest : ActState) : State :=
  let s1 := s.stopSkew.await none none
  match dest with
  | .settling | .acquiring | .seeking => s1.failHead h .offTrack
  | .unloading | .parked | .loading | .following => s1

/-- The actuator has left FOLLOWING during a skew measurement (R93). -/
def State.takeDeparture (s : State) (dest : ActState) (attempt : Nat) : State :=
  match s.here with
  | none => s
  | some h => if h.cursor.phase.isSkew ∧ s.jct.attempt = attempt then s.departSkew h dest else s

/-- Whether the Job Controller waits for the switch point (R91). -/
def State.awaitsSwitch (s : State) : Bool := s.runningPhase == some .gateP && !s.jct.ctx.probe

/-- The switch point (R91): with the actuator FOLLOWING the probe gate is armed and the probe head selected; otherwise the
measurement ends as for a departure. -/
def State.takeSwitch (s : State) (attempt : Nat) : State :=
  match s.here with
  | none => s
  | some h =>
    if s.awaitsSwitch ∧ s.jct.attempt = attempt then
      if s.pos.act = .following then
        let s1 := (s.arm .split (some h.head)).selectHead h.head
        s1.setCtx { s1.jct.ctx with probe := true }
      else s.departSkew h s.pos.act
    else s

/-- An index arrival in GATE_P before the switch point (R91): the probe gate is not taken and the pair is done. -/
def State.takeSwitchLost (s : State) (attempt : Nat) : State :=
  match s.here with
  | none => s
  | some h => if s.awaitsSwitch ∧ s.jct.attempt = attempt then s.pairDone h else s

/-- A change of spindle or actuator state (R108); a seek no longer held is waited for by its outcome (R110). -/
def State.takePosChange (s : State) : State :=
  match s.runningPhase with
  | some .prepare => s.prepare
  | some .zoneSeek =>
    if s.jct.ctx.waits = some .heldSeek ∧ s.pos.held = none then s.await s.jct.ctx.await (some .seekOutcome) else s
  | _ => s

/-- The spindle arrives at AT_SPEED (R120, R121). -/
def State.takeAtSpeed (s : State) : State := if s.jct.recoverDue.isSome then s.dropReason .spindle else s

/-- The heat level leaves HOT (R152). -/
def State.takeLeftHot (s : State) : State := if s.active.isSome then s.dropReason .thermal else s.startTest

/-- The return of the SELECT or the SPINDLE group (R106, R109). -/
def State.takeLines (s : State) : State :=
  if s.runningPhase = some .prepare then s.prepare else s.startTest

/-- The Job Controller takes one report or continuation. -/
def State.jctTake (s : State) (m : JctMsg) : State :=
  match m with
  | .moveEnded k o n => s.takeMove k o n
  | .posChanged => s.takePosChange
  | .atSpeed => s.takeAtSpeed
  | .offSpeed => s.addReason .spindle
  | .departed a n => s.takeDeparture a n
  | .windowEnded r n => s.takeWindow r n
  | .gateEnded r n => s.takeGate r n
  | .switchPoint n => s.takeSwitch n
  | .switchLost n => s.takeSwitchLost n
  | .hot => s.addReason .thermal
  | .leftHot => s.takeLeftHot
  | .linesReturned => s.takeLines
  | .preampFault => s.finishActive .failed (some .preamp)
  | .takeUp => s.takeUp
  | .prepare => s.prepare
  | .startTest => s.startTest
  | .restTest => s.restTest

/-- The Job Controller takes every report of an arrival, at most `n` of them (log 16). -/
def State.drain : (n : Nat) → State → State
  | 0, s => s.setInbox []
  | n + 1, s =>
    match s.inbox with
    | [] => s
    | m :: ms => State.drain n ((s.setInbox ms).jctTake m)

/-- The spindle recovery deadline expires (R121). -/
def State.expireRecovery (s : State) : State :=
  match s.jct.recoverDue with
  | some d => (s.atTick d).finishActive .failed (some .spindle)
  | none => s

/-- The values of a BENCH_RESET (R124): both lists emptied, the counter 1, the context emptied, the deadline cancelled. -/
def State.resetJobs (s : State) : State :=
  s.setJct
    { table := [], finished := [], nextId := 1, ctx := {}, attempt := s.jct.attempt + 1, zoneFailed := false
      recoverDue := none }

end Sys2Proof.Machine
end

