-- ==== Sys2Proof/Machine/Lines.lean ====
section
/-! DEFINITION. Fixture Line Control's group changes and sense arrivals (chapter 9, sections 9.4 to 9.8). The head selection
stands in Decoder.lean. -/

namespace Sys2Proof.Machine

/-! ## Arrivals of the engine view (R39, R166, R167) -/

/-- The engine view of RAMP_SENSE changes to ON_RAMP (R39): an unload in progress ends at PARKED. -/
def State.rampArrives (s : State) : State := if s.pos.act = .unloading then s.arrivePark false else s

/-- The engine view of PREAMP_FAULT changes to ACTIVE (R167): PREAMP pending; loaded heads unload with cause PREAMP, and only
then the Job Controller learns of it. -/
def State.preampArrives (s : State) : State :=
  let s1 := s.raise .preamp
  if s1.pos.act.isLoaded then (s1.beginUnload .preamp).tell .preampFault else s1

/-- The live level of RAMP_SENSE changes (R166): an arrival while SENSE is engine-owned. -/
def State.rampLine (s : State) (l : Ramp) : State :=
  if s.flc.liveRamp = l then s
  else
    let s1 := s.setFlc { s.flc with liveRamp := l }
    if s1.flc.senseBench = false ∧ l = .onRamp then s1.rampArrives else s1

/-- The live level of PREAMP_FAULT changes (R166, R167). -/
def State.preampLine (s : State) (l : PreampLine) : State :=
  if s.flc.livePreamp = l then s
  else
    let s1 := s.setFlc { s.flc with livePreamp := l }
    if s1.flc.senseBench = false ∧ l = .active then s1.preampArrives else s1

/-! ## Changes of owner -/

/-- SELECT passes to the bench, or its bench levels are replaced (R164). -/
def State.selectToBench (s : State) (head : Nat) (mode : PreampMode) : State :=
  (s.setFlc { s.flc with selectBench := true, benchHead := head, benchMode := mode }).takeHeadChange s.drivenHead

/-- SELECT returns to the engine (R164): the engine selection driven again. -/
def State.selectToEngine (s : State) : State := (s.setFlc { s.flc with selectBench := false }).takeHeadChange s.drivenHead

/-- SPINDLE passes to the bench (R165, R22): the spindle becomes BENCH. -/
def State.spindleToBench (s : State) (on : Bool) : State :=
  (s.setFlc { s.flc with spindleBench := true, benchSpin := on }).setSpindle .bench

/-- SPINDLE returns to the engine (R165, R22): the spindle becomes BRAKING. -/
def State.spindleToEngine (s : State) : State := (s.setFlc { s.flc with spindleBench := false }).brake

/-- SENSE passes to the bench (R166): the live levels become the held levels. -/
def State.senseToBench (s : State) : State :=
  s.setFlc { s.flc with senseBench := true, heldRamp := s.flc.liveRamp, heldPreamp := s.flc.livePreamp }

/-- SENSE returns to the engine (R166): each input whose live level differs from its held level is an arrival of its engine
view, the ramp first. -/
def State.senseToEngine (s : State) : State :=
  let s1 := s.setFlc { s.flc with senseBench := false }
  let s2 := if s.flc.liveRamp ≠ s.flc.heldRamp ∧ s.flc.liveRamp = .onRamp then s1.rampArrives else s1
  if s.flc.livePreamp ≠ s.flc.heldPreamp ∧ s.flc.livePreamp = .active then s2.preampArrives else s2

/-- A group of lines (R163). -/
inductive Group where
  | select | spindle | sense
deriving DecidableEq, Repr

/-- The group a payload byte names (R168). -/
def Group.ofCode : Nat → Option Group
  | 0 => some .select
  | 1 => some .spindle
  | 2 => some .sense
  | _ => none

/-- Whether the bench owns a group. -/
def Flc.owned (f : Flc) : Group → Bool
  | .select => f.selectBench
  | .spindle => f.spindleBench
  | .sense => f.senseBench

/-- The checks of LINES_WRITE to BENCH (R168, checks 2 to 4), in order. -/
def State.benchCheck (s : State) (g : Group) (head mode level : Nat) : Option Refuse :=
  match g with
  | .select =>
    if s.prof.headCount ≤ head then some { code := .badValue, detail := 2 }
    else if (PreampMode.ofCode mode).isNone then some { code := .badValue, detail := 3 }
    else if s.flc.selectBench = false ∧ s.pos.act ≠ .parked then some { code := .notParked, detail := s.pos.act.code }
    else none
  | .spindle =>
    if (levelOfCode level).isNone then some { code := .badValue, detail := 4 }
    else if s.flc.spindleBench then none
    else if s.pos.spindle ≠ .stopped then some { code := .notStopped, detail := s.pos.spindle.code }
    else if s.pos.act ≠ .parked then some { code := .notStopped, detail := s.pos.act.code }
    else none
  | .sense => none

/-- A group passes to the bench, or its bench levels are replaced (R168). -/
def State.toBench (s : State) (g : Group) (head mode level : Nat) : State :=
  match g with
  | .select => s.selectToBench head ((PreampMode.ofCode mode).getD .standby)
  | .spindle =>
    let on := (levelOfCode level).getD false
    if s.flc.spindleBench then s.setFlc { s.flc with benchSpin := on } else s.spindleToBench on
  | .sense => if s.flc.senseBench then s else s.senseToBench

/-- A group returns to the engine; the return of SELECT or SPINDLE is told to the Job Controller (R164, R165, R168). -/
def State.toEngine (s : State) (g : Group) : State :=
  if s.flc.owned g then
    match g with
    | .select => s.selectToEngine.tell .linesReturned
    | .spindle => s.spindleToEngine.tell .linesReturned
    | .sense => s.senseToEngine
  else s

/-- LINES_WRITE (R168). DEDUCED (log 18): with the group and the owner both bad, the detail names the group. -/
def State.takeLinesWrite (s : State) (group owner head mode level : Nat) : Except Refuse (Group × State) :=
  match Group.ofCode group with
  | none => .error { code := .badValue, detail := 0 }
  | some g =>
    if owner = 0 then .ok (g, s.toEngine g)
    else if owner = 1 then
      match s.benchCheck g head mode level with
      | some r => .error r
      | none => .ok (g, s.toBench g head mode level)
    else .error { code := .badValue, detail := 1 }

/-- Fixture Line Control's share of a BENCH_RESET (R170): each bench-owned group returns, the bench levels take their reset
values, the held levels are taken from the live levels; the engine selection is kept. Braking begun by the reset is a
spin-down move owned by BENCH (R42). -/
def State.resetLines (s : State) : State :=
  let s1 := if s.flc.selectBench then s.selectToEngine else s
  let s2 := if s1.flc.spindleBench then (s1.newSpinDown .bench).spindleToEngine else s1
  let s3 := if s2.flc.senseBench then s2.senseToEngine else s2
  s3.setFlc
    { s3.flc with
      benchHead := 0, benchMode := .standby, benchSpin := false
      heldRamp := s3.flc.liveRamp, heldPreamp := s3.flc.livePreamp }

end Sys2Proof.Machine
end

