-- ==== Sys2Proof/Machine/Store.lean ====
section
/-! DEFINITION. The Profile Store (chapter 10): the record of a profile as bytes, its checks, start-up, acceptance, saving. -/

namespace Sys2Proof.Machine

/-! ## The record (R172, R173, R194) -/

/-- The values of fields 0 to 45 in index order (R172). -/
def Profile.fields (p : Profile) : List Int :=
  ([p.headCount, p.zoneCount, p.anchor, p.sectors, p.trackMax, p.nRevNom, p.speedTolPm, p.ampFloor, p.window,
     p.windowRevs, p.follow, p.visit, p.jog] : List Nat).map Int.ofNat ++ [p.jogCentre] ++
    ([p.retries, p.skewRevs, p.settleTol, p.settleCount, p.settleMs, p.otTol, p.otCount, p.acqCount, p.acqMs,
     p.loadMs, p.seekMs, p.unloadMs, p.spinupMs, p.speedRecoverMs, p.gainMinQ8, p.gainMaxQ8, p.ampMin,
     p.weakMaxPm, p.missMaxPm, p.zoneStepMax, p.skewStepMax, p.warmOff, p.warmOn, p.hotOff, p.hotOn, p.decayQ8,
     p.holdCost, p.seekBase, p.seekDiv, p.jogCost, p.paceTicks, p.hotParkTicks] : List Nat).map Int.ofNat

/-- The ranges of fields 0 to 45 (R172). -/
def fieldRanges : List (Int × Int) :=
  [(1, 20), (1, 24), (0, 19), (64, 1024), (1000, 262143), (1000000, 2857143), (1, 50), (64, 2048), (16, 512), (1, 64),
   (4, 64), (2, 8), (256, 4096), (-4096, 4096), (0, 3), (1, 16), (64, 2048), (2, 32), (5, 200), (256, 4096), (1, 8),
   (4, 32), (20, 500), (50, 2000), (10, 500), (50, 2000), (1000, 30000), (0, 10000), (64, 256), (256, 1024), (64, 8190),
   (0, 500), (0, 500), (256, 65535), (64, 8192), (1, 65535), (1, 65535), (1, 65535), (1, 65535), (1, 64), (0, 255),
   (0, 4095), (1, 4096), (0, 255), (0, 1000), (10, 6000)]

/-- The bytes of field `i` (R194): TRACK_MAX and N_REV_NOM take 4, the others 2. -/
def fieldWidth (i : Nat) : Nat := if i = 4 ∨ i = 5 then 4 else 2

/-- The offset of field `i` (R194). -/
def fieldOffset (i : Nat) : Nat := if i < 4 then 2 * i else if i = 4 then 8 else if i = 5 then 12 else 16 + 2 * (i - 6)

/-- Field `i` of a payload; JOG_CENTRE is the one signed field (R172). -/
def readField (b : List Byte) (i : Nat) : Int :=
  let bs := fieldBytes b (fieldOffset i) (fieldWidth i)
  if i = 13 then leInt bs else (leNat bs : Int)

/-- Zone `z`'s representative track of a payload (R194). -/
def readZone (b : List Byte) (z : Nat) : Nat := leNat (fieldBytes b (96 + 4 * z) 4)

/-- The fields of a payload whose ZONE_COUNT is `zc`, as a profile. -/
def readProfile (b : List Byte) (zc : Nat) : Profile :=
  let f := fun i => (readField b i).toNat
  { headCount := f 0, zoneCount := f 1, anchor := f 2, sectors := f 3, trackMax := f 4, nRevNom := f 5, speedTolPm := f 6
    ampFloor := f 7, window := f 8, windowRevs := f 9, follow := f 10, visit := f 11, jog := f 12
    jogCentre := readField b 13, retries := f 14, skewRevs := f 15, settleTol := f 16, settleCount := f 17
    settleMs := f 18, otTol := f 19, otCount := f 20, acqCount := f 21, acqMs := f 22, loadMs := f 23, seekMs := f 24
    unloadMs := f 25, spinupMs := f 26, speedRecoverMs := f 27, gainMinQ8 := f 28, gainMaxQ8 := f 29, ampMin := f 30
    weakMaxPm := f 31, missMaxPm := f 32, zoneStepMax := f 33, skewStepMax := f 34, warmOff := f 35, warmOn := f 36
    hotOff := f 37, hotOn := f 38, decayQ8 := f 39, holdCost := f 40, seekBase := f 41, seekDiv := f 42, jogCost := f 43
    paceTicks := f 44, hotParkTicks := f 45, zoneTracks := (List.range zc).map (readZone b) }

/-- Fields 0 to 45 as bytes, from field `i` on (R194). -/
def fieldsFrom : (i : Nat) → List Int → List Byte
  | _, [] => []
  | i, x :: xs => leSigned (fieldWidth i) x ++ fieldsFrom (i + 1) xs

/-- The record of a profile (R174, R194): 96 + 4 × ZONE_COUNT bytes. -/
def Profile.record (p : Profile) : List Byte := fieldsFrom 0 p.fields ++ (p.zoneTracks.map (leBytes 4)).flatten

/-! ## The checks (R177, checks 4 to 8) -/

/-- Why a payload is no valid profile. -/
inductive ProfileFault where
  /-- The payload is too short to hold ZONE_COUNT, or its length is not the fields and ZONE_COUNT zone entries. -/
  | length
  /-- A field index of R172 or R173. -/
  | value (field : Nat)
deriving DecidableEq, Repr

/-- The first field out of its range, from field `i` on (R177, check 6). -/
def firstOutOfRange : (i : Nat) → List Int → List (Int × Int) → Option Nat
  | i, x :: xs, (lo, hi) :: rs => if x < lo ∨ hi < x then some i else firstOutOfRange (i + 1) xs rs
  | _, _, _ => none

/-- The first zone entry above 262,143, from zone `z` on (R177, check 7). -/
def firstZoneOver : (z : Nat) → List Nat → Option Nat
  | _, [] => none
  | z, t :: ts => if 262143 < t then some (46 + z) else firstZoneOver (z + 1) ts

/-- The first zone that fails constraint 6 of R173, `below` being the track of the zone below. -/
def zoneOrder (trackMax : Nat) : (z : Nat) → (below : Option Nat) → List Nat → Option Nat
  | _, _, [] => none
  | z, below, t :: ts =>
    if trackMax < t ∨ (below.any fun b => decide (t ≤ b)) = true then some (46 + z)
    else zoneOrder trackMax (z + 1) (some t) ts

/-- The cross-field constraints, in order (R173). -/
def crossFields (p : Profile) : Option Nat :=
  if p.headCount ≤ p.anchor then some 2
  else if 21000 * p.sectors < p.nRevNom then some 5
  else if p.warmOn ≤ p.warmOff then some 36
  else if p.hotOff < p.warmOn then some 37
  else if p.hotOn ≤ p.hotOff then some 38
  else zoneOrder p.trackMax 0 none p.zoneTracks

/-- Checks 6 to 8 on a profile (R177). -/
def Profile.fault (p : Profile) : Option Nat :=
  match firstOutOfRange 0 p.fields fieldRanges with
  | some i => some i
  | none =>
    match firstZoneOver 0 p.zoneTracks with
    | some i => some i
    | none => crossFields p

/-- Checks 4 to 8 on a payload, and the profile it carries (R177). -/
def parseProfile (b : List Byte) : Except ProfileFault Profile :=
  if b.length < 4 then .error .length
  else
    let zc := leNat (fieldBytes b 2 2)
    if zc < 1 ∨ 24 < zc then .error (.value 1)
    else if b.length ≠ 96 + 4 * zc then .error .length
    else
      let p := readProfile b zc
      match p.fault with
      | some i => .error (.value i)
      | none => .ok p

/-! ## The fixture profile memory (10 section 10.2, R174) -/

/-- A record with its check word behind it in 2 bytes, little-endian (R174). -/
def formMemory (record : List Byte) (check : Half) : List Byte := record ++ leBytes 2 check.toNat

/-- The length of the record at the start of the memory, by its own ZONE_COUNT: 96 + 4 × ZONE_COUNT bytes (R174, R194). -/
def storedLength (m : ProfileMemory) : Nat := 96 + 4 * leNat (fieldBytes m 2 2)

/-- The stored record and the stored check word (R174); `none` where the record's ZONE_COUNT puts the check word beyond the
memory. -/
def splitMemory (m : ProfileMemory) : Option (List Byte × Half) :=
  let n := storedLength m
  if n + 2 ≤ m.length then some (m.take n, BitVec.ofNat 16 (leNat (fieldBytes m n 2))) else none

/-- The memory with `bs` in place of its bytes from address `i` on. -/
def overwrite (m : ProfileMemory) (i : Nat) (bs : List Byte) : ProfileMemory :=
  m.take i ++ List.replicate (i - m.length) 0xFF ++ bs ++ m.drop (i + bs.length)

/-- 0xFFFF in the place of the stored check word (R179). A check word beyond the memory has nothing to erase. -/
def eraseCheck (m : ProfileMemory) : ProfileMemory :=
  if storedLength m + 2 ≤ m.length then overwrite m (storedLength m) (leBytes 2 0xFFFF) else m

/-- A memory that holds `bytes` from address 0 on and has been written nowhere else: 0xFF in every other byte (10 section
10.2, log 10). -/
def wholeMemory (bytes : List Byte) : ProfileMemory :=
  bytes ++ List.replicate (Config.memoryBytes - bytes.length) 0xFF

/-- Replace the contents of the memory. -/
def State.setMemory (s : State) (m : ProfileMemory) : State := s.setPst { s.pst with memory := m }

/-! ## Start-up (R175) -/

/-- The start-up load ends with profile `p` (R175): the store READY, the record and indications, the ANCHOR driven, the head
map in the profile's shape; a DEFAULTED start-up makes PROFILE pending. -/
def State.endStartup (s : State) (p : Profile) (r : StartupRecord) : State :=
  let ok := decide (r = .loaded)
  let s1 := s.setPst
    { s.pst with
      state := .ready, profile := p, source := if ok then .loaded else .defaulted, defaulted := !ok, unsaved := !ok
      startup := r, loadDue := none }
  let s2 := s1.setHmp { s1.hmp with working := s1.emptyCopy, published := s1.emptyCopy }
  let s3 := s2.selectHead p.anchor
  if ok then s3 else s3.raise .profile

/-- What a start-up read of the memory gives (R174, R175). A check word that lies beyond the memory does not pass, and a record
split off by its own ZONE_COUNT has the length of that count (log 24). -/
def State.takeRecord (s : State) (m : ProfileMemory) : State :=
  match splitMemory m with
  | some (record, check) =>
    if check = checkWord record then
      match parseProfile record with
      | .ok p => s.endStartup p .loaded
      | .error (.value i) => s.endStartup {} (.value i)
      | .error .length => s.endStartup {} .check
    else s.endStartup {} .check
  | none => s.endStartup {} .check

/-- The start-up read ends (R175); an answer that comes when the store is no longer STARTING changes nothing. -/
def State.endRead (s : State) (a : MemRead) : State :=
  if s.pst.state = .starting then
    match a with
    | .noAnswer => s.endStartup {} .read
    | .contents => s.takeRecord s.pst.memory
    | .other bytes => (s.setMemory (wholeMemory bytes)).takeRecord (wholeMemory bytes)
  else s

/-- The 500 ms limit of the start-up read expires (R175). -/
def State.expireRead (s : State) : State :=
  match s.pst.state, s.pst.loadDue with
  | .starting, some d => (s.atTick d).endStartup {} .read
  | _, _ => s

/-! ## Acceptance (R178, R43, R143, R156, R170) -/

/-- The Positioner's share of an acceptance (R43): run counts 0, the index silence limit restarted. -/
def State.acceptPos (s : State) : State :=
  s.setPos
    { s.pos with
      inTol := 0
      outTol := 0
      silenceDue := if s.pos.spindle = .atSpeed then some (s.now + 2 * s.prof.nRevNom) else s.pos.silenceDue }

/-- A profile is accepted (R178), the blocks in the order in which the rule lists them. -/
def State.acceptProfile (s : State) (p : Profile) : State :=
  let s1 := s.setPst { s.pst with profile := p, source := .written, defaulted := false, unsaved := true }
  (((s1.clearDecoder.acceptPos).emptyMaps).recompute .profile).selectHead p.anchor

/-- PROFILE_WRITE (R177): the eight checks, then the acceptance. -/
def State.takeProfile (s : State) (b : List Byte) : Except Refuse State :=
  match s.jct.table with
  | j :: _ => .error { code := .busy, detail := j.id }
  | [] =>
    if s.pos.act ≠ .parked then .error { code := .notParked, detail := s.pos.act.code }
    else if s.pst.save.isSome then .error { code := .saving }
    else
      match parseProfile b with
      | .error .length => .error { code := .badLength }
      | .error (.value i) => .error { code := .badValue, detail := i }
      | .ok p => .ok (s.acceptProfile p)

/-! ## Saving (R179, R180) -/

/-- `n` bytes whose values the manual leaves open (log 11, log 12). -/
def State.freeBytes (s : State) (n : Nat) : List Byte := (List.range n).map fun i => Config.freeByte (s.free + i)

/-- A write of a save is issued with its limit of 100 ms; the write of ERASE erases the check word (R179, log 10). -/
def State.issueWrite (s : State) (st : SaveStage) : State :=
  s.setPst
    { s.pst with
      state := .saving
      save := some { stage := st, due := s.inMs 100 }
      memory := if st = .erase then eraseCheck s.pst.memory else s.pst.memory }

/-- A save ends (R179, R180): the outcome, the store READY. -/
def State.endSave (s : State) (o : SaveOutcome) : State :=
  s.setPst { s.pst with state := .ready, save := none, lastSave := o }

/-- The record's bytes become open values, the check word behind the record that they spell erased (R179, R180, log 11). -/
def State.spoilRecord (s : State) : State :=
  let n := s.prof.record.length
  (s.setMemory (eraseCheck (overwrite s.pst.memory 0 (s.freeBytes n)))).setFree (s.free + n)

/-- The check word becomes an open value (R179, log 11). -/
def State.spoilCheck (s : State) : State :=
  (s.setMemory (overwrite s.pst.memory s.prof.record.length (s.freeBytes 2))).setFree (s.free + 2)

/-- The memory takes the record of the current profile, the check word behind it erased (R179, log 10). -/
def State.writeRecord (s : State) : State := s.setMemory (overwrite s.pst.memory 0 (formMemory s.prof.record 0xFFFF))

/-- The memory takes the check word whole (R179, R180). -/
def State.writeCheck (s : State) : State :=
  s.setMemory (overwrite s.pst.memory s.prof.record.length (leBytes 2 (checkWord s.prof.record).toNat))

/-- The save completion (R179). -/
def State.completeSave (s : State) : State :=
  let s1 := s.writeCheck.endSave .done
  (s1.setPst
    { s1.pst with
      unsaved := false
      source := if s1.pst.source = .defaulted then .loaded else s1.pst.source }).raise .profile

/-- The memory answers a write (R179). An answer for a write given up changes nothing but the count of those; with such an
answer outstanding and a save in flight, which of the two it is for is a free value (log 42). -/
def State.memoryAnswer (s : State) (take : Save → State → State) : State :=
  match s.pst.late, s.pst.save with
  | 0, none => s
  | 0, some v => take v s
  | n + 1, none => s.setPst { s.pst with late := n }
  | n + 1, some v =>
    let s1 := s.setFree (s.free + 1)
    if Config.lateAnswer s.free then s1.setPst { s1.pst with late := n } else take v s1

/-- The write of the save in flight is confirmed (R179). -/
def State.stageDone (v : Save) (s : State) : State :=
  match v.stage with
  | .erase => s.issueWrite .record
  | .record => s.writeRecord.issueWrite .checkWord
  | .checkWord => s.completeSave

/-- The memory confirms a write (R179). -/
def State.confirmWrite (s : State) : State := s.memoryAnswer State.stageDone

/-- What a write that did not end well leaves in the memory (R179). -/
def State.failedWrite (s : State) (st : SaveStage) : State :=
  match st with
  | .erase => s
  | .record => s.spoilRecord
  | .checkWord => s.spoilCheck

/-- A save ends FAILED at its stage (R179): the unsaved indication set, whatever it was when the save was taken. -/
def State.failSave (v : Save) (s : State) : State :=
  let s1 := (s.failedWrite v.stage).endSave (.failed v.stage)
  (s1.setPst { s1.pst with unsaved := true }).raise .profile

/-- The memory reports a fault on a write (R179). -/
def State.reportFault (s : State) : State := s.memoryAnswer State.failSave

/-- The write of the save in flight is given up before the memory has answered it (R179, R180, log 42). -/
def State.giveUp (s : State) : State := s.setPst { s.pst with late := s.pst.late + 1 }

/-- The 100 ms limit of the write of the save in flight expires: a fault on that write (R179). -/
def State.expireWrite (s : State) : State :=
  match s.pst.save with
  | none => s
  | some v => ((s.atTick v.due).giveUp).failSave v

/-- What a save that is given up leaves in the memory (R180): in CHECK_WORD the memory completes the write it has taken. -/
def State.leftWrite (s : State) (st : SaveStage) : State :=
  match st with
  | .erase => s
  | .record => s.spoilRecord
  | .checkWord => s.writeCheck

/-- The Profile Store's share of a BENCH_RESET (R180). -/
def State.resetStore (s : State) : State :=
  match s.pst.save with
  | none => s
  | some v => ((s.leftWrite v.stage).giveUp).endSave .abandoned

end Sys2Proof.Machine
end

