-- ==== Sys2Proof/Machine/Replies.lean ====
section
/-! DEFINITION. The payloads of the replies and notices (R194). Where R194 gives no table, the items stand in the order of
their owner's rule (log 18). -/

namespace Sys2Proof.Machine

/-- One byte. -/
def b1 (n : Nat) : List Byte := [byteOf n]

/-- Two bytes, little-endian. -/
def b2 (n : Nat) : List Byte := leBytes 2 n

/-- Four bytes, little-endian. -/
def b4 (n : Nat) : List Byte := leBytes 4 n

/-! ## Refusals (R186, R194) -/

/-- The value of a refusal code (R186). -/
def RefuseCode.code : RefuseCode → Nat
  | .unknownKind => 1
  | .badLength => 2
  | .badValue => 3
  | .full => 4
  | .busy => 5
  | .notFound => 6
  | .notActive => 7
  | .notParked => 8
  | .notStopped => 9
  | .linesHeld => 10
  | .spindle => 11
  | .preamp => 12
  | .hot => 13
  | .anchor => 14
  | .publishCheck => 15
  | .starting => 16
  | .saving => 17

/-- A REFUSE payload: the code, the detail byte, and what follows it for PUBLISH_CHECK (R194). -/
def Refuse.payload (r : Refuse) : List Byte := b1 r.code.code ++ b1 r.detail ++ r.more.map byteOf

/-! ## Job records (R105, R194) -/

/-- DUPLICATES and the four clamped indications as bits 0 to 4 (R194). -/
def JobFlags.byte (f : JobFlags) : Byte := bitsByte [f.duplicates, f.window, f.jog, f.centre, f.skewRevs]

/-- The four summary counts, two bytes each. -/
def Counts.bytes (c : Counts) : List Byte := b2 c.ok ++ b2 c.reference ++ b2 c.fault ++ b2 c.skipped

/-- A first fault: head, zone, reason code. -/
def FirstFault.bytes (f : FirstFault) : List Byte := b1 f.head ++ b1 f.zone ++ b1 f.reason.code

/-- A cursor: zone index, head index, phase, retries used, consecutive anchor-failed zones (R98). -/
def Cursor.bytes (c : Cursor) : List Byte :=
  b1 c.zone ++ b1 c.head ++ b1 c.phase.code ++ b1 c.retries ++ b1 c.failedZones

/-- The condition a RUNNING job in PREPARE or ZONE_SEEK waits for (R105). -/
def State.waitOf (s : State) (j : Job) : Option WaitCond :=
  if j.state = .running then
    match (j.cursor.map fun c => c.phase : Option Phase) with
    | some .prepare => s.jct.ctx.waits
    | some .zoneSeek => s.jct.ctx.waits
    | _ => none
  else none

/-- One record of the job table in JOB_LIST (R105). -/
def State.jobItem (s : State) (j : Job) : List Byte :=
  b1 j.id ++ b1 j.kind.code ++ b1 j.state.code ++ [j.reasons.byte] ++ optItem (j.cursor.map Cursor.bytes) ++
    j.counts.bytes ++ optItem (j.first.map FirstFault.bytes) ++ [j.flags.byte] ++
    optItem ((s.waitOf j).map fun w => b1 w.code)

/-- The codes of the waiting causes (R105). -/
def WaitingCause.code : WaitingCause → Nat
  | .activeJob => 0
  | .selectHeld => 1
  | .spindleHeld => 2
  | .hot => 3

/-- The waiting cause of the queue head (R105). -/
def State.queueWait (s : State) : Option WaitingCause := s.queueHead.bind fun _ => s.waitingCause

/-- One record of the finished list in JOB_LIST (R105). -/
def Finished.item (f : Finished) : List Byte := b1 f.id ++ b1 f.kind.code ++ b1 f.final.code ++ [boolByte f.read]

/-- The JOB_LIST reply (R105). -/
def State.jobListBytes (s : State) : List Byte :=
  listItem (s.jct.table.map s.jobItem) ++ optItem (s.queueWait.map fun w => b1 w.code) ++
    listItem (s.jct.finished.map Finished.item)

/-- The finished record of RESULT_READ, 17 bytes (R194). -/
def Finished.bytes (f : Finished) : List Byte :=
  b1 f.id ++ b1 f.kind.code ++ b1 f.final.code ++ b1 (failReasonCode f.reason) ++ f.counts.bytes ++
    (match f.first with
      | some x => x.bytes
      | none => [255, 0, 0]) ++
    [f.flags.byte] ++ [boolByte f.read]

/-! ## Head-map entries (R194) -/

/-- A qualification figure, 0xFFFF when absent. -/
def figureBytes (x : Option Nat) : List Byte := b2 (x.getD 65535)

/-- The three qualification figures. -/
def QualFigures.bytes (f : QualFigures) : List Byte := figureBytes f.amp ++ figureBytes f.weak ++ figureBytes f.miss

/-- Outcome and reason code of a qualify result (R126). -/
def QualifyResult.codes : QualifyResult → Nat × Nat
  | .pass _ => (0, 0)
  | .fail r _ => (1, r.code)

/-- The figures of a qualify result. -/
def QualifyResult.figures : QualifyResult → QualFigures
  | .pass f => f
  | .fail _ f => f

/-- The qualify block, 10 bytes (R194). DESIGN CHOICE (log 40): with the presence byte 0 the three figures are sent as 0, as
the general rule has an optional field that its guard byte says is absent, and not as the 0xFFFF of a figure that is absent
from an entry. -/
def qualifyBlock : Option (Entry QualifyResult) → List Byte
  | none => List.replicate 10 0
  | some e =>
    b1 1 ++ b1 e.result.codes.1 ++ b1 e.result.codes.2 ++ e.result.figures.bytes ++ b1 e.job

/-- Outcome and reason code of a span result: OK, REFERENCE, FAULT (R127). -/
def SpanResult.codes : SpanResult → Nat × Nat
  | .ok _ => (0, 0)
  | .reference => (1, 0)
  | .fault r => (2, r.code)

/-- The figures of a span result as bytes, 0 where it carries none; REFERENCE carries g = 256. -/
def SpanResult.figureBytes : SpanResult → List Byte
  | .ok f =>
    leSigned 4 f.d ++ leSigned 1 f.dt ++ b2 f.df ++ leSigned 2 f.g ++ leSigned 4 f.v1 ++ leSigned 4 f.v2 ++
      leSigned 2 f.o1 ++ leSigned 2 f.o2
  | .reference => List.replicate 7 0 ++ b2 256 ++ List.replicate 12 0
  | .fault _ => List.replicate 21 0

/-- The span block, 25 bytes (R194). -/
def spanBlock : Option (Entry SpanResult) → List Byte
  | none => List.replicate 25 0
  | some e => b1 1 ++ b1 e.result.codes.1 ++ b1 e.result.codes.2 ++ e.result.figureBytes ++ b1 e.job

/-- Outcome and reason code of a skew result: OK, REFERENCE, FAULT (R128). -/
def SkewResult.codes : SkewResult → Nat × Nat
  | .ok _ => (0, 0)
  | .reference => (1, 0)
  | .fault r => (2, r.code)

/-- The figures of a skew result as bytes, 0 where it carries none. -/
def SkewResult.figureBytes : SkewResult → List Byte
  | .ok f => leSigned 2 f.skew ++ b1 f.ra ++ b1 f.rh ++ b4 f.nRev ++ [boolByte f.saturated]
  | .reference => List.replicate 9 0
  | .fault _ => List.replicate 9 0

/-- The skew block, 13 bytes (R194). -/
def skewBlock : Option (Entry SkewResult) → List Byte
  | none => List.replicate 13 0
  | some e => b1 1 ++ b1 e.result.codes.1 ++ b1 e.result.codes.2 ++ e.result.figureBytes ++ b1 e.job

/-- The four header bytes of both forms of MAP_READ (R139). -/
def State.mapHeader (s : State) (m : List HeadRecord) (head : Nat) : List Byte :=
  b2 s.hmp.gen ++ [boolByte (excludedIn m head)] ++ b1 (derivedIn m head).code

/-- The ENTRY form of MAP_READ, 52 bytes (R139, R194). -/
def State.entryForm (s : State) (m : List HeadRecord) (head zone : Nat) : List Byte :=
  let z := slotsOf m head zone
  s.mapHeader m head ++ qualifyBlock z.qualify ++ spanBlock z.span ++ skewBlock z.skew

/-- The three outcome bytes of a zone in the HEAD form, 255 for an absent entry (R194). -/
def ZoneSlots.outcomes (z : ZoneSlots) : List Byte :=
  b1 ((z.qualify.map fun e => e.result.codes.1).getD 255) ++ b1 ((z.span.map fun e => e.result.codes.1).getD 255) ++
    b1 ((z.skew.map fun e => e.result.codes.1).getD 255)

/-- The HEAD form of MAP_READ (R139, R194). -/
def State.headForm (s : State) (m : List HeadRecord) (head : Nat) : List Byte :=
  s.mapHeader m head ++ ((List.range s.prof.zoneCount).map fun z => (slotsOf m head z).outcomes).flatten

/-! ## The other reads -/

/-- The COUNTERS_READ reply (R13). -/
def State.countersBytes (s : State) : List Byte :=
  listItem ((List.range s.prof.headCount).map fun h =>
      let c := s.headCounters h
      b2 c.miss ++ b2 c.weak ++ b2 c.wild ++ b2 c.slip) ++
    b1 s.drivenHead ++ optItem (s.sdc.expect.map b2) ++ [boolByte s.sdc.marker]

/-- A move: kind and owner (R41). -/
def Move.bytes (m : Move) : List Byte := b1 m.kind.code ++ b1 m.owner.code

/-- The MOTION_READ reply (R41). -/
def State.motionBytes (s : State) : List Byte :=
  b1 s.pos.spindle.code ++ b1 s.pos.spindle.engineSpin.code ++ [boolByte s.pos.spinDownPending] ++
    optItem (s.pos.period.map b4) ++ b1 s.pos.act.code ++ b4 s.pos.target ++ leSigned 2 s.pos.offset ++
    optItem (s.pos.held.map fun h => b4 h.track ++ leSigned 2 h.offset ++ b1 h.owner.code) ++
    optItem (s.pos.spinMove.map Move.bytes) ++ optItem (s.pos.actMove.map Move.bytes) ++
    optItem (s.pos.lastBench.map fun x => b1 x.1.code ++ b1 x.2.code) ++
    optItem (s.pos.lastPark.map fun x => b1 x.1.code ++ [boolByte x.2])

/-- The ACK of a manual motion request (R26): spindle state, actuator state, the deferred and clamped indications. -/
def State.motionAck (s : State) (deferred clamped : Bool) : List Byte :=
  b1 s.pos.spindle.code ++ b1 s.pos.act.code ++ [bitsByte [deferred, clamped]]

/-- The THERMAL_READ reply (R154). -/
def State.thermalBytes (s : State) : List Byte :=
  b2 s.chm.heat ++ b1 s.chm.level.code ++ b2 s.chm.pace ++ [boolByte (s.chm.maySeek s.prof)] ++ b2 s.chm.hot ++
    optItem (s.chm.last.map fun c => b1 c.before.code ++ b1 c.after.code ++ b1 c.cause.code)

/-- The levels of the SELECT group (R169): driven, engine selection, bench levels. -/
def State.selectBytes (s : State) : List Byte :=
  b1 s.drivenHead ++ b1 s.drivenMode.code ++ b1 s.flc.engineHead ++ b1 s.engineMode.code ++ b1 s.flc.benchHead ++
    b1 s.flc.benchMode.code

/-- The levels of the SPINDLE group (R169): driven, bench level. -/
def State.spindleBytes (s : State) : List Byte := b1 (levelCode s.spinEnable) ++ b1 (levelCode s.flc.benchSpin)

/-- The levels of the SENSE group (R169): live level, engine view and, while bench-owned, held level of each input. -/
def State.senseBytes (s : State) : List Byte :=
  let held := fun n => if s.flc.senseBench then some (b1 n) else none
  b1 (rampCode s.flc.liveRamp) ++ b1 (rampCode s.rampView) ++ optItem (held (rampCode s.flc.heldRamp)) ++
    b1 (preampCode s.flc.livePreamp) ++ b1 (preampCode s.preampView) ++ optItem (held (preampCode s.flc.heldPreamp))

/-- The LINES_READ reply (R169). -/
def State.linesBytes (s : State) : List Byte :=
  b1 (ownerCode s.flc.selectBench) ++ b1 (ownerCode s.flc.spindleBench) ++ b1 (ownerCode s.flc.senseBench) ++
    s.selectBytes ++ s.spindleBytes ++ s.senseBytes

/-- The LINES_WRITE reply (R168): the group's owner and its levels. DEDUCED (log 18): the levels are R169's items of that group,
what is driven and the engine view among them. -/
def State.groupBytes (s : State) (g : Group) : List Byte :=
  b1 (ownerCode (s.flc.owned g)) ++
    match g with
    | .select => s.selectBytes
    | .spindle => s.spindleBytes
    | .sense => s.senseBytes

/-- The last link fault record (R183). -/
def LinkFault.bytes (f : LinkFault) : List Byte :=
  b1 f.fault.code ++ optItem (f.kind.map fun b => [b]) ++ optItem (f.tag.map fun b => [b])

/-- The LINK_READ reply (R190). -/
def State.linkBytes (s : State) : List Byte :=
  let c := s.blk.counters
  b1 c.check ++ b1 c.length ++ b1 c.gap ++ b1 c.overrun ++ optItem (s.blk.lastFault.map LinkFault.bytes) ++
    b1 s.blk.asm.state.code ++ b1 s.blk.buffer.length

/-- The PROFILE_READ reply (R176, R194). -/
def State.profileBytes (s : State) : List Byte :=
  s.prof.record ++ b1 s.pst.state.code ++ b1 s.pst.source.code ++ [bitsByte [s.pst.defaulted, s.pst.unsaved]] ++
    b1 s.pst.startup.code ++ b2 s.pst.startup.field ++ b1 ((s.pst.save.map fun v => v.stage.code).getD 255) ++
    b1 s.pst.lastSave.code ++ b1 s.pst.lastSave.stageCode

/-- The timer states of STATUS_READ: a bit set means RUNNING (R194). -/
def State.timerBits (s : State) : Byte := bitsByte [s.rtm.a.isRunning, s.rtm.b.isRunning]

/-- The state of a timer as an enumerated field: RUNNING or EXPIRED, in the order in which R157 first names them (log 18). -/
def Timer.stateCode (t : Timer) : Nat := if t.isRunning then 0 else 1

/-- The REST_WRITE reply (R161): presets, table, state and remaining count of each timer, clamped indication. DEDUCED (log 18): the
table entries carry the codes of the request. -/
def State.restBytes (s : State) (clamped : Bool) : List Byte :=
  let t := s.rtm.table
  b2 s.rtm.a.preset ++ b4 s.rtm.b.preset ++ b1 t.motionReq.code ++ b1 t.jobReq.code ++ b1 t.jobEnd.code ++
    b1 t.mapReq.code ++ b1 t.readReq.code ++ b1 t.lineReq.code ++ b1 t.configReq.code ++
    b1 s.rtm.a.stateCode ++ b2 (s.rtm.a.remaining s.now) ++ b1 s.rtm.b.stateCode ++
    b4 (s.rtm.b.remaining s.now) ++ [boolByte clamped]

/-- The pending set and the mask (R189). -/
def State.eventBytes (s : State) : List Byte := b1 s.blk.events.bits ++ b1 s.blk.mask.bits

/-! ## STATUS_READ (R191, R194) -/

/-- Offsets 6 to 11: the active job, 0 where none. -/
def State.statusJob (s : State) : List Byte :=
  match s.active with
  | none => List.replicate 6 0
  | some j =>
    let c := j.cursor.getD { zone := 0, head := 0, phase := .prepare, retries := 0, failedZones := 0 }
    b1 j.id ++ b1 j.state.code ++ b1 c.phase.code ++ b1 (j.zones.getD c.zone 0) ++ b1 (j.heads.getD c.head 0) ++
      [j.reasons.byte]

/-- Offsets 12 to 21: the window (R60). -/
def State.statusWindow (s : State) : List Byte :=
  match s.window with
  | none => List.replicate 10 0
  | some w =>
    b1 (if w.probing then 2 else 1) ++ b1 w.kind.code ++ b1 w.head ++ b2 w.size ++ b2 w.used ++ b2 (w.miss + w.wild) ++
      b1 w.revs

/-- Offsets 22 to 35: the gate (R86). -/
def State.statusGate (s : State) : List Byte :=
  let g := s.gcu
  b1 g.state.code ++ b1 g.mode.code ++ b1 (g.head.getD 255) ++ b2 (g.liveL s.now) ++ b2 (g.liveU s.now) ++
    b1 (overflowCode g.overflow) ++ b1 ((g.last.map fun r => r.ending.code).getD 255) ++
    b1 ((g.last.bind fun r => r.marks).getD 0) ++ b4 ((g.last.bind fun r => r.value).getD 0)

/-- The owners as bits 0 to 2 (R194). -/
def Flc.ownerBits (f : Flc) : Byte := bitsByte [f.selectBench, f.spindleBench, f.senseBench]

/-- The STATUS_READ reply, 50 bytes (R191, R194). -/
def State.statusBytes (s : State) : List Byte :=
  b1 s.pst.state.code ++ [bitsByte [s.pst.defaulted, s.pst.unsaved]] ++ b1 s.pos.spindle.code ++ b1 s.pos.act.code ++
    b1 s.chm.level.code ++ [s.flc.ownerBits] ++ s.statusJob ++ s.statusWindow ++ s.statusGate ++ b2 s.hmp.gen ++
    [boolByte s.hmp.unpub] ++ [s.timerBits] ++ b4 (s.rtm.a.remaining s.now) ++ b4 (s.rtm.b.remaining s.now) ++
    s.eventBytes

/-! ## Notices (R187, R194) -/

/-- The counter of a fault kind (R183). -/
def LinkCounters.of (c : LinkCounters) : RxFault → Nat
  | .length => c.length
  | .gap => c.gap
  | .check => c.check
  | .overrun => c.overrun

/-- The two summary bytes of a notice, from its owner's state when its transmission begins (R187, R194). Where the state a
kind reports is absent the bytes are 0. -/
def State.summary (s : State) : EventKind → List Byte
  | .jobEnd =>
    match s.jct.finished.getLast? with
    | some f => b1 f.id ++ b1 f.final.code
    | none => [0, 0]
  | .jobHeld =>
    match s.active with
    | some j => b1 j.id ++ [j.reasons.byte]
    | none => [0, 0]
  | .thermal =>
    match s.chm.last with
    | some c => b1 c.before.code ++ b1 c.after.code
    | none => [0, 0]
  | .motion => b1 s.pos.spindle.code ++ b1 s.pos.act.code
  | .preamp => b1 (preampCode s.preampView) ++ b1 (preampCode s.flc.livePreamp)
  | .link =>
    match s.blk.lastFault with
    | some f => b1 f.fault.code ++ b1 (s.blk.counters.of f.fault)
    | none => [0, 0]
  | .profile => b1 s.pst.source.code ++ b1 s.pst.lastSave.code

/-- The frame of a notice (R194). -/
def State.noticeFrame (s : State) (k : EventKind) : Frame :=
  { kind := 0x82, tag := 0, payload := b1 k.code ++ s.summary k }

end Sys2Proof.Machine
end

