-- ==== Sys2Proof/Machine/Requests.lean ====
section
/-! DEFINITION. The requests (R186): kinds, codes, lengths, sources, and what each owner does with its request. Every handler
answers ACK or REFUSE and the state after it. -/

namespace Sys2Proof.Machine

/-- What an owner answers to its request (R185). -/
inductive Answer where
  | ack (payload : List Byte)
  | refuse (r : Refuse)
deriving DecidableEq, Repr

/-- A refusal that changes nothing. -/
def State.refused (s : State) (code : RefuseCode) (detail : Nat) : Answer × State :=
  (.refuse { code := code, detail := detail }, s)

/-! ## Kinds (R186) -/

/-- The request kinds of R186. -/
inductive RequestKind where
  | statusRead | motionRead | thermalRead | linesRead | linkRead | countersRead | profileRead | jobList | resultRead
  | mapRead | eventsRead | jobSubmit | jobCancel | jobSuspend | jobResume | mapPublish | mapExclude | mapInclude | mapClear
  | spinUp | spinDown | headsLoad | headsUnload | seek | profileWrite | profileSave | restWrite | eventMaskWrite
  | linesWrite | countersClear | benchReset
deriving DecidableEq, Repr

/-- The KIND code (R186). -/
def RequestKind.code : RequestKind → Nat
  | .statusRead => 0x01
  | .motionRead => 0x02
  | .thermalRead => 0x03
  | .linesRead => 0x04
  | .linkRead => 0x05
  | .countersRead => 0x06
  | .profileRead => 0x07
  | .jobList => 0x08
  | .resultRead => 0x09
  | .mapRead => 0x0A
  | .eventsRead => 0x0B
  | .jobSubmit => 0x10
  | .jobCancel => 0x11
  | .jobSuspend => 0x12
  | .jobResume => 0x13
  | .mapPublish => 0x18
  | .mapExclude => 0x19
  | .mapInclude => 0x1A
  | .mapClear => 0x1B
  | .spinUp => 0x20
  | .spinDown => 0x21
  | .headsLoad => 0x22
  | .headsUnload => 0x23
  | .seek => 0x24
  | .profileWrite => 0x28
  | .profileSave => 0x29
  | .restWrite => 0x2A
  | .eventMaskWrite => 0x2B
  | .linesWrite => 0x2C
  | .countersClear => 0x2D
  | .benchReset => 0x3F

/-- The request kind that a KIND byte names, if any (R186). -/
def RequestKind.ofCode : Nat → Option RequestKind
  | 0x01 => some .statusRead
  | 0x02 => some .motionRead
  | 0x03 => some .thermalRead
  | 0x04 => some .linesRead
  | 0x05 => some .linkRead
  | 0x06 => some .countersRead
  | 0x07 => some .profileRead
  | 0x08 => some .jobList
  | 0x09 => some .resultRead
  | 0x0A => some .mapRead
  | 0x0B => some .eventsRead
  | 0x10 => some .jobSubmit
  | 0x11 => some .jobCancel
  | 0x12 => some .jobSuspend
  | 0x13 => some .jobResume
  | 0x18 => some .mapPublish
  | 0x19 => some .mapExclude
  | 0x1A => some .mapInclude
  | 0x1B => some .mapClear
  | 0x20 => some .spinUp
  | 0x21 => some .spinDown
  | 0x22 => some .headsLoad
  | 0x23 => some .headsUnload
  | 0x24 => some .seek
  | 0x28 => some .profileWrite
  | 0x29 => some .profileSave
  | 0x2A => some .restWrite
  | 0x2B => some .eventMaskWrite
  | 0x2C => some .linesWrite
  | 0x2D => some .countersClear
  | 0x3F => some .benchReset
  | _ => none

/-- The payload length of a fixed-length kind (R186); `none` for JOB_SUBMIT and PROFILE_WRITE. -/
def RequestKind.fixedLength : RequestKind → Option Nat
  | .linkRead => some 1
  | .resultRead => some 2
  | .mapRead => some 4
  | .jobCancel => some 1
  | .jobSuspend => some 1
  | .jobResume => some 1
  | .mapExclude => some 1
  | .mapInclude => some 1
  | .mapClear => some 2
  | .seek => some 6
  | .restWrite => some 15
  | .eventMaskWrite => some 1
  | .linesWrite => some 5
  | .countersClear => some 2
  | .jobSubmit => none
  | .profileWrite => none
  | .statusRead => some 0
  | .motionRead => some 0
  | .thermalRead => some 0
  | .linesRead => some 0
  | .countersRead => some 0
  | .profileRead => some 0
  | .jobList => some 0
  | .eventsRead => some 0
  | .mapPublish => some 0
  | .spinUp => some 0
  | .spinDown => some 0
  | .headsLoad => some 0
  | .headsUnload => some 0
  | .profileSave => some 0
  | .benchReset => some 0

/-- The activity source of a kind (R158, R186); BENCH_RESET belongs to none. -/
def RequestKind.source : RequestKind → Option Source
  | .statusRead => some .readReq
  | .motionRead => some .readReq
  | .thermalRead => some .readReq
  | .linesRead => some .readReq
  | .linkRead => some .readReq
  | .countersRead => some .readReq
  | .profileRead => some .configReq
  | .jobList => some .readReq
  | .resultRead => some .mapReq
  | .mapRead => some .mapReq
  | .eventsRead => some .readReq
  | .jobSubmit => some .jobReq
  | .jobCancel => some .jobReq
  | .jobSuspend => some .jobReq
  | .jobResume => some .jobReq
  | .mapPublish => some .mapReq
  | .mapExclude => some .mapReq
  | .mapInclude => some .mapReq
  | .mapClear => some .mapReq
  | .spinUp => some .motionReq
  | .spinDown => some .motionReq
  | .headsLoad => some .motionReq
  | .headsUnload => some .motionReq
  | .seek => some .motionReq
  | .profileWrite => some .configReq
  | .profileSave => some .configReq
  | .restWrite => some .configReq
  | .eventMaskWrite => some .configReq
  | .linesWrite => some .lineReq
  | .countersClear => some .configReq
  | .benchReset => none

/-! ## Reads -/

/-- STATUS_READ (R191). -/
def State.reqStatusRead (s : State) : Answer × State := (.ack s.statusBytes, s)

/-- MOTION_READ (R41). -/
def State.reqMotionRead (s : State) : Answer × State := (.ack s.motionBytes, s.clearEvent .motion)

/-- THERMAL_READ (R154). -/
def State.reqThermalRead (s : State) : Answer × State := (.ack s.thermalBytes, s.clearEvent .thermal)

/-- LINES_READ (R169). -/
def State.reqLinesRead (s : State) : Answer × State := (.ack s.linesBytes, s.clearEvent .preamp)

/-- LINK_READ (R190). -/
def State.reqLinkRead (s : State) (clear : Nat) : Answer × State :=
  if 1 < clear then s.refused .badValue 0
  else
    let s1 := s.clearEvent .link
    (.ack s.linkBytes, if clear = 1 then s1.setBlk { s1.blk with counters := {} } else s1)

/-- COUNTERS_READ (R13). -/
def State.reqCountersRead (s : State) : Answer × State := (.ack s.countersBytes, s)

/-- PROFILE_READ (R176). -/
def State.reqProfileRead (s : State) : Answer × State := (.ack s.profileBytes, s.clearEvent .profile)

/-- JOB_LIST (R105). -/
def State.reqJobList (s : State) : Answer × State := (.ack s.jobListBytes, s.clearEvent .jobHeld)

/-- Every RESULT_READ ends with the look at the finished list (R104): no record unread clears JOB_END. -/
def State.lookUnread (s : State) : State :=
  if s.jct.finished.all fun f => f.read then s.clearEvent .jobEnd else s

/-- The read indication of a finished record is set (R104). -/
def State.markRead (s : State) (id : Nat) : State :=
  s.setJct { s.jct with finished := s.jct.finished.map fun f => if f.id = id then { f with read := true } else f }

/-- RESULT_READ by id (R104). -/
def State.resultById (s : State) (id : Nat) : Answer × State :=
  match s.jct.finished.find? fun f => f.id == id with
  | some f => (.ack f.bytes, s.markRead id)
  | none =>
    match s.jct.table.find? fun j => j.id == id with
    | some j => s.refused .busy j.state.code
    | none => s.refused .notFound 0

/-- RESULT_READ of the oldest unread record (R104). -/
def State.resultOldest (s : State) : Answer × State :=
  match s.jct.finished.find? fun f => !f.read with
  | some f => (.ack f.bytes, s.markRead f.id)
  | none => s.refused .notFound 0

/-- RESULT_READ (R104). -/
def State.reqResultRead (s : State) (selector id : Nat) : Answer × State :=
  let r :=
    if selector = 0 then s.resultById id else if selector = 1 then s.resultOldest else s.refused .badValue 0
  (r.1, r.2.lookUnread)

/-- MAP_READ (R139). DEDUCED (log 25): where several fields offend, the detail names the first in payload order. -/
def State.reqMapRead (s : State) (copy form head zone : Nat) : Answer × State :=
  if 1 < copy then s.refused .badValue 0
  else if 1 < form then s.refused .badValue 1
  else if s.prof.headCount ≤ head then s.refused .badValue 2
  else if form = 0 ∧ s.prof.zoneCount ≤ zone then s.refused .badValue 3
  else
    let m := if copy = 0 then s.hmp.working else s.hmp.published
    (.ack (if form = 0 then s.entryForm m head zone else s.headForm m head), s)

/-- EVENTS_READ (R189). -/
def State.reqEventsRead (s : State) : Answer × State := (.ack s.eventBytes, s)

/-! ## Jobs (R100 to R102, R119, R123) -/

/-- The four option ids (R194). -/
inductive OptionId where
  | window | jog | centre | skewRevs
deriving DecidableEq, Repr

/-- The option a byte names (R194). -/
def OptionId.ofCode : Nat → Option OptionId
  | 0 => some .window
  | 1 => some .jog
  | 2 => some .centre
  | 3 => some .skewRevs
  | _ => none

/-- A decoded JOB_SUBMIT payload. -/
structure Submission where
  kind : Nat
  heads : List Nat
  zones : List Nat
  options : List (Nat × Half)
deriving DecidableEq, Repr

/-- The option entries of a payload from offset `i` on: `k` of them (R194). -/
def readOptions (p : List Byte) : (i k : Nat) → List (Nat × Half)
  | _, 0 => []
  | i, k + 1 => (byteAt p i, BitVec.ofNat 16 (leNat (fieldBytes p (i + 1) 2))) :: readOptions p (i + 3) k

/-- The counts n, m and k of a JOB_SUBMIT payload, where the bytes before each are present and the counts agree with the
length (R185). -/
def submitCounts (p : List Byte) : Option (Nat × Nat × Nat) :=
  if p.length < 2 then none
  else
    let n := byteAt p 1
    if p.length < 3 + n then none
    else
      let m := byteAt p (2 + n)
      if p.length < 4 + n + m then none
      else
        let k := byteAt p (3 + n + m)
        if p.length = 4 + n + m + 3 * k then some (n, m, k) else none

/-- The submission that a payload with agreeing counts carries (R194). -/
def readSubmission (p : List Byte) (n m k : Nat) : Submission :=
  { kind := byteAt p 0
    heads := (fieldBytes p 2 n).map BitVec.toNat
    zones := (fieldBytes p (3 + n) m).map BitVec.toNat
    options := readOptions p (4 + n + m) k }

/-- The position of the first element that a test refuses. -/
def firstBad {α : Type} (bad : α → Bool) (xs : List α) : Option Nat := xs.findIdx? bad

/-- The checks of R100, in order. -/
def State.submitCheck (s : State) (x : Submission) : Option Refuse :=
  let n := x.heads.length
  let m := x.zones.length
  if 2 < x.kind then some { code := .badValue, detail := 0 }
  else if n = 0 then some { code := .badValue, detail := 1 }
  else
    match firstBad (fun h => decide (s.prof.headCount ≤ h)) x.heads with
    | some i => some { code := .badValue, detail := 2 + i }
    | none =>
      if m = 0 then some { code := .badValue, detail := 2 + n }
      else
        match firstBad (fun z => decide (s.prof.zoneCount ≤ z)) x.zones with
        | some i => some { code := .badValue, detail := 3 + n + i }
        | none =>
          match firstBad (fun o => decide (3 < o.1)) x.options with
          | some i => some { code := .badValue, detail := 4 + n + m + 3 * i }
          | none => if 8 ≤ s.jct.table.length then some { code := .full } else none

/-- A list with every later appearance of an element dropped, the first keeping its place (R101). -/
def keepFirst : (seen : List Nat) → List Nat → List Nat
  | _, [] => []
  | seen, x :: xs => if x ∈ seen then keepFirst seen xs else x :: keepFirst (x :: seen) xs

/-- The zones of a list in ascending order, repeats dropped (R101): every zone number below 24 is tried in turn. -/
def orderZones (xs : List Nat) : List Nat := (List.range 24).filter fun z => xs.contains z

/-- The first appearance of an option (R101). -/
def firstOption (o : List (Nat × Half)) (id : Nat) : Option Half := (o.find? fun x => x.1 == id).map (·.2)

/-- The options as kept: JOG_CENTRE taken as signed, each clamped to its range (R99, R101). -/
def keptOptions (o : List (Nat × Half)) : Options :=
  { window := (firstOption o 0).map fun v => clampNat 16 512 v.toNat
    jog := (firstOption o 1).map fun v => clampNat 256 4096 v.toNat
    centre := (firstOption o 2).map fun v => clampInt (-4096) 4096 v.toInt
    skewRevs := (firstOption o 3).map fun v => clampNat 1 16 v.toNat }

/-- The indications of an accepted JOB_SUBMIT (R101). -/
def submitFlags (x : Submission) : JobFlags :=
  let k := keptOptions x.options
  { duplicates :=
      (keepFirst [] x.heads).length != x.heads.length || (orderZones x.zones).length != x.zones.length ||
        (keepFirst [] (x.options.map (·.1))).length != x.options.length
    window := (firstOption x.options 0).any fun v => k.window != some v.toNat
    jog := (firstOption x.options 1).any fun v => k.jog != some v.toNat
    centre := (firstOption x.options 2).any fun v => k.centre != some v.toInt
    skewRevs := (firstOption x.options 3).any fun v => k.skewRevs != some v.toNat }

/-- Whether a record of either list holds an id (R102). -/
def State.idHeld (s : State) (id : Nat) : Bool :=
  (s.jct.table.any fun j => j.id == id) || s.jct.finished.any fun f => f.id == id

/-- The id after `id`: after 255 the count continues at 1 (R102). -/
def idAfter (id : Nat) : Nat := if id = 255 then 1 else id + 1

/-- The first id not held, counting upward from `id` for at most `n` steps (R102). -/
def State.freeId (s : State) : (n id : Nat) → Nat
  | 0, id => id
  | n + 1, id => if s.idHeld id then s.freeId n (idAfter id) else id

/-- The record of an accepted JOB_SUBMIT (R101, R102). -/
def Submission.record (x : Submission) (id : Nat) : Job :=
  { id := id, kind := (JobKind.ofCode x.kind).getD .qualify, heads := keepFirst [] x.heads, zones := orderZones x.zones
    options := keptOptions x.options, state := .queued, reasons := {}, cursor := none, figures := none, counts := {}
    first := none, flags := submitFlags x }

/-- An accepted JOB_SUBMIT (R101, R102): the record joins the job table and the start conditions are tested (R106). -/
def State.submit (s : State) (x : Submission) : Answer × State :=
  let id := s.freeId 255 s.jct.nextId
  let j := x.record id
  (.ack (b1 id ++ [j.flags.byte]),
    (s.setJct { s.jct with table := s.jct.table ++ [j], nextId := idAfter id }).goOn .startTest)

/-- JOB_SUBMIT on a payload whose counts agree with its length (R100 to R102). -/
def State.reqJobSubmit (s : State) (p : List Byte) : Answer × State :=
  match submitCounts p with
  | none => s.refused .badLength 0
  | some (n, m, k) =>
    let x := readSubmission p n m k
    match s.submitCheck x with
    | some r => (.refuse r, s)
    | none => s.submit x

/-- The refusal of JOB_CANCEL, JOB_SUSPEND or JOB_RESUME naming no record they take (R119, R123). -/
def State.noJob (s : State) (id : Nat) : Answer × State :=
  if s.idHeld id then s.refused .notActive 0 else s.refused .notFound 0

/-- JOB_CANCEL (R123). -/
def State.reqJobCancel (s : State) (id : Nat) : Answer × State :=
  match s.jct.table.find? fun j => j.id == id with
  | some j => (.ack (b1 id ++ b1 FinalState.cancelled.code), s.finishJob j .cancelled none)
  | none => s.noJob id

/-- The ACK of JOB_SUSPEND and JOB_RESUME (R119): state and reason set of the active job as they stand. -/
def State.heldAck (s : State) : Answer × State :=
  match s.active with
  | some j => (.ack (b1 j.state.code ++ [j.reasons.byte]), s)
  | none => (.ack [0, 0], s)

/-- JOB_SUSPEND (R119). -/
def State.reqJobSuspend (s : State) (id : Nat) : Answer × State :=
  if (s.active.any fun j => j.id == id) = true then (s.addReason .bench).heldAck else s.noJob id

/-- JOB_RESUME (R119). -/
def State.reqJobResume (s : State) (id : Nat) : Answer × State :=
  if (s.active.any fun j => j.id == id) = true then (s.dropReason .bench).heldAck else s.noJob id

/-! ## Head map (R131, R133, R135) -/

/-- MAP_PUBLISH (R135, R136). -/
def State.reqMapPublish (s : State) : Answer × State :=
  match walkHeads s.prof 0 s.hmp.working with
  | some f => (.refuse { code := .publishCheck, detail := f.check, more := [f.head, f.zone] }, s)
  | none =>
    let s1 := s.publish
    (.ack (b2 s1.hmp.gen), s1)

/-- The ACK of MAP_EXCLUDE and MAP_INCLUDE (R131): the exclude flag and the derived state, by the codes of MAP_READ (log 18). -/
def State.flagAck (s : State) (head : Nat) : Answer × State :=
  (.ack ([boolByte (excludedIn s.hmp.working head)] ++ b1 (derivedIn s.hmp.working head).code), s)

/-- MAP_EXCLUDE (R131). -/
def State.reqMapExclude (s : State) (head : Nat) : Answer × State :=
  if s.prof.headCount ≤ head then s.refused .badValue 0
  else if head = s.prof.anchor then s.refused .anchor 0
  else (s.setExcluded head true).flagAck head

/-- MAP_INCLUDE (R131). -/
def State.reqMapInclude (s : State) (head : Nat) : Answer × State :=
  if s.prof.headCount ≤ head then s.refused .badValue 0 else (s.setExcluded head false).flagAck head

/-- MAP_CLEAR (R133); the job check comes before the fields (log 25). -/
def State.reqMapClear (s : State) (selector head : Nat) : Answer × State :=
  match s.active with
  | some j => s.refused .busy j.id
  | none =>
    if selector = 0 then
      if s.prof.headCount ≤ head then s.refused .badValue 1 else (.ack [], s.clearHead head)
    else if selector = 1 then (.ack [], s.clearMap)
    else s.refused .badValue 0

/-! ## Manual motion (R26 to R40) -/

/-- The BUSY gate of a manual motion request (R26). -/
def State.motionGate (s : State) : Option Refuse := s.running.map fun j => { code := .busy, detail := j.id }

/-- The reply of a manual motion request taken or refused by its rule (R26). -/
def State.motionReply (s : State) (r : Except Refuse State) : Answer × State :=
  match r with
  | .ok s1 => (.ack (s1.motionAck false false), s1)
  | .error e => (.refuse e, s)

/-- SPIN_UP (R27). -/
def State.reqSpinUp (s : State) : Answer × State :=
  match s.motionGate with
  | some r => (.refuse r, s)
  | none => s.motionReply (s.takeSpinUp .bench)

/-- SPIN_DOWN (R28). -/
def State.reqSpinDown (s : State) : Answer × State :=
  match s.motionGate with
  | some r => (.refuse r, s)
  | none => s.motionReply (s.takeSpinDown .bench)

/-- HEADS_LOAD (R29). -/
def State.reqHeadsLoad (s : State) : Answer × State :=
  match s.motionGate with
  | some r => (.refuse r, s)
  | none => s.motionReply (s.takeLoad .bench)

/-- HEADS_UNLOAD (R40). -/
def State.reqHeadsUnload (s : State) : Answer × State :=
  match s.motionGate with
  | some r => (.refuse r, s)
  | none => s.motionReply (.ok (s.beginUnload .bench))

/-- A SEEK past its track and HOT checks (R32): the offset clamped, the reply's deferred and clamped indications (R26). -/
def State.seekReply (s : State) (track : Nat) (offset : Int) : Answer × State :=
  let o := clampInt (-8191) 8191 offset
  match s.takeSeek track o .bench with
  | .ok (t, s1) => (.ack (s1.motionAck (t == .held) (o != offset)), s1)
  | .error e => (.refuse e, s)

/-- SEEK (R32). -/
def State.reqSeek (s : State) (track : Nat) (offset : Int) : Answer × State :=
  match s.motionGate with
  | some r => (.refuse r, s)
  | none =>
    if s.prof.trackMax < track then s.refused .badValue 0
    else if s.chm.level = .hot then s.refused .hot 0
    else s.seekReply track offset

/-! ## Profile, timers, events, lines, counters -/

/-- PROFILE_WRITE (R177, R178). -/
def State.reqProfileWrite (s : State) (p : List Byte) : Answer × State :=
  match s.takeProfile p with
  | .ok s1 => (.ack (b1 s1.pst.source.code ++ [boolByte s1.pst.unsaved]), s1)
  | .error r => (.refuse r, s)

/-- PROFILE_SAVE (R179). -/
def State.reqProfileSave (s : State) : Answer × State :=
  if s.pst.save.isSome then s.refused .saving 0
  else
    let s1 := s.issueWrite .erase
    (.ack (b1 s1.pst.state.code), s1)

/-- A rest source table read from seven entries; `none` where an entry names nothing (R161). -/
def readTable (e : List Nat) : Option RestTable :=
  match e.map RestMap.ofCode with
  | [some t0, some t1, some t2, some t3, some t4, some t5, some t6] =>
    some { motionReq := t0, jobReq := t1, jobEnd := t2, mapReq := t3, readReq := t4, lineReq := t5, configReq := t6 }
  | _ => none

/-- REST_WRITE past its check (R161): presets and table, remaining counts reduced, the CONFIG_REQ reload, the rest test. -/
def State.writeRest (s : State) (a b : Nat) (t : RestTable) : Answer × State :=
  let pa := clampNat 250 60000 a
  let pb := clampNat 0 600000 b
  let s1 := s.setRtm { a := s.rtm.a.represet pa s.now, b := s.rtm.b.represet pb s.now, table := t }
  let s2 := s1.reload .configReq
  let stopped :=
    (s.rtm.a.isRunning && !s2.rtm.a.isRunning) || (s.rtm.b.isRunning && !s2.rtm.b.isRunning)
  let s3 := if stopped then s2.restTest else s2
  (.ack (s3.restBytes (pa != a || pb != b)), s3)

/-- REST_WRITE (R161); refused, it reloads by the table that stands (R158). -/
def State.reqRestWrite (s : State) (a b : Nat) (entries : List Nat) : Answer × State :=
  match readTable entries with
  | some t => s.writeRest a b t
  | none =>
    let i := (firstBad (fun e => decide (2 < e)) entries).getD 0
    (s.reload .configReq).refused .badValue (8 + i)

/-- EVENT_MASK_WRITE (R189). -/
def State.reqEventMaskWrite (s : State) (mask : Nat) : Answer × State :=
  if 128 ≤ mask then s.refused .badValue 0
  else
    let s1 := s.setBlk (s.blk.setMask (EventSet.ofBits mask))
    (.ack (b1 s1.blk.mask.bits ++ b1 s1.blk.events.bits), s1)

/-- LINES_WRITE (R168). -/
def State.reqLinesWrite (s : State) (group owner head mode level : Nat) : Answer × State :=
  match s.takeLinesWrite group owner head mode level with
  | .ok (g, s1) => (.ack (s1.groupBytes g), s1)
  | .error r => (.refuse r, s)

/-- COUNTERS_CLEAR (R14). -/
def State.reqCountersClear (s : State) (selector head : Nat) : Answer × State :=
  if selector = 0 then
    if s.prof.headCount ≤ head then s.refused .badValue 1
    else (.ack [], s.setSdc { s.sdc with counters := s.sdc.counters.set head {} })
  else if selector = 1 then (.ack [], s.setSdc { s.sdc with counters := List.replicate 20 {} })
  else s.refused .badValue 0

/-- BENCH_RESET (R192): ACK; the reset takes effect once the reply is sent. -/
def State.reqBenchReset (s : State) : Answer × State := (.ack [], s)

/-! ## The owner of each request (R186) -/

/-- A request of a good length is passed to its owner (R185, R186). -/
def State.handle (s : State) (k : RequestKind) (p : List Byte) : Answer × State :=
  match k with
  | .statusRead => s.reqStatusRead
  | .motionRead => s.reqMotionRead
  | .thermalRead => s.reqThermalRead
  | .linesRead => s.reqLinesRead
  | .linkRead => s.reqLinkRead (byteAt p 0)
  | .countersRead => s.reqCountersRead
  | .profileRead => s.reqProfileRead
  | .jobList => s.reqJobList
  | .resultRead => s.reqResultRead (byteAt p 0) (byteAt p 1)
  | .mapRead => s.reqMapRead (byteAt p 0) (byteAt p 1) (byteAt p 2) (byteAt p 3)
  | .eventsRead => s.reqEventsRead
  | .jobSubmit => s.reqJobSubmit p
  | .jobCancel => s.reqJobCancel (byteAt p 0)
  | .jobSuspend => s.reqJobSuspend (byteAt p 0)
  | .jobResume => s.reqJobResume (byteAt p 0)
  | .mapPublish => s.reqMapPublish
  | .mapExclude => s.reqMapExclude (byteAt p 0)
  | .mapInclude => s.reqMapInclude (byteAt p 0)
  | .mapClear => s.reqMapClear (byteAt p 0) (byteAt p 1)
  | .spinUp => s.reqSpinUp
  | .spinDown => s.reqSpinDown
  | .headsLoad => s.reqHeadsLoad
  | .headsUnload => s.reqHeadsUnload
  | .seek => s.reqSeek (leNat (fieldBytes p 0 4)) (leInt (fieldBytes p 4 2))
  | .profileWrite => s.reqProfileWrite p
  | .profileSave => s.reqProfileSave
  | .restWrite =>
    s.reqRestWrite (leNat (fieldBytes p 0 4)) (leNat (fieldBytes p 4 4)) ((fieldBytes p 8 7).map BitVec.toNat)
  | .eventMaskWrite => s.reqEventMaskWrite (byteAt p 0)
  | .linesWrite => s.reqLinesWrite (byteAt p 0) (byteAt p 1) (byteAt p 2) (byteAt p 3) (byteAt p 4)
  | .countersClear => s.reqCountersClear (byteAt p 0) (byteAt p 1)
  | .benchReset => s.reqBenchReset

end Sys2Proof.Machine
end

