-- ==== Sys2Proof/Machine/Reset.lean ====
section
/-! DEFINITION. The two resets (R15, R42, R61, R87, R124, R142, R155, R162, R170, R175, R180, R192, R193). -/

namespace Sys2Proof.Machine

/-! ## BENCH_RESET taking effect -/

/-- The Bench Link's share (R192, R193): counters 0, fault record absent, pending set empty, mask all on, notices withdrawn,
buffer emptied; the assembler and a record in transmission kept. -/
def State.resetLink (s : State) : State :=
  s.setBlk
    { s.blk with
      buffer := [], counters := {}, lastFault := none, events := EventSet.all false, mask := EventSet.all true
      waiting := s.blk.waiting.filter fun w => w.isReply }

/-- The Window Collector's share (R61). -/
def State.resetWindow (s : State) : State := s.endWindow (.abandoned .reset)

/-- The moves in flight at the reset (R42): ended INTERRUPTED and reported to no one, but for an unload in flight, which runs
on as the same move with owner BENCH. -/
def resetMove (m : Option Move) : Option Move :=
  match m with
  | some x => if x.kind = .unload then some { x with owner := .bench } else none
  | none => none

/-- The Positioner's values at the reset (R42), before the motion it begins. -/
def State.clearMotion (s : State) : State :=
  s.setPos
    { s.pos with
      inTol := 0, outTol := 0, acqRun := 0, settleRun := 0, otRun := 0, lossRun := 0
      held := none, spinMove := none, actMove := resetMove s.pos.actMove, lastBench := none, spinDownPending := false }

/-- The braking of the reset (R42): at once from ACCELERATING, and from AT_SPEED or OFF_SPEED with the actuator PARKED;
otherwise pending. Each is a spin-down move owned by BENCH. -/
def State.resetSpindle (s : State) : State :=
  match s.pos.spindle with
  | .accelerating => (s.newSpinDown .bench).brake
  | .atSpeed | .offSpeed =>
    let s1 := s.newSpinDown .bench
    if s1.pos.act = .parked then s1.brake else s1.setPos { s1.pos with spinDownPending := true }
  | .stopped => s
  | .braking => s
  | .bench => s

/-- The Positioner's share (R42): loaded heads begin an unload with cause BENCH. -/
def State.resetMotion (s : State) : State := (s.clearMotion.resetSpindle).beginUnload .bench

/-- BENCH_RESET takes effect (R192), the blocks in the order of log 23. The decoder's share comes last, so that no head change
of the reset leaves the recovery marker armed (R15). -/
def State.benchReset (s : State) : State :=
  (((((((s.resetLink.resetJobs).resetWindow.resetGate).resetMotion).resetLines).resetHeat).setRtm Rtm.reset).resetMap.resetStore
    ).clearDecoder

/-! ## Power-on reset -/

/-- The power-on reset (R175 and the power-on columns of every block): State.reset, keeping what is not the part's to clear:
the levels of the input lines, the fixture profile memory as a save in flight left it (R180), the model's counts of free
values and of memory writes not answered, and the queue of waiting commands (log 30). -/
def State.powerOn (s : State) : State :=
  let r := s.resetStore
  { State.reset with
    flc :=
      { State.reset.flc with
        liveRamp := s.flc.liveRamp, livePreamp := s.flc.livePreamp, heldRamp := s.flc.liveRamp
        heldPreamp := s.flc.livePreamp }
    pst := { State.reset.pst with memory := r.pst.memory, late := r.pst.late }
    free := r.free
    pending := s.pending }

end Sys2Proof.Machine
end

