-- ==== Sys2Proof/Machine/Link.lean ====
section
/-! DEFINITION. The Bench Link (chapter 11): the receive assembler, receive faults, the receive buffer and decoder, the
transmitter, and the end of every arrival. -/

namespace Sys2Proof.Machine

/-! ## Receive faults (R183) -/

/-- Add 1 to the counter of a fault kind, saturating at 255 (R183). -/
def LinkCounters.count (c : LinkCounters) : RxFault → LinkCounters
  | .length => { c with length := satAdd 255 c.length 1 }
  | .gap => { c with gap := satAdd 255 c.gap 1 }
  | .check => { c with check := satAdd 255 c.check 1 }
  | .overrun => { c with overrun := satAdd 255 c.overrun 1 }

/-- A receive fault (R183): counted, recorded, LINK pending. -/
def State.rxFault (s : State) (f : RxFault) (kind tag : Option Byte) : State :=
  (s.setBlk
    { s.blk with
      counters := s.blk.counters.count f, lastFault := some { fault := f, kind := kind, tag := tag } }).raise .link

/-! ## Replies (R184, R185) -/

/-- A reply begins to wait within the arrival that decodes its frame; its payload is filled in when its owner has answered
(log 13). -/
def State.openReply (s : State) (tag : Byte) : State :=
  s.setBlk { s.blk with waiting := s.blk.waiting ++ [.reply { kind := 0x80, tag := tag, payload := [] } false] }

/-- The frame of an answer (R194): KIND 0x80 for ACK and 0x81 for REFUSE, with the request's TAG. -/
def Answer.frame (a : Answer) (tag : Byte) : Frame :=
  match a with
  | .ack p => { kind := 0x80, tag := tag, payload := p }
  | .refuse r => { kind := 0x81, tag := tag, payload := r.payload }

/-- The waiting reply takes its contents. -/
def Waiting.fill (w : Waiting) (f : Frame) (reset : Bool) : Waiting :=
  match w with
  | .reply _ _ => .reply f reset
  | .notice k => .notice k

/-- The reply in the list of waiting records takes its contents. -/
def State.fillReply (s : State) (f : Frame) (reset : Bool) : State :=
  s.setBlk { s.blk with waiting := s.blk.waiting.map fun w => w.fill f reset }

/-- The rest-timer reload of a known kind (R158, R185). -/
def State.reloadFor (s : State) (k : RequestKind) : State :=
  match k.source with
  | some src => s.reload src
  | none => s

/-- Whether an answer is the ACK of a BENCH_RESET (R192). -/
def isResetAck (k : RequestKind) (a : Answer) : Bool :=
  match k, a with
  | .benchReset, .ack _ => true
  | _, _ => false

/-- A request of a good length goes to its owner (R185, check 4). REST_WRITE makes its own reload (R161). -/
def State.answer (s : State) (k : RequestKind) (f : Frame) : State :=
  let s1 := if k = .restWrite then s else s.reloadFor k
  let r := s1.handle k f.payload
  r.2.fillReply (r.1.frame f.tag) (isResetAck k r.1)

/-- A refusal by the decoder (R185). -/
def State.decodeRefuse (s : State) (f : Frame) (code : RefuseCode) (detail : Nat) : State :=
  s.fillReply ((Answer.refuse { code := code, detail := detail }).frame f.tag) false

/-- The decoder judges a frame whose reply has begun to wait (R185). -/
def State.judge (s : State) (f : Frame) : State :=
  match RequestKind.ofCode f.kind.toNat with
  | none =>
    if s.pst.state = .starting then s.decodeRefuse f .starting 0 else s.decodeRefuse f .unknownKind 0
  | some k =>
    if s.pst.state = .starting then (s.reloadFor k).decodeRefuse f .starting 0
    else
      match k.fixedLength with
      | some n => if f.payload.length = n then s.answer k f else (s.reloadFor k).decodeRefuse f .badLength n
      | none => s.answer k f

/-- Whether no reply waits and none is in transmission (R184). -/
def Blk.replyFree (b : Blk) : Bool :=
  !(b.waiting.any fun w => w.isReply) && !(b.sending.any fun x => x.isReply)

/-- The decoder takes the oldest frame of the buffer when no reply waits or is in transmission (R184). -/
def State.decodeNext (s : State) : State :=
  if s.blk.replyFree then
    match s.blk.buffer with
    | [] => s
    | f :: fs => ((s.setBlk { s.blk with buffer := fs }).openReply f.tag).judge f
  else s

/-- A checked frame is offered to the receive buffer (R184): it joins when fewer than 4 frames stand there, otherwise it has
receive fault OVERRUN. -/
def State.offerFrame (s : State) (f : Frame) : State :=
  if s.blk.buffer.length < 4 then (s.setBlk { s.blk with buffer := s.blk.buffer ++ [f] }).decodeNext
  else s.rxFault .overrun (some f.kind) (some f.tag)

/-! ## The receive assembler (R181, R182) -/

/-- The bytes that the CRC of a frame covers: LEN, KIND, TAG, payload (R182). -/
def Frame.covered (f : Frame) : List Byte := byteOf f.payload.length :: f.kind :: f.tag :: f.payload

/-- The bytes of a frame on the line (R194). -/
def Frame.bytes (f : Frame) : List Byte := 0xC3 :: f.covered ++ [crc8 f.covered]

/-- The assembler back in HUNT with no bytes held and no gap limit. -/
def huntAsm : Assembler := { state := .hunt, len := 0, got := [], gapDue := none }

/-- Replace the assembler. -/
def State.setAsm (s : State) (a : Assembler) : State := s.setBlk { s.blk with asm := a }

/-- The gap limit from now: 5 ms (R181). -/
def State.gapLimit (s : State) : Option Nat := some (s.inMs 5)

/-- The CHECK byte of a frame (R181, R182). -/
def State.takeCheck (s : State) (b : Byte) : State :=
  let a := s.blk.asm
  let s1 := s.setAsm huntAsm
  if crc8 (byteOf a.len :: a.got) = b then
    s1.offerFrame { kind := a.got.getD 0 0, tag := a.got.getD 1 0, payload := a.got.drop 2 }
  else s1.rxFault .check a.got[0]? a.got[1]?

/-- A byte on the bench serial line (R181). -/
def State.takeByte (s : State) (b : Byte) : State :=
  let a := s.blk.asm
  match a.state with
  | .hunt => if b = 0xC3 then s.setAsm { state := .length, len := 0, got := [], gapDue := s.gapLimit } else s
  | .length =>
    if b.toNat ≤ 240 then s.setAsm { state := .body, len := b.toNat, got := [], gapDue := s.gapLimit }
    else (s.setAsm huntAsm).rxFault .length none none
  | .body =>
    let got := a.got ++ [b]
    s.setAsm { a with state := if got.length = a.len + 2 then .check else .body, got := got, gapDue := s.gapLimit }
  | .check => s.takeCheck b

/-- The gap limit expires (R181, R183). -/
def State.expireGap (s : State) : State :=
  match s.blk.asm.gapDue with
  | some d =>
    let got := s.blk.asm.got
    ((s.atTick d).setAsm huntAsm).rxFault .gap got[0]? got[1]?
  | none => s

/-! ## The transmitter (R187) -/

/-- A waiting record in transmission: a notice's summary bytes are formed now (R187). -/
def State.sendingOf (s : State) (w : Waiting) : Sending :=
  match w with
  | .reply f reset => { frame := f, isReply := true, reset := reset, due := s.now + Config.byteTicks * (5 + f.payload.length) }
  | .notice k =>
    let f := s.noticeFrame k
    { frame := f, isReply := false, reset := false, due := s.now + Config.byteTicks * (5 + f.payload.length) }

/-- A free transmitter begins the record that began to wait first (R187). -/
def State.transmit (s : State) : State :=
  match s.blk.sending, s.blk.waiting with
  | none, w :: ws => s.setBlk { s.blk with sending := some (s.sendingOf w), waiting := ws }
  | _, _ => s

/-- The transmitter has sent the last byte of a record (R187): the ACK of a BENCH_RESET makes the reset take effect (R192),
and after a reply the decoder may take the next frame (R184). -/
def State.sent (s : State) (x : Sending) : State :=
  let s1 := s.atTick x.due
  let s2 := s1.setBlk { s1.blk with sending := none }
  (if x.reset then s2.benchReset else s2).decodeNext

/-- TRANSMIT_COMPLETE; with nothing in transmission it changes nothing. -/
def State.transmitDone (s : State) : State :=
  match s.blk.sending with
  | some x => s.sent x
  | none => s

/-- The arrival at which a BENCH_RESET takes effect (R192): the end of the transmission of its ACK (log 7). -/
def State.resetTakesEffect (s : State) : State :=
  match s.blk.sending with
  | some x => if x.reset then s.sent x else s
  | none => s

/-! ## Every arrival -/

/-- The end of an arrival: the Job Controller has taken its reports (log 15), and a free transmitter begins the next record
(R187, log 13). -/
def State.finish (s : State) : State := (s.drain Config.drainFuel).transmit

/-- The outcome of a command that no rule refuses. -/
def arrival (s : State) : Host.Outcome State Fault Refusal := .next s.finish

/-- A request command (log 6): its checked frame reaches the receive buffer; a payload that no frame can carry is refused
(log 27). -/
def request (kind : Nat) (tag : Byte) (payload : List Byte) (s : State) : Host.Outcome State Fault Refusal :=
  if payload.length ≤ 240 then arrival (s.offerFrame { kind := byteOf kind, tag := tag, payload := payload })
  else .refused .payloadTooLong

end Sys2Proof.Machine
end

