-- ==== Sys2Proof/Machine/Commands.lean ====
section
/-! DEFINITION. The meanings of the request commands: each is the arrival of that request's checked frame (log 6), its payload
laid out by R186 and R194. -/

namespace Sys2Proof.Machine

/-- The bytes of one option entry of JOB_SUBMIT (R194). -/
def optionBytes (o : Byte × Half) : List Byte := o.1 :: leBytes 2 o.2.toNat

/-- The JOB_SUBMIT payload (R194). -/
def submitPayload (kind : Byte) (heads zones : List Byte) (options : List (Byte × Half)) : List Byte :=
  [kind, byteOf heads.length] ++ heads ++ [byteOf zones.length] ++ zones ++ [byteOf options.length] ++
    (options.map optionBytes).flatten

/-- The SEEK payload (R186). -/
def seekPayload (track : Quad) (offset : Half) : List Byte := leBytes 4 track.toNat ++ leBytes 2 offset.toNat

/-- The REST_WRITE payload (R186). -/
def restPayload (presetA presetB : Quad) (table : List Byte) : List Byte :=
  leBytes 4 presetA.toNat ++ leBytes 4 presetB.toNat ++ table

/-- REQUEST_UNKNOWN_KIND (R185). -/
def execRequestUnknownKind (kind tag : Byte) (payload : List Byte) (s : State) : Host.Outcome State Fault Refusal :=
  request kind.toNat tag payload s

/-- STATUS_READ (R191). -/
def execStatusRead (tag : Byte) (s : State) :
    Host.Outcome State Fault Refusal :=
  request 0x01 tag [] s

/-- MOTION_READ (R41). -/
def execMotionRead (tag : Byte) (s : State) :
    Host.Outcome State Fault Refusal :=
  request 0x02 tag [] s

/-- THERMAL_READ (R154). -/
def execThermalRead (tag : Byte) (s : State) :
    Host.Outcome State Fault Refusal :=
  request 0x03 tag [] s

/-- LINES_READ (R169). -/
def execLinesRead (tag : Byte) (s : State) :
    Host.Outcome State Fault Refusal :=
  request 0x04 tag [] s

/-- LINK_READ (R190). -/
def execLinkRead (tag clear : Byte) (s : State) :
    Host.Outcome State Fault Refusal :=
  request 0x05 tag [clear] s

/-- COUNTERS_READ (R13). -/
def execCountersRead (tag : Byte) (s : State) :
    Host.Outcome State Fault Refusal :=
  request 0x06 tag [] s

/-- PROFILE_READ (R176). -/
def execProfileRead (tag : Byte) (s : State) :
    Host.Outcome State Fault Refusal :=
  request 0x07 tag [] s

/-- JOB_LIST (R105). -/
def execJobList (tag : Byte) (s : State) :
    Host.Outcome State Fault Refusal :=
  request 0x08 tag [] s

/-- RESULT_READ (R104). -/
def execResultRead (tag selector id : Byte) (s : State) :
    Host.Outcome State Fault Refusal :=
  request 0x09 tag [selector, id] s

/-- MAP_READ (R139). -/
def execMapRead (tag copy form head zone : Byte) (s : State) :
    Host.Outcome State Fault Refusal :=
  request 0x0A tag [copy, form, head, zone] s

/-- EVENTS_READ (R189). -/
def execEventsRead (tag : Byte) (s : State) :
    Host.Outcome State Fault Refusal :=
  request 0x0B tag [] s

/-- JOB_SUBMIT (R100). -/
def execJobSubmit (tag kind : Byte) (heads zones : List Byte) (options : List (Byte × Half)) (s : State) :
    Host.Outcome State Fault Refusal :=
  request 0x10 tag (submitPayload kind heads zones options) s

/-- JOB_CANCEL (R123). -/
def execJobCancel (tag id : Byte) (s : State) :
    Host.Outcome State Fault Refusal :=
  request 0x11 tag [id] s

/-- JOB_SUSPEND (R119). -/
def execJobSuspend (tag id : Byte) (s : State) :
    Host.Outcome State Fault Refusal :=
  request 0x12 tag [id] s

/-- JOB_RESUME (R119). -/
def execJobResume (tag id : Byte) (s : State) :
    Host.Outcome State Fault Refusal :=
  request 0x13 tag [id] s

/-- MAP_PUBLISH (R135). -/
def execMapPublish (tag : Byte) (s : State) :
    Host.Outcome State Fault Refusal :=
  request 0x18 tag [] s

/-- MAP_EXCLUDE (R131). -/
def execMapExclude (tag head : Byte) (s : State) :
    Host.Outcome State Fault Refusal :=
  request 0x19 tag [head] s

/-- MAP_INCLUDE (R131). -/
def execMapInclude (tag head : Byte) (s : State) :
    Host.Outcome State Fault Refusal :=
  request 0x1A tag [head] s

/-- MAP_CLEAR (R133). -/
def execMapClear (tag selector head : Byte) (s : State) :
    Host.Outcome State Fault Refusal :=
  request 0x1B tag [selector, head] s

/-- SPIN_UP (R27). -/
def execSpinUp (tag : Byte) (s : State) :
    Host.Outcome State Fault Refusal :=
  request 0x20 tag [] s

/-- SPIN_DOWN (R28). -/
def execSpinDown (tag : Byte) (s : State) :
    Host.Outcome State Fault Refusal :=
  request 0x21 tag [] s

/-- HEADS_LOAD (R29). -/
def execHeadsLoad (tag : Byte) (s : State) :
    Host.Outcome State Fault Refusal :=
  request 0x22 tag [] s

/-- HEADS_UNLOAD (R40). -/
def execHeadsUnload (tag : Byte) (s : State) :
    Host.Outcome State Fault Refusal :=
  request 0x23 tag [] s

/-- SEEK (R32). -/
def execSeek (tag : Byte) (track : Quad) (offset : Half) (s : State) :
    Host.Outcome State Fault Refusal :=
  request 0x24 tag (seekPayload track offset) s

/-- PROFILE_WRITE (R177). -/
def execProfileWrite (tag : Byte) (payload : List Byte) (s : State) :
    Host.Outcome State Fault Refusal :=
  request 0x28 tag payload s

/-- PROFILE_SAVE (R179). -/
def execProfileSave (tag : Byte) (s : State) :
    Host.Outcome State Fault Refusal :=
  request 0x29 tag [] s

/-- REST_WRITE (R161). -/
def execRestWrite (tag : Byte) (presetA presetB : Quad) (table : List Byte) (s : State) :
    Host.Outcome State Fault Refusal :=
  request 0x2A tag (restPayload presetA presetB table) s

/-- EVENT_MASK_WRITE (R189). -/
def execEventMaskWrite (tag mask : Byte) (s : State) :
    Host.Outcome State Fault Refusal :=
  request 0x2B tag [mask] s

/-- LINES_WRITE (R168). -/
def execLinesWrite (tag group owner head mode level : Byte) (s : State) :
    Host.Outcome State Fault Refusal :=
  request 0x2C tag [group, owner, head, mode, level] s

/-- COUNTERS_CLEAR (R14). -/
def execCountersClear (tag selector head : Byte) (s : State) :
    Host.Outcome State Fault Refusal :=
  request 0x2D tag [selector, head] s

/-- BENCH_RESET (R192). -/
def execBenchReset (tag : Byte) (s : State) :
    Host.Outcome State Fault Refusal :=
  request 0x3F tag [] s

end Sys2Proof.Machine
end

