-- ==== Sys2Proof/Machine/Events.lean ====
section
/-! DEFINITION. The meanings of the commands that are no requests: resets, servo and spindle arrivals, heat, deadlines, gates,
timers, profile memory, and the serial line. -/

namespace Sys2Proof.Machine

/-! ## Deliveries -/

/-- The sector record of a slot that ended at tick `t` is delivered (R11): first the decoder's own share, then the Positioner,
the Window Collector, the Gate Counter Unit and, where it waits for the switch point and this anchor record is it (R91), the
Job Controller (log 15). -/
def State.deliver (s : State) (r : SectorRecord) (t : Nat) : State :=
  let s1 := s.endSlot r t
  let s2 := ((s1.servoRecord r).windowRecord r).gateRecord r t
  if s.awaitsSwitch ∧ r.head = s.prof.anchor ∧ s1.sdc.expect = some (s.prof.sectors - 1) then
    s2.tell (.switchPoint s.jct.attempt)
  else s2

/-- A slot ends with a mark at tick `t` (R2); with no slot running there is no slot to end. -/
def State.endWithMark (s : State) (sector : BitVec 10) (code : BitVec 18) (e o : BitVec 12) (t : Nat) : State :=
  match s.sdc.slotDue with
  | some _ =>
    let s1 := s.atTick t
    s1.deliver (formRecord s1 (markOf s1.prof.sectors sector code e o)) t
  | none => s

/-- A slot ends with a miss, one slot period after it began (R1). -/
def State.endWithMiss (s : State) : State :=
  match s.sdc.slotDue with
  | some d =>
    let s1 := s.atTick d
    s1.deliver (formRecord s1 none) d
  | none => s

/-- The tick `n` ticks after the latest index arrival, or after now where none is kept (log 3). -/
def State.afterIndex (s : State) (n : Nat) : Nat := s.pos.indexRef.getD s.now + n

/-- An index arrival at tick `t`, taken by the speed monitor, the Gate Counter Unit, the Window Collector and, in GATE_P
before the switch point, the Job Controller (R19, R55, R80, R81, R91; log 15). -/
def State.takeIndex (s : State) (t : Nat) : State :=
  let s1 := s.atTick t
  let s2 := ((s1.speedMonitor t).gateIndex t).windowIndex
  if s.awaitsSwitch then s2.tell (.switchLost s.jct.attempt) else s2

/-! ## Counts that expire (log 5) -/

/-- The Coil Heat Monitor's share of the tick that brings the pace count to PACE_TICKS in WARM with a seek held (R145 stage 4,
R150). -/
def State.paceRelease (s : State) : State :=
  if s.chm.level = .warm ∧ s.pos.held.isSome ∧ s.prof.paceTicks ≤ s.chm.pace + 1 then s.tickPace else s

/-- The Coil Heat Monitor's share of the tick that brings the HOT count to HOT_PARK_TICKS (R145 stage 5, R153). -/
def State.hotParkExpiry (s : State) : State :=
  if s.chm.level = .hot ∧ s.pos.act.isLoaded ∧ s.prof.hotParkTicks ≤ s.chm.hot + 1 then s.tickHot else s

/-- The Window Collector's share of the index arrival that brings the revolution count to its limit (R55). -/
def State.windowTimeout (s : State) : State :=
  match s.window with
  | some w => if w.limit ≤ w.revs + 1 then s.windowIndex else s
  | none => s

/-- Stage U of a COUNTING CHAINED gate would pass 65,535 (R81). DESIGN CHOICE (log 29): both stages are left at 65,535, the
last count they held, where R81 would have L return to 0 each time it passes 65,535. -/
def State.overflowU (s : State) : State :=
  if s.gcu.state = .counting ∧ s.gcu.mode = .chained then
    (s.atTick (s.gcu.start + 4294967296)).endGate .overrange none none none (some .u) 65535 65535
  else s

/-- Stage L of a COUNTING SPLIT gate would pass 65,535 (R83). -/
def State.overflowL (s : State) : State :=
  if s.gcu.state = .counting ∧ s.gcu.mode = .split then
    (s.atTick (s.gcu.start + 65536)).endGate .overrange none none none (some .l) 65535 s.gcu.stageU
  else s

/-- A heat tick at its tick; the next is 10 ms later (R145). -/
def State.heatTickArrives (s : State) : State :=
  let s1 := s.atTick s.chm.nextTick
  (s1.setChm { s1.chm with nextTick := s1.chm.nextTick + Config.heatTicks }).takeHeatTick

/-! ## The meanings -/

/-- POWER_ON_RESET (R175). -/
def execPowerOnReset (s : State) : Host.Outcome State Fault Refusal := arrival s.powerOn

/-- SLOT_END_MARK (R2). -/
def execSlotEndMark (sector : BitVec 10) (code : BitVec 18) (e o : BitVec 12) (ticks : Nat) (s : State) :
    Host.Outcome State Fault Refusal :=
  arrival (s.endWithMark sector code e o (s.afterIndex ticks))

/-- SLOT_END_MISS (R1). -/
def execSlotEndMiss (s : State) : Host.Outcome State Fault Refusal := arrival s.endWithMiss

/-- INDEX_ARRIVAL (R19). -/
def execIndexArrival (ticks : Nat) (s : State) : Host.Outcome State Fault Refusal :=
  arrival (s.takeIndex (match s.pos.indexRef with
    | some ref => ref + ticks
    | none => s.now))

/-- RAMP_SENSE_CHANGE (R39, R166). -/
def execRampSenseChange (level : Ramp) (s : State) : Host.Outcome State Fault Refusal := arrival (s.rampLine level)

/-- PREAMP_FAULT_CHANGE (R166, R167). -/
def execPreampFaultChange (level : PreampLine) (s : State) : Host.Outcome State Fault Refusal :=
  arrival (s.preampLine level)

/-- HEAT_TICK (R145). -/
def execHeatTick (s : State) : Host.Outcome State Fault Refusal := arrival s.heatTickArrives

/-- SEEK_PACE_RELEASE (R150). -/
def execSeekPaceRelease (s : State) : Host.Outcome State Fault Refusal := arrival s.paceRelease

/-- HOT_PARK_COUNT_EXPIRY (R153). -/
def execHotParkCountExpiry (s : State) : Host.Outcome State Fault Refusal := arrival s.hotParkExpiry

/-- SPINUP_MS_EXPIRY (R20). -/
def execSpinupMsExpiry (s : State) : Host.Outcome State Fault Refusal := arrival s.expireSpinup

/-- INDEX_SILENCE_EXPIRY (R21). -/
def execIndexSilenceExpiry (s : State) : Host.Outcome State Fault Refusal := arrival s.expireSilence

/-- BRAKING_QUIET_EXPIRY (R22). -/
def execBrakingQuietExpiry (s : State) : Host.Outcome State Fault Refusal := arrival s.expireQuiet

/-- LOAD_MS_EXPIRY (R30). -/
def execLoadMsExpiry (s : State) : Host.Outcome State Fault Refusal := arrival s.expireLoad

/-- ACQ_MS_EXPIRY (R37). -/
def execAcqMsExpiry (s : State) : Host.Outcome State Fault Refusal := arrival s.expireAcq

/-- SEEK_MS_EXPIRY (R34). -/
def execSeekMsExpiry (s : State) : Host.Outcome State Fault Refusal := arrival s.expireSeek

/-- SETTLE_MS_EXPIRY (R36). -/
def execSettleMsExpiry (s : State) : Host.Outcome State Fault Refusal := arrival s.expireSettle

/-- UNLOAD_MS_EXPIRY (R39). -/
def execUnloadMsExpiry (s : State) : Host.Outcome State Fault Refusal := arrival s.expireUnload

/-- WINDOW_TIMEOUT (R55). -/
def execWindowTimeout (s : State) : Host.Outcome State Fault Refusal := arrival s.windowTimeout

/-- GATE_U_OVERFLOW (R81). -/
def execGateUOverflow (s : State) : Host.Outcome State Fault Refusal := arrival s.overflowU

/-- GATE_L_OVERFLOW (R83). -/
def execGateLOverflow (s : State) : Host.Outcome State Fault Refusal := arrival s.overflowL

/-- REST_TIMER_EXPIRY (R159). -/
def execRestTimerExpiry (timer : RestTimer) (s : State) : Host.Outcome State Fault Refusal := arrival (s.expireTimer timer)

/-- SPINDLE_RECOVERY_EXPIRY (R121). -/
def execSpindleRecoveryExpiry (s : State) : Host.Outcome State Fault Refusal := arrival s.expireRecovery

/-- PROFILE_MEMORY_READ_DONE (R175). -/
def execProfileMemoryReadDone (answer : MemRead) (s : State) : Host.Outcome State Fault Refusal :=
  arrival (s.endRead answer)

/-- PROFILE_LOAD_LIMIT_EXPIRY (R175). -/
def execProfileLoadLimitExpiry (s : State) : Host.Outcome State Fault Refusal := arrival s.expireRead

/-- PROFILE_MEMORY_WRITE_DONE (R179). -/
def execProfileMemoryWriteDone (s : State) : Host.Outcome State Fault Refusal := arrival s.confirmWrite

/-- PROFILE_MEMORY_FAULT (R179). -/
def execProfileMemoryFault (s : State) : Host.Outcome State Fault Refusal := arrival s.reportFault

/-- SAVE_WRITE_LIMIT_EXPIRY (R179). -/
def execSaveWriteLimitExpiry (s : State) : Host.Outcome State Fault Refusal := arrival s.expireWrite

/-- BYTE_RECEIVED (R181). -/
def execByteReceived (byte : Byte) (s : State) : Host.Outcome State Fault Refusal := arrival (s.takeByte byte)

/-- GAP_LIMIT_EXPIRY (R181). -/
def execGapLimitExpiry (s : State) : Host.Outcome State Fault Refusal := arrival s.expireGap

/-- TRANSMIT_COMPLETE (R187). -/
def execTransmitComplete (s : State) : Host.Outcome State Fault Refusal := arrival s.transmitDone

/-- BENCH_RESET_EFFECT (R192). -/
def execBenchResetEffect (s : State) : Host.Outcome State Fault Refusal := arrival s.resetTakesEffect

end Sys2Proof.Machine
end

