-- ==== Sys2Proof/Machine/Dispatch.lean ====
section
/-! DEFINITION. One arm for each command: a direct call of its meaning. -/

namespace Sys2Proof.Machine

/-- The effect of a command on everything but the queue. -/
def exec (i : Instr) (s : State) : Host.Outcome State Fault Refusal :=
  match i with
  | .powerOnReset => Sys2Proof.Machine.execPowerOnReset s
  | .slotEndMark sector code e o ticks => Sys2Proof.Machine.execSlotEndMark sector code e o ticks s
  | .slotEndMiss => Sys2Proof.Machine.execSlotEndMiss s
  | .indexArrival ticks => Sys2Proof.Machine.execIndexArrival ticks s
  | .rampSenseChange level => Sys2Proof.Machine.execRampSenseChange level s
  | .preampFaultChange level => Sys2Proof.Machine.execPreampFaultChange level s
  | .heatTick => Sys2Proof.Machine.execHeatTick s
  | .seekPaceRelease => Sys2Proof.Machine.execSeekPaceRelease s
  | .hotParkCountExpiry => Sys2Proof.Machine.execHotParkCountExpiry s
  | .spinupMsExpiry => Sys2Proof.Machine.execSpinupMsExpiry s
  | .indexSilenceExpiry => Sys2Proof.Machine.execIndexSilenceExpiry s
  | .brakingQuietExpiry => Sys2Proof.Machine.execBrakingQuietExpiry s
  | .loadMsExpiry => Sys2Proof.Machine.execLoadMsExpiry s
  | .acqMsExpiry => Sys2Proof.Machine.execAcqMsExpiry s
  | .seekMsExpiry => Sys2Proof.Machine.execSeekMsExpiry s
  | .settleMsExpiry => Sys2Proof.Machine.execSettleMsExpiry s
  | .unloadMsExpiry => Sys2Proof.Machine.execUnloadMsExpiry s
  | .windowTimeout => Sys2Proof.Machine.execWindowTimeout s
  | .gateUOverflow => Sys2Proof.Machine.execGateUOverflow s
  | .gateLOverflow => Sys2Proof.Machine.execGateLOverflow s
  | .restTimerExpiry timer => Sys2Proof.Machine.execRestTimerExpiry timer s
  | .spindleRecoveryExpiry => Sys2Proof.Machine.execSpindleRecoveryExpiry s
  | .profileMemoryReadDone answer => Sys2Proof.Machine.execProfileMemoryReadDone answer s
  | .profileLoadLimitExpiry => Sys2Proof.Machine.execProfileLoadLimitExpiry s
  | .profileMemoryWriteDone => Sys2Proof.Machine.execProfileMemoryWriteDone s
  | .profileMemoryFault => Sys2Proof.Machine.execProfileMemoryFault s
  | .saveWriteLimitExpiry => Sys2Proof.Machine.execSaveWriteLimitExpiry s
  | .byteReceived byte => Sys2Proof.Machine.execByteReceived byte s
  | .gapLimitExpiry => Sys2Proof.Machine.execGapLimitExpiry s
  | .transmitComplete => Sys2Proof.Machine.execTransmitComplete s
  | .requestUnknownKind kind tag payload => Sys2Proof.Machine.execRequestUnknownKind kind tag payload s
  | .statusRead tag => Sys2Proof.Machine.execStatusRead tag s
  | .motionRead tag => Sys2Proof.Machine.execMotionRead tag s
  | .thermalRead tag => Sys2Proof.Machine.execThermalRead tag s
  | .linesRead tag => Sys2Proof.Machine.execLinesRead tag s
  | .linkRead tag clear => Sys2Proof.Machine.execLinkRead tag clear s
  | .countersRead tag => Sys2Proof.Machine.execCountersRead tag s
  | .profileRead tag => Sys2Proof.Machine.execProfileRead tag s
  | .jobList tag => Sys2Proof.Machine.execJobList tag s
  | .resultRead tag selector id => Sys2Proof.Machine.execResultRead tag selector id s
  | .mapRead tag copy form head zone => Sys2Proof.Machine.execMapRead tag copy form head zone s
  | .eventsRead tag => Sys2Proof.Machine.execEventsRead tag s
  | .jobSubmit tag kind heads zones options => Sys2Proof.Machine.execJobSubmit tag kind heads zones options s
  | .jobCancel tag id => Sys2Proof.Machine.execJobCancel tag id s
  | .jobSuspend tag id => Sys2Proof.Machine.execJobSuspend tag id s
  | .jobResume tag id => Sys2Proof.Machine.execJobResume tag id s
  | .mapPublish tag => Sys2Proof.Machine.execMapPublish tag s
  | .mapExclude tag head => Sys2Proof.Machine.execMapExclude tag head s
  | .mapInclude tag head => Sys2Proof.Machine.execMapInclude tag head s
  | .mapClear tag selector head => Sys2Proof.Machine.execMapClear tag selector head s
  | .spinUp tag => Sys2Proof.Machine.execSpinUp tag s
  | .spinDown tag => Sys2Proof.Machine.execSpinDown tag s
  | .headsLoad tag => Sys2Proof.Machine.execHeadsLoad tag s
  | .headsUnload tag => Sys2Proof.Machine.execHeadsUnload tag s
  | .seek tag track offset => Sys2Proof.Machine.execSeek tag track offset s
  | .profileWrite tag payload => Sys2Proof.Machine.execProfileWrite tag payload s
  | .profileSave tag => Sys2Proof.Machine.execProfileSave tag s
  | .restWrite tag presetA presetB table => Sys2Proof.Machine.execRestWrite tag presetA presetB table s
  | .eventMaskWrite tag mask => Sys2Proof.Machine.execEventMaskWrite tag mask s
  | .linesWrite tag group owner head mode level => Sys2Proof.Machine.execLinesWrite tag group owner head mode level s
  | .countersClear tag selector head => Sys2Proof.Machine.execCountersClear tag selector head s
  | .benchReset tag => Sys2Proof.Machine.execBenchReset tag s
  | .benchResetEffect => Sys2Proof.Machine.execBenchResetEffect s

end Sys2Proof.Machine
end

