-- ==== Sys2Proof/Machine/Step.lean ====
section
/-! DEFINITION. The step: the command at the front of the queue is taken, or the block idles for one tick of its timebase
(log 1, log 2). -/

namespace Sys2Proof.Machine

/-- One step of the part. With an empty queue nothing arrives: one tick of the 200 MHz timebase passes (log 2). -/
def step (s : State) : Host.Outcome State Fault Refusal :=
  match s.pending with
  | [] => .next (s.setNow (s.now + 1))
  | c :: cs => exec c (s.setPending cs)

/-- The state with the command that a word spells at the front of its queue; no row of the table gives bits, so no word
spells a command and the state is unchanged (log 1). -/
def State.withFetchWord (s : State) (nbits w : Nat) : State :=
  match decodeTableWord nbits w with
  | some c => s.setPending (c :: s.pending)
  | none => s

end Sys2Proof.Machine
end

