-- ==== Sys2Proof/Safety.lean ====
section
/-! DEFINITION. The terms in which the statements speak: when the bench link can take a request at once, when the Job
Controller has nothing to do, what an arrival's motion, windows, gates and jobs leave as it is, and the laws that every
command keeps. -/

namespace Sys2Proof.Machine

/-! ## Conditions on the state before a command -/

/-- The bench link can take a request at once (R184, R187): the start-up load has ended, the receive buffer is empty, no record
waits or is in transmission, and no report is under way inside the part. -/
structure State.LinkReady (s : State) : Prop where
  started : s.pst.state ≠ .starting
  buffer : s.blk.buffer = []
  waiting : s.blk.waiting = []
  sending : s.blk.sending = none
  inbox : s.inbox = []

/-- No job is RUNNING, and no report to the Job Controller is under way. -/
structure State.NoneRuns (s : State) : Prop where
  running : s.running = none
  inbox : s.inbox = []

/-- No job is unfinished, and no report to the Job Controller is under way. -/
structure State.NoJobs (s : State) : Prop where
  table : s.jct.table = []
  inbox : s.inbox = []

/-! ## Replies and notices as they leave -/

/-- The state with a reply to `tag` in transmission, begun at once (R187, R194). -/
def State.replies (s : State) (f : Frame) : State :=
  s.setBlk
    { s.blk with
      sending := some { frame := f, isReply := true, reset := false, due := s.now + 1000 * (5 + f.payload.length) } }

/-- The state with an ACK in transmission (R194: KIND 0x80). -/
def State.acks (s : State) (tag : Byte) (payload : List Byte) : State :=
  s.replies { kind := 0x80, tag := tag, payload := payload }

/-- The state with a REFUSE in transmission (R194: KIND 0x81, the code and the detail byte). -/
def State.refuses (s : State) (tag : Byte) (code : RefuseCode) (detail : Nat) : State :=
  s.replies { kind := 0x81, tag := tag, payload := [byteOf code.code, byteOf detail] }

/-! ## What motion, windows, gates and jobs leave as it is -/

/-- Everything that the work of the Positioner, the Window Collector, the Gate Counter Unit and the Job Controller inside one
arrival leaves as it is in `t`, from the state `s` in which that work began: the clock, the Coil Heat Monitor, the Profile
Store, the measured revolution, the per-head counters, the fixture lines but for the engine selection, the published copy and
its generation, the rest source table, and the receive side of the Bench Link; and every event pending stays pending. -/
structure MotionFrame (s t : State) : Prop where
  now : t.now = s.now
  chm : t.chm = s.chm
  pst : t.pst = s.pst
  free : t.free = s.free
  pending : t.pending = s.pending
  period : t.pos.period = s.pos.period
  indexRef : t.pos.indexRef = s.pos.indexRef
  counts : t.sdc.counters = s.sdc.counters
  flc : t.flc = { s.flc with engineHead := t.flc.engineHead }
  published : t.hmp.published = s.hmp.published
  gen : t.hmp.gen = s.hmp.gen
  table : t.rtm.table = s.rtm.table
  asm : t.blk.asm = s.blk.asm
  buffer : t.blk.buffer = s.blk.buffer
  counters : t.blk.counters = s.blk.counters
  lastFault : t.blk.lastFault = s.blk.lastFault
  mask : t.blk.mask = s.blk.mask
  raised : ∀ k, s.blk.events.has k = true → t.blk.events.has k = true

/-! ## A slot of the anchor, and the records the Positioner takes -/

/-- A slot of the anchor head in a quiet part: a slot runs, no job is unfinished, no window is open, the gate is IDLE, the
recovery marker is clear, the anchor is driven, and a rest timer runs, so that no rest is demanded. -/
structure QuietSlot (s : State) : Prop where
  slot : s.sdc.slotDue.isSome = true
  jobs : s.NoJobs
  window : s.window = none
  gate : s.gcu.state = .idle
  marker : s.sdc.marker = false
  head : s.drivenHead = s.prof.anchor
  timer : s.rtm.a.isRunning = true ∨ s.rtm.b.isRunning = true

/-- The fields of a mark make a record of class GOOD with the mark `m` (R2, R3, R4). -/
structure GoodMark (s : State) (sector : BitVec 10) (code : BitVec 18) (e o : BitVec 12) (m : Mark) : Prop where
  mark : markOf s.prof.sectors sector code e o = some m
  track : m.track ≤ s.prof.trackMax
  amplitude : s.prof.ampFloor ≤ m.e + m.o

/-- What a slot of the anchor in a quiet part leaves as it is; the clock stands at tick `n` or later. -/
structure ServoFrame (s : State) (n : Nat) (t : State) : Prop where
  now : t.now = max s.now n
  spindle : t.pos.spindle = s.pos.spindle ∧ t.pos.period = s.pos.period ∧ t.pos.indexRef = s.pos.indexRef
  idle : t.window = none ∧ t.gcu = s.gcu ∧ t.jct = s.jct ∧ t.hmp = s.hmp
  others : t.rtm = s.rtm ∧ t.flc = s.flc ∧ t.pst = s.pst
  receive : t.blk.asm = s.blk.asm ∧ t.blk.buffer = s.blk.buffer ∧ t.blk.counters = s.blk.counters

/-! ## Requests taken by the Positioner -/

/-- A manual motion request has been taken (R26): its ACK is in transmission with the spindle and actuator states as they stand
afterwards and the two indications, its source has reloaded its rest timer (R158), and the blocks but for the Positioner and
the selected head are as motion leaves them. -/
structure MotionTaken (s : State) (tag : Byte) (deferred clamped : Bool) (t : State) : Prop where
  frame : MotionFrame s t
  timers : t.rtm = (s.reload .motionReq).rtm
  others : t.jct = s.jct ∧ t.hmp = s.hmp ∧ t.gcu = s.gcu
  reply : t.blk.sending = some
    { frame :=
        { kind := 0x80, tag := tag
          payload := [byteOf t.pos.spindle.code, byteOf t.pos.act.code,
            byteOf ((if deferred then 1 else 0) + if clamped then 2 else 0)] }
      isReply := true, reset := false, due := s.now + 8000 }

/-- The last bench-move outcome after the move `m`, if any, ended with outcome `o`: a move owned by BENCH replaces it
(R25). -/
def benchOutcome (before : Option (MoveKind × MoveOutcome)) (m : Option Move) (o : MoveOutcome) :
    Option (MoveKind × MoveOutcome) :=
  match m with
  | some x => if x.owner = .bench then some (x.kind, o) else before
  | none => before

/-! ## Jobs and the head map -/

/-- The finished list after the record `x` joins its end, the oldest of 8 dropped (R103, step 3). -/
def withFinished (xs : List Finished) (x : Finished) : List Finished :=
  (if 8 ≤ xs.length then xs.drop (xs.length - 7) else xs) ++ [x]

/-- The event JOB_END is cleared when no finished record is unread (R104). -/
def State.lookedAt (s : State) : State := if ∀ f ∈ s.jct.finished, f.read = true then s.clearEvent .jobEnd else s

/-- A span entry that is OK or REFERENCE carries D and g (R71, R72). -/
def SpanEntry (z : ZoneSlots) (d g : Int) : Prop :=
  (∃ f job, z.span = some { result := .ok f, job := job } ∧ d = f.d ∧ g = f.g) ∨
    ∃ job, z.span = some { result := .reference, job := job } ∧ d = 0 ∧ g = 256

/-- A skew entry that is OK or REFERENCE carries a skew (R96, R97). -/
def SkewEntry (z : ZoneSlots) (k : Int) : Prop :=
  (∃ f job, z.skew = some { result := .ok f, job := job } ∧ k = f.skew) ∨
    ∃ job, z.skew = some { result := .reference, job := job } ∧ k = 0

/-- A head passes the publish checks, or is excluded and passed over (R134, R135). -/
def HeadPasses (p : Profile) (r : HeadRecord) : Prop :=
  r.excluded = true ∨
    (r.derived = .qualified ∧
      ∀ (zone : Nat) (z : ZoneSlots), r.zones[zone]? = some z →
        ∃ d g k, SpanEntry z d g ∧ (p.gainMinQ8 : Int) ≤ g ∧ g ≤ p.gainMaxQ8 ∧ SkewEntry z k ∧
          ∀ below, 1 ≤ zone → r.zones[zone - 1]? = some below →
            ∃ d' g' k', SpanEntry below d' g' ∧ SkewEntry below k' ∧ (d - d').natAbs ≤ p.zoneStepMax ∧
              (k - k').natAbs ≤ p.skewStepMax)

/-- Publish check `check`, 2 to 4, passes at zone `zone` of a head (R134). -/
def ZonePasses (p : Profile) (r : HeadRecord) (zone check : Nat) : Prop :=
  ∀ z, r.zones[zone]? = some z →
    (check = 2 → ∃ d g, SpanEntry z d g ∧ (p.gainMinQ8 : Int) ≤ g ∧ g ≤ p.gainMaxQ8) ∧
    (check = 3 → ∃ k, SkewEntry z k) ∧
    (check = 4 → ∀ below, 1 ≤ zone → r.zones[zone - 1]? = some below →
      ∃ d g k d' g' k', SpanEntry z d g ∧ SkewEntry z k ∧ SpanEntry below d' g' ∧ SkewEntry below k' ∧
        (d - d').natAbs ≤ p.zoneStepMax ∧ (k - k').natAbs ≤ p.skewStepMax)

/-- The first check of the walk of R135 that fails at a head is `check`, at `zone`: check 1 with zone 255, or one of checks 2 to
4 at a zone where it fails, every check at a lower zone and every earlier check at that zone passing. -/
def FirstFailure (p : Profile) (r : HeadRecord) (zone check : Nat) : Prop :=
  if r.derived = .qualified then
    2 ≤ check ∧ check ≤ 4 ∧ zone < r.zones.length ∧ ¬ZonePasses p r zone check ∧
      ∀ z c, 2 ≤ c → c ≤ 4 → z < zone ∨ (z = zone ∧ c < check) → ZonePasses p r z c
  else check = 1 ∧ zone = 255

/-- The record that an accepted JOB_SUBMIT makes of its payload (R99, R101, R102): QUEUED, with the first id counting upward
from the next-id counter that no record holds, the head numbers in the order of first appearance, the zone numbers ascending,
the first appearance of each option clamped, and the indications of what was dropped or clamped. -/
structure Submitted (s : State) (kind : Byte) (heads zones : List Byte) (options : List (Byte × Half)) (j : Job) : Prop where
  id : ∃ k, k < 255 ∧ j.id = (s.jct.nextId - 1 + k) % 255 + 1 ∧
    (∀ x ∈ s.jct.table, x.id ≠ j.id) ∧ (∀ x ∈ s.jct.finished, x.id ≠ j.id) ∧
    ∀ i, i < k → (∃ x ∈ s.jct.table, x.id = (s.jct.nextId - 1 + i) % 255 + 1) ∨
      ∃ x ∈ s.jct.finished, x.id = (s.jct.nextId - 1 + i) % 255 + 1
  fresh : j.kind.code = kind.toNat ∧ j.state = .queued ∧ j.reasons = {} ∧ j.cursor = none ∧ j.figures = none ∧
    j.counts = {} ∧ j.first = none
  headList : (∀ n, n ∈ j.heads ↔ n ∈ heads.map BitVec.toNat) ∧
    (j.heads.map fun n => (heads.map BitVec.toNat).idxOf n).Pairwise (· < ·)
  zoneList : (∀ n, n ∈ j.zones ↔ n ∈ zones.map BitVec.toNat) ∧ j.zones.Pairwise (· < ·)
  duplicates : j.flags.duplicates = false ↔ heads.Nodup ∧ zones.Nodup ∧ (options.map (·.1)).Nodup
  window : j.options.window = ((options.find? fun x => x.1 == 0).map fun x => max 16 (min 512 x.2.toNat)) ∧
    j.flags.window = (options.find? fun x => x.1 == 0).any fun x => decide (x.2.toNat < 16 ∨ 512 < x.2.toNat)
  jog : j.options.jog = ((options.find? fun x => x.1 == 1).map fun x => max 256 (min 4096 x.2.toNat)) ∧
    j.flags.jog = (options.find? fun x => x.1 == 1).any fun x => decide (x.2.toNat < 256 ∨ 4096 < x.2.toNat)
  centre : j.options.centre = ((options.find? fun x => x.1 == 2).map fun x => max (-4096) (min 4096 x.2.toInt)) ∧
    j.flags.centre = (options.find? fun x => x.1 == 2).any fun x => decide (x.2.toInt < -4096 ∨ 4096 < x.2.toInt)
  skewRevs : j.options.skewRevs = ((options.find? fun x => x.1 == 3).map fun x => max 1 (min 16 x.2.toNat)) ∧
    j.flags.skewRevs = (options.find? fun x => x.1 == 3).any fun x => decide (x.2.toNat < 1 ∨ 16 < x.2.toNat)

/-- The ACK of a JOB_SUBMIT (R101, R194): the id and the five indications. -/
def submitAck (j : Job) : List Byte :=
  [byteOf j.id,
    byteOf ((if j.flags.duplicates then 1 else 0) + (if j.flags.window then 2 else 0) + (if j.flags.jog then 4 else 0) +
      (if j.flags.centre then 8 else 0) + (if j.flags.skewRevs then 16 else 0))]

/-- The figures of a job that becomes RUNNING (R65, R99): the option or, where absent, the profile's field; for SPAN and SKEW J
reduced to 8,191 less the magnitude of the centre where the two together pass 8,191 (log 19). -/
structure FiguresOf (p : Profile) (j : Job) (f : Figures) : Prop where
  w : f.w = j.options.window.getD p.window
  centre : f.centre = j.options.centre.getD p.jogCentre
  jog : f.jog =
    if j.kind ≠ .qualify ∧ 8191 < f.centre.natAbs + j.options.jog.getD p.jog then 8191 - f.centre.natAbs
    else j.options.jog.getD p.jog
  points : f.o1 = f.centre + f.jog ∧ f.o2 = f.centre - f.jog
  r : f.r = j.options.skewRevs.getD p.skewRevs

/-! ## Measurements of a RUNNING job -/

/-- A head-zone is under way in phase `p` (R98, R107): the RUNNING job `j` with its cursor `c` at head `head` and zone `zone`,
its figures resolved to `f`, the spindle AT_SPEED with no spin-down pending, and no report under way. -/
structure MeasureUnderWay (s : State) (j : Job) (c : Cursor) (f : Figures) (head zone : Nat) (p : Phase) : Prop where
  inbox : s.inbox = []
  running : s.running = some j
  cursor : j.cursor = some c
  phase : c.phase = p
  figures : j.figures = some f
  atHead : j.heads[c.head]? = some head
  atZone : j.zones[c.zone]? = some zone
  spindle : s.pos.spindle = .atSpeed ∧ s.pos.spinDownPending = false

/-- The job `j` is the only one, and head `head` and zone `zone` are its only head-zone, in a zone without an anchor failure. -/
structure OnlyHeadZone (s : State) (j : Job) (head zone : Nat) : Prop where
  table : s.jct.table = [j]
  heads : j.heads = [head]
  zones : j.zones = [zone]
  sound : s.jct.zoneFailed = false

/-- A slot of the anchor head ends outside a window and a gate, the recovery marker clear. -/
structure AnchorSlot (s : State) : Prop where
  slot : s.sdc.slotDue.isSome = true
  window : s.window = none
  gate : s.gcu.state = .idle
  marker : s.sdc.marker = false
  head : s.drivenHead = s.prof.anchor

/-- A head-zone's slots with the entry `r` of job `job` in the place of the entry of its kind (R117). -/
def withEntry (z : ZoneSlots) (job : Nat) : Result → ZoneSlots
  | .qualify q => { z with qualify := some { result := q, job := job } }
  | .span x => { z with span := some { result := x, job := job } }
  | .skew x => { z with skew := some { result := x, job := job } }

/-- The summary counts after an entry (R117): fault for FAIL and FAULT, reference for REFERENCE, ok for PASS and OK. -/
def countsWith (n : Counts) : Result → Counts
  | .qualify (.fail _ _) | .span (.fault _) | .skew (.fault _) => { n with fault := n.fault + 1 }
  | .span .reference | .skew .reference => { n with reference := n.reference + 1 }
  | .qualify (.pass _) | .span (.ok _) | .skew (.ok _) => { n with ok := n.ok + 1 }

/-- The first fault after an entry at a head-zone (R117): that entry's when the fault count was 0. -/
def firstWith (j : Job) (head zone : Nat) : Result → Option FirstFault
  | .qualify (.fail why _) | .span (.fault why) | .skew (.fault why) =>
    if j.counts.fault = 0 then some { head := head, zone := zone, reason := why } else j.first
  | .span .reference | .skew .reference | .qualify (.pass _) | .span (.ok _) | .skew (.ok _) => j.first

/-- The entry that a failure or a decision with reason `why` gives a head-zone, with no figures (R111, R116): FAIL for QUALIFY,
FAULT for SPAN and SKEW. -/
def entryOf (k : JobKind) (why : Reason) : Result :=
  match k with
  | .qualify => .qualify (.fail why { amp := none, weak := none, miss := none })
  | .span => .span (.fault why)
  | .skew => .skew (.fault why)

/-- The job `j` has finished with the head-zone's entry `r`, its last (R103, R117): the entry captured, the map unpublished, the
record in the finished list with the counts and first fault that the entry leaves, JOB_END pending. -/
structure FinishedWith (s : State) (j : Job) (head zone : Nat) (r : Result) (final : FinalState) (reason : Option FailReason)
    (t : State) : Prop where
  table : t.jct.table = []
  working : t.hmp.working = s.hmp.working.modify head fun x =>
    { x with zones := x.zones.modify zone fun z => withEntry z j.id r }
  map : t.hmp.unpub = true ∧ t.hmp.published = s.hmp.published ∧ t.hmp.gen = s.hmp.gen
  record : t.jct.finished = withFinished s.jct.finished
    { id := j.id, kind := j.kind, final := final, reason := reason, counts := countsWith j.counts r
      first := firstWith j head zone r, flags := j.flags, read := false }
  event : t.blk.events.jobEnd = true

/-- The final state of a job whose last entry leaves the counts `n` and that has not failed (R103): DONE without a fault,
DONE_PARTIAL with one. -/
def finalOf (n : Counts) : FinalState := if n.fault = 0 then .done else .donePartial

/-- The head-zone has ended with the entry `r`, being the only one of the only job (R107, R117). -/
def EndedWith (s : State) (j : Job) (head zone : Nat) (r : Result) (t : State) : Prop :=
  FinishedWith s j head zone r (finalOf (countsWith j.counts r)) none t

/-- The head-zone has started again with one more retry used and a new attempt, nothing captured (R111, R116). -/
structure RetriedFrom (s : State) (j : Job) (c : Cursor) (t : State) : Prop where
  cursor : ∃ c', t.running = some { j with cursor := some c' } ∧ c'.zone = c.zone ∧ c'.head = c.head ∧
    c'.retries = c.retries + 1
  attempt : t.jct.attempt = s.jct.attempt + 1
  kept : t.hmp = s.hmp ∧ t.jct.finished = s.jct.finished

/-- A head-zone failure with reason `why` has been taken (R116): a retry, or with the retries spent the entry. -/
structure HeadFailed (s : State) (j : Job) (c : Cursor) (head zone : Nat) (why : Reason) (t : State) : Prop where
  retried : c.retries < s.prof.retries → RetriedFrom s j c t
  spent : s.prof.retries ≤ c.retries → OnlyHeadZone s j head zone → EndedWith s j head zone (entryOf j.kind why) t

/-- A zone-seek failure has been taken (R111): a retry, or with the retries spent the entry with reason ANCHOR, and the job
FAILED when it is the second zone in a row. -/
structure ZoneSeekFailed (s : State) (j : Job) (c : Cursor) (head zone : Nat) (t : State) : Prop where
  retried : c.retries < s.prof.retries → RetriedFrom s j c t
  spent : s.prof.retries ≤ c.retries → OnlyHeadZone s j head zone →
    (c.failedZones = 0 → EndedWith s j head zone (entryOf j.kind .anchor) t) ∧
    (1 ≤ c.failedZones → FinishedWith s j head zone (entryOf j.kind .anchor) .failed (some .anchor) t)

/-- The RUNNING job is in phase `p` of the same head-zone and attempt and awaits the outcome `a`; nothing has been captured. -/
structure PhaseReached (s : State) (j : Job) (c : Cursor) (p : Phase) (failedZones : Nat) (a : Await) (t : State) : Prop where
  running : t.running = some { j with cursor := some { c with phase := p, failedZones := failedZones } }
  await : t.jct.ctx.await = some a ∧ t.jct.attempt = s.jct.attempt
  kept : t.hmp = s.hmp ∧ t.jct.finished = s.jct.finished

/-- A window of the attempt in flight has been opened at the target in FOLLOWING (R45, R112, R113): of the kind, head and size
ordered, anchor-only for the anchor, all counts 0. -/
def WindowOpened (s : State) (kind : WindowKind) (head size : Nat) (t : State) : Prop :=
  t.pos.act = .following ∧ t.window = some
    { probing := false, kind := kind, head := head, anchorOnly := head == s.prof.anchor, size := size, follow := s.prof.follow
      visit := s.prof.visit, limit := s.prof.windowRevs, track := t.pos.target, offset := t.pos.offset, pos := 0, revs := 0
      used := 0, weak := 0, miss := 0, wild := 0, sumV := 0, sumAmp := 0, attempt := s.jct.attempt }

/-- A jog of the attempt in flight to the offset `x` is under way (R35, R113): SETTLING the same track, SETTLE_MS running. -/
def JogUnderWay (s : State) (x : Int) (t : State) : Prop :=
  t.pos.act = .settling ∧ t.pos.target = s.pos.target ∧ t.pos.offset = x ∧
    t.pos.deadline = some { kind := .settle, due := t.now + s.prof.settleMs * 200000 } ∧
    t.pos.actMove = some { kind := .jog, owner := .job s.jct.attempt } ∧ t.window = none

/-- The zone is reached and the head-zone is in the first phase of its kind (R110, R112 to R114), the count of consecutive
anchor-failed zones 0: QUALIFY with its window, SPAN on its jog to o1 or with its first window, SKEW with the period gate. -/
structure ZoneReached (s : State) (j : Job) (c : Cursor) (f : Figures) (head : Nat) (t : State) : Prop where
  qualify : j.kind = .qualify → PhaseReached s j c .collect 0 .window t ∧ WindowOpened s .qualify head f.w t
  jog : j.kind = .span → s.pos.offset ≠ f.o1 → PhaseReached s j c .jog1 0 .jog t ∧ JogUnderWay s f.o1 t
  span : j.kind = .span → s.pos.offset = f.o1 → PhaseReached s j c .collect1 0 .window t ∧ WindowOpened s .span head f.w t
  skew : j.kind = .skew → PhaseReached s j c .period 0 .gate t ∧ t.pos.act = .following ∧ t.jct.ctx.tally = {} ∧
    t.gcu.state = .armed ∧ t.gcu.mode = .chained ∧ t.gcu.head = none ∧ t.gcu.attempt = s.jct.attempt

/-- The job `j`, the only one, has finished FAILED with a job fail reason (R103): its record in the finished list, its context
empty, JOB_END pending, the captured entries kept. -/
structure JobFailed (s : State) (j : Job) (why : FailReason) (t : State) : Prop where
  table : t.jct.table = [] ∧ t.jct.recoverDue = none ∧ t.jct.ctx = {} ∧ t.window = none
  record : t.jct.finished = withFinished s.jct.finished
    { id := j.id, kind := j.kind, final := .failed, reason := some why, counts := j.counts, first := j.first
      flags := j.flags, read := false }
  map : t.hmp = s.hmp
  event : t.blk.events.jobEnd = true

/-! ## Skew measurements -/

/-- A skew measurement is under way in phase `p` at head `head` and zone `zone` (R88 to R93): the RUNNING SKEW job `j`, with its
cursor `c` there, the spindle AT_SPEED, the actuator FOLLOWING the zone's track, and no report under way. -/
structure SkewUnderWay (s : State) (j : Job) (c : Cursor) (f : Figures) (head zone : Nat) (p : Phase) : Prop where
  inbox : s.inbox = []
  running : s.running = some j
  kind : j.kind = .skew
  cursor : j.cursor = some c
  phase : c.phase = p
  figures : j.figures = some f
  atHead : j.heads[c.head]? = some head
  atZone : j.zones[c.zone]? = some zone
  spindle : s.pos.spindle = .atSpeed ∧ s.pos.spinDownPending = false
  actuator : s.pos.act = .following ∧ s.pos.target = s.prof.zoneTracks.getD zone 0
  window : s.window = none

/-- The Job Controller awaits the gate's ending of the attempt in flight (R115). -/
def State.awaitsGate (s : State) : Prop := s.jct.ctx.await = some .gate ∧ s.gcu.attempt = s.jct.attempt

/-- The RUNNING SKEW job goes on in `t` at phase `p` with the tally `y`: the actuator still FOLLOWS the zone's track with the
spindle AT_SPEED, and nothing has been captured. -/
structure SkewGoesOn (s : State) (j : Job) (c : Cursor) (p : Phase) (y : Tally) (t : State) : Prop where
  running : t.running = some { j with cursor := some { c with phase := p } }
  tally : t.jct.ctx.tally = y
  motion : t.pos.act = .following ∧ t.pos.target = s.pos.target ∧ t.pos.offset = s.pos.offset ∧ t.pos.spindle = .atSpeed
  kept : t.hmp = s.hmp ∧ t.chm = s.chm ∧ t.window = none ∧ t.jct.finished = s.jct.finished

/-- A gate armed in SPLIT mode with the gate head `head`, its stages those of the last ending (R79). -/
def Gcu.armedSplit (g : Gcu) (head : Nat) : Prop := g.state = .armed ∧ g.mode = .split ∧ g.head = some head

/-- A skew measurement has ended with failure OVERRANGE (R94), weighed against the retries of the head-zone (R116): with one
left the head-zone has come through PREPARE to a new CHAINED gate of a new attempt; with none left, at the only head-zone of
the only job, the entry FAULT OVERRANGE is captured and the job finished. -/
structure OverrangeTaken (s : State) (j : Job) (c : Cursor) (head zone : Nat) (t : State) : Prop where
  tally : t.jct.ctx.tally = {} ∧ t.jct.ctx.probe = false
  kept : t.chm = s.chm ∧ t.pst = s.pst ∧ t.hmp.published = s.hmp.published ∧ t.sdc.counters = s.sdc.counters
  retried : c.retries < s.prof.retries →
    t.running = some { j with cursor := some { c with retries := c.retries + 1, phase := .period, failedZones := 0 } } ∧
    t.gcu.state = .armed ∧ t.gcu.mode = .chained ∧ t.gcu.head = none ∧ t.awaitsGate ∧ t.pos = s.pos ∧ t.hmp = s.hmp ∧
    t.window = none ∧ t.jct.finished = s.jct.finished
  spent : s.prof.retries ≤ c.retries → s.jct.table = [j] → j.heads = [head] → j.zones = [zone] → s.jct.zoneFailed = false →
    t.gcu.state = .idle ∧ t.window = none ∧ t.jct.table = [] ∧ t.blk.events.jobEnd = true ∧ t.hmp.unpub = true ∧
    t.hmp.working = s.hmp.working.modify head (fun x => { x with zones := x.zones.modify zone fun y =>
      { y with skew := some { result := .fault .overrange, job := j.id } } }) ∧
    t.jct.finished = withFinished s.jct.finished
      { id := j.id, kind := .skew, final := .donePartial, reason := none
        counts := { j.counts with fault := j.counts.fault + 1 }
        first := if j.counts.fault = 0 then some { head := head, zone := zone, reason := .overrange } else j.first
        flags := j.flags, read := false }

/-- The R pairs are done with the tally `y` (R94): where either head has fewer good gates than ceil(R/2) the failure SKEW_MISS,
with a retry from PREPARE to a new CHAINED gate, or with the retries spent the entry; otherwise the computation's entry. -/
structure PairsDone (s : State) (j : Job) (c : Cursor) (f : Figures) (head zone : Nat) (y : Tally) (t : State) : Prop where
  tally : t.jct.ctx.tally = {} ∧ t.jct.ctx.probe = false
  kept : t.chm = s.chm ∧ t.pst = s.pst ∧ t.hmp.published = s.hmp.published
  missed : y.ra < (f.r + 1) / 2 ∨ y.rh < (f.r + 1) / 2 → HeadFailed s j c head zone .skewMiss t
  again : y.ra < (f.r + 1) / 2 ∨ y.rh < (f.r + 1) / 2 → c.retries < s.prof.retries →
    t.runningPhase = some .period ∧ t.gcu.state = .armed ∧ t.gcu.mode = .chained ∧ t.gcu.head = none ∧ t.awaitsGate
  computed : (f.r + 1) / 2 ≤ y.ra → (f.r + 1) / 2 ≤ y.rh → OnlyHeadZone s j head zone →
    EndedWith s j head zone
      (.skew (skewComputation s.prof.sectors (y.nRev.getD 0) y.ra y.rh y.sumA y.sumH)) t

/-! ## Start-up -/

/-- A start-up that ended DEFAULTED with the given cause (R175): the built-in default profile, both indications set, the map
in the default's shape, its anchor the engine selection, PROFILE pending; every other block as it was. -/
structure Defaulted (s : State) (cause : StartupRecord) (t : State) : Prop where
  store : t.pst.state = .ready ∧ t.pst.profile = {} ∧ t.pst.source = .defaulted ∧ t.pst.defaulted = true ∧
    t.pst.unsaved = true ∧ t.pst.startup = cause ∧ t.pst.loadDue = none
  map : t.hmp.working = emptyMap 4 16 ∧ t.hmp.published = emptyMap 4 16 ∧ t.hmp.gen = s.hmp.gen
  anchor : t.flc = { s.flc with engineHead := 0 }
  event : t.blk.events.profile = true
  kept : t.pos = s.pos ∧ t.chm = s.chm ∧ t.jct = s.jct ∧ t.rtm = s.rtm ∧ t.gcu = s.gcu ∧ t.window = s.window

/-! ## Profile payloads (R172, R173, R194) -/

/-- The two bytes at offset `k` of a payload as a number, little-endian. -/
def u16At (b : List Byte) (k : Nat) : Nat := (b.getD k 0).toNat + 256 * (b.getD (k + 1) 0).toNat

/-- The four bytes at offset `k` of a payload as a number, little-endian. -/
def u32At (b : List Byte) (k : Nat) : Nat := u16At b k + 65536 * u16At b (k + 2)

/-- Field `i` of a profile payload (R194): 2 bytes each, but 4 for TRACK_MAX at offset 8 and N_REV_NOM at offset 12; JOG_CENTRE,
field 13, is signed. -/
def payloadField (b : List Byte) (i : Nat) : Int :=
  if i < 4 then u16At b (2 * i)
  else if i = 4 then u32At b 8
  else if i = 5 then u32At b 12
  else if i = 13 then if u16At b 30 < 32768 then u16At b 30 else (u16At b 30 : Int) - 65536
  else u16At b (16 + 2 * (i - 6))

/-- Zone `z`'s representative track in a profile payload (R194). -/
def payloadTrack (b : List Byte) (z : Nat) : Nat := u32At b (96 + 4 * z)

/-- Field `i` of a profile payload lies within its range (R172). -/
def FieldInRange (b : List Byte) (i : Nat) : Prop :=
  ∀ r, fieldRanges[i]? = some r → r.1 ≤ payloadField b i ∧ payloadField b i ≤ r.2

/-- Constraint `k` of R173, 1 to 5, holds of a profile payload: ANCHOR below HEAD_COUNT; N_REV_NOM at most 21,000 x S; WARM_OFF
below WARM_ON; WARM_ON at most HOT_OFF; HOT_OFF below HOT_ON. -/
def CrossHolds (b : List Byte) (k : Nat) : Prop :=
  (k = 1 → payloadField b 2 < payloadField b 0) ∧ (k = 2 → payloadField b 5 ≤ 21000 * payloadField b 3) ∧
    (k = 3 → payloadField b 35 < payloadField b 36) ∧ (k = 4 → payloadField b 36 ≤ payloadField b 37) ∧
    (k = 5 → payloadField b 37 < payloadField b 38)

/-- Zone `z` of a profile payload meets constraint 6 of R173: within TRACK_MAX, and above the zone below. -/
def TrackFits (b : List Byte) (z : Nat) : Prop :=
  (payloadTrack b z : Int) ≤ payloadField b 4 ∧ (1 ≤ z → payloadTrack b (z - 1) < payloadTrack b z)

/-! ## The bench serial line -/

/-- The frame that a request command is (log 6): KIND, TAG and payload by R186 and R194; the other commands are none. -/
def requestFrame : Instr → Option Frame
  | .powerOnReset => none
  | .slotEndMark _ _ _ _ _ => none
  | .slotEndMiss => none
  | .indexArrival _ => none
  | .rampSenseChange _ => none
  | .preampFaultChange _ => none
  | .heatTick => none
  | .seekPaceRelease => none
  | .hotParkCountExpiry => none
  | .spinupMsExpiry => none
  | .indexSilenceExpiry => none
  | .brakingQuietExpiry => none
  | .loadMsExpiry => none
  | .acqMsExpiry => none
  | .seekMsExpiry => none
  | .settleMsExpiry => none
  | .unloadMsExpiry => none
  | .windowTimeout => none
  | .gateUOverflow => none
  | .gateLOverflow => none
  | .restTimerExpiry _ => none
  | .spindleRecoveryExpiry => none
  | .profileMemoryReadDone _ => none
  | .profileLoadLimitExpiry => none
  | .profileMemoryWriteDone => none
  | .profileMemoryFault => none
  | .saveWriteLimitExpiry => none
  | .byteReceived _ => none
  | .gapLimitExpiry => none
  | .transmitComplete => none
  | .requestUnknownKind kind tag payload => some { kind := kind, tag := tag, payload := payload }
  | .statusRead tag => some { kind := 0x01, tag := tag, payload := [] }
  | .motionRead tag => some { kind := 0x02, tag := tag, payload := [] }
  | .thermalRead tag => some { kind := 0x03, tag := tag, payload := [] }
  | .linesRead tag => some { kind := 0x04, tag := tag, payload := [] }
  | .linkRead tag clear => some { kind := 0x05, tag := tag, payload := [clear] }
  | .countersRead tag => some { kind := 0x06, tag := tag, payload := [] }
  | .profileRead tag => some { kind := 0x07, tag := tag, payload := [] }
  | .jobList tag => some { kind := 0x08, tag := tag, payload := [] }
  | .resultRead tag selector id => some { kind := 0x09, tag := tag, payload := [selector, id] }
  | .mapRead tag copy form head zone => some { kind := 0x0A, tag := tag, payload := [copy, form, head, zone] }
  | .eventsRead tag => some { kind := 0x0B, tag := tag, payload := [] }
  | .jobSubmit tag kind heads zones options =>
    some { kind := 0x10, tag := tag, payload := submitPayload kind heads zones options }
  | .jobCancel tag id => some { kind := 0x11, tag := tag, payload := [id] }
  | .jobSuspend tag id => some { kind := 0x12, tag := tag, payload := [id] }
  | .jobResume tag id => some { kind := 0x13, tag := tag, payload := [id] }
  | .mapPublish tag => some { kind := 0x18, tag := tag, payload := [] }
  | .mapExclude tag head => some { kind := 0x19, tag := tag, payload := [head] }
  | .mapInclude tag head => some { kind := 0x1A, tag := tag, payload := [head] }
  | .mapClear tag selector head => some { kind := 0x1B, tag := tag, payload := [selector, head] }
  | .spinUp tag => some { kind := 0x20, tag := tag, payload := [] }
  | .spinDown tag => some { kind := 0x21, tag := tag, payload := [] }
  | .headsLoad tag => some { kind := 0x22, tag := tag, payload := [] }
  | .headsUnload tag => some { kind := 0x23, tag := tag, payload := [] }
  | .seek tag track offset => some { kind := 0x24, tag := tag, payload := seekPayload track offset }
  | .profileWrite tag payload => some { kind := 0x28, tag := tag, payload := payload }
  | .profileSave tag => some { kind := 0x29, tag := tag, payload := [] }
  | .restWrite tag presetA presetB table =>
    some { kind := 0x2A, tag := tag, payload := restPayload presetA presetB table }
  | .eventMaskWrite tag mask => some { kind := 0x2B, tag := tag, payload := [mask] }
  | .linesWrite tag group owner head mode level =>
    some { kind := 0x2C, tag := tag, payload := [group, owner, head, mode, level] }
  | .countersClear tag selector head => some { kind := 0x2D, tag := tag, payload := [selector, head] }
  | .benchReset tag => some { kind := 0x3F, tag := tag, payload := [] }
  | .benchResetEffect => none

/-- The commands of a list, one after the other. -/
def execAll : List Instr → State → Host.Outcome State Fault Refusal
  | [], s => .next s
  | c :: cs, s =>
    match exec c s with
    | .next t => execAll cs t
    | .fault f => .fault f
    | .refused r => .refused r

/-- A receive fault has been made (R183): HUNT with nothing held, its counter one more up to 255 and the others as they were,
the fault record replaced, LINK pending; every other block as it was. -/
structure ReceiveFault (s : State) (f : RxFault) (kind tag : Option Byte) (t : State) : Prop where
  asm : t.blk.asm = huntAsm
  counter : t.blk.counters.of f = min 255 (s.blk.counters.of f + 1)
  rest : ∀ g, g ≠ f → t.blk.counters.of g = s.blk.counters.of g
  record : t.blk.lastFault = some { fault := f, kind := kind, tag := tag }
  event : t.blk.events.link = true
  kept : t.blk.buffer = s.blk.buffer ∧ t.pos = s.pos ∧ t.jct = s.jct ∧ t.rtm = s.rtm ∧ t.hmp = s.hmp

/-! ## Unloads and parks -/

/-- An unload with cause `c` has begun from `s` and is under way in `t` (R38): UNLOADING with UNLOAD_MS running, the coil
driven along the unload path, run counts 0, no held seek, the window ended, the unload move owned by BENCH or NONE, MOTION
pending but for the cause BENCH; spindle, target and offset kept. -/
structure UnloadBegun (s : State) (c : UnloadCause) (t : State) : Prop where
  now : t.now = s.now
  act : t.pos.act = .unloading
  coil : t.coilDrive = .unloadPath
  deadline : t.pos.deadline = some { kind := .unload, due := s.now + s.prof.unloadMs * 200000 }
  runs : t.pos.acqRun = 0 ∧ t.pos.settleRun = 0 ∧ t.pos.otRun = 0 ∧ t.pos.lossRun = 0
  held : t.pos.held = none
  move : t.pos.actMove = some { kind := .unload, owner := if c = .bench then .bench else .nobody }
  cause : t.pos.unloadCause = c
  motion : c ≠ .bench → t.blk.events.motion = true
  window : s.pos.act = .following → t.window = none
  kept : t.pos.spindle = s.pos.spindle ∧ t.pos.target = s.pos.target ∧ t.pos.offset = s.pos.offset ∧
    t.pos.lastPark = s.pos.lastPark
  chm : t.chm = s.chm
  pst : t.pst = s.pst
  counters : t.sdc.counters = s.sdc.counters
  published : t.hmp = s.hmp

/-- The unload of `s` has ended in `t` (R39): PARKED, the coil holding the arm on the ramp (R23), the move ended, slots
stopped, the park record replaced, a pending spin-down carried out. -/
structure ParkedFrom (s : State) (unconfirmed : Bool) (t : State) : Prop where
  act : t.pos.act = .parked
  coil : t.coilDrive = .holdOnRamp
  deadline : t.pos.deadline = none
  move : t.pos.actMove = none
  outcome : ∀ m, s.pos.actMove = some m → m.owner = .bench →
    t.pos.lastBench = some (m.kind, if unconfirmed then .parkedUnconfirmed else .parked)
  record : t.pos.lastPark = some (s.pos.unloadCause, unconfirmed)
  slots : t.sdc.slotDue = none ∧ t.sdc.expect = none ∧ t.sdc.marker = false ∧ t.sdc.counters = s.sdc.counters
  spindle : t.pos.spindle = if s.pos.spinDownPending then .braking else s.pos.spindle
  pending : t.pos.spinDownPending = false
  kept : t.pos.target = s.pos.target ∧ t.pos.offset = s.pos.offset ∧ t.chm = s.chm ∧ t.pst = s.pst ∧ t.hmp = s.hmp

/-! ## The values after the resets -/

/-- The power-on values of every block (the power-on columns of R15, R42, R61, R87, R124, R142, R155, R162, R170, R193, and
R175 for the Profile Store). -/
structure AtPowerOn (t : State) : Prop where
  sdc : t.sdc = { expect := none, marker := false, counters := List.replicate 20 {}, slotDue := none }
  spindle : t.pos.spindle = .stopped ∧ t.pos.spindle.enable = false ∧ t.pos.spinDownPending = false
  index : t.pos.indexRef = none ∧ t.pos.period = none
  actuator : t.pos.act = .parked ∧ t.pos.deadline = none ∧ t.pos.target = 0 ∧ t.pos.offset = 0
  runs : t.pos.inTol = 0 ∧ t.pos.outTol = 0 ∧ t.pos.acqRun = 0 ∧ t.pos.settleRun = 0 ∧ t.pos.otRun = 0 ∧ t.pos.lossRun = 0
  moves : t.pos.held = none ∧ t.pos.spinMove = none ∧ t.pos.actMove = none ∧ t.pos.lastBench = none ∧ t.pos.lastPark = none
  window : t.window = none
  gate : t.gcu.state = .idle ∧ t.gcu.mode = .chained ∧ t.gcu.head = none ∧ t.gcu.stageL = 0 ∧ t.gcu.stageU = 0 ∧
    t.gcu.overflow = none ∧ t.gcu.last = none
  jobs : t.jct.table = [] ∧ t.jct.finished = [] ∧ t.jct.nextId = 1 ∧ t.jct.ctx = {} ∧ t.jct.recoverDue = none
  maps : t.hmp.working = emptyMap 4 16 ∧ t.hmp.published = emptyMap 4 16 ∧ t.hmp.gen = 0 ∧ t.hmp.unpub = false
  heat : t.chm.heat = 0 ∧ t.chm.level = .cool ∧ t.chm.pace = 0 ∧ t.chm.hot = 0 ∧ t.chm.last = none ∧
    t.chm.nextTick = t.now + 2000000
  timers : t.rtm = { a := { preset := 30000, due := none }, b := { preset := 0, due := none }, table := defaultRestTable }
  owners : t.flc.selectBench = false ∧ t.flc.spindleBench = false ∧ t.flc.senseBench = false
  levels : t.flc.engineHead = t.prof.anchor ∧ t.flc.benchHead = 0 ∧ t.flc.benchMode = .standby ∧ t.flc.benchSpin = false ∧
    t.flc.heldRamp = t.flc.liveRamp ∧ t.flc.heldPreamp = t.flc.livePreamp
  store : t.pst.state = .starting ∧ t.pst.save = none ∧ t.pst.lastSave = .none ∧ t.pst.loadDue = some (t.now + 100000000)
  link : t.blk.asm.state = .hunt ∧ t.blk.asm.got = [] ∧ t.blk.asm.gapDue = none ∧ t.blk.buffer = [] ∧ t.blk.counters = {} ∧
    t.blk.lastFault = none ∧ t.blk.events = EventSet.all false ∧ t.blk.mask = EventSet.all true ∧ t.blk.sending = none ∧
    t.blk.waiting = []

/-- The values of a BENCH_RESET that takes effect in `s` (the BENCH_RESET columns of R15, R42, R61, R87, R124, R142, R155,
R162, R170, R193, and R180, R192). That an unload which the reset begins has the cause BENCH, also where the SENSE group
returns with an active fault, is the model's order of the blocks (log 23). -/
structure AfterBenchReset (s t : State) : Prop where
  sdc : t.sdc.expect = none ∧ t.sdc.marker = false ∧ t.sdc.counters = List.replicate 20 {} ∧
    (t.pos.act = .unloading → t.sdc.slotDue = s.sdc.slotDue)
  accelerating : s.pos.spindle = .accelerating →
    t.pos.spindle = .braking ∧ t.pos.quietDue = some (t.now + 100000000) ∧
    t.pos.spinMove = some { kind := .spinDown, owner := .bench }
  turning : s.pos.spindle = .atSpeed ∨ s.pos.spindle = .offSpeed → s.flc.spindleBench = false →
    t.pos.spinMove = some { kind := .spinDown, owner := .bench } ∧
    (t.pos.act = .parked → t.pos.spindle = .braking ∧ t.pos.spinDownPending = false ∧
      t.pos.quietDue = some (t.now + 100000000)) ∧
    (t.pos.act = .unloading → t.pos.spindle = s.pos.spindle ∧ t.pos.spinDownPending = true)
  resting : s.pos.spindle = .stopped ∨ s.pos.spindle = .braking → s.flc.spindleBench = false →
    t.pos.spindle = s.pos.spindle ∧ t.pos.quietDue = s.pos.quietDue ∧ t.pos.spinMove = none ∧
    t.pos.spinDownPending = false
  returned : s.flc.spindleBench = true →
    t.pos.spindle = .braking ∧ t.pos.quietDue = some (t.now + 100000000) ∧
    t.pos.spinMove = some { kind := .spinDown, owner := .bench } ∧ t.pos.spinDownPending = false
  actuator : t.pos.act =
    if s.pos.act = .parked then .parked
    else if (s.pos.act.isLoaded = true ∧ s.rampView = .onRamp) ∨
        (s.flc.senseBench = true ∧ s.flc.heldRamp ≠ s.flc.liveRamp ∧ s.flc.liveRamp = .onRamp) then .parked
    else .unloading
  begun : s.pos.act.isLoaded = true → t.pos.unloadCause = .bench ∧
    (t.pos.act = .unloading →
      t.pos.deadline = some { kind := .unload, due := t.now + s.prof.unloadMs * 200000 } ∧
      t.pos.actMove = some { kind := .unload, owner := .bench } ∧ t.pos.lastPark = s.pos.lastPark ∧
      ((∀ m, s.pos.actMove = some m → m.kind ≠ .unload) → t.pos.lastBench = none)) ∧
    (t.pos.act = .parked → t.pos.actMove = none ∧ t.pos.lastPark = some (.bench, false) ∧
      t.pos.lastBench = some (.unload, .parked))
  continued : s.pos.act = .unloading → t.pos.unloadCause = s.pos.unloadCause ∧
    (t.pos.act = .unloading →
      t.pos.deadline = s.pos.deadline ∧ t.pos.lastPark = s.pos.lastPark ∧ t.pos.lastBench = none ∧
      (∀ m, s.pos.actMove = some m → m.kind = .unload → t.pos.actMove = some { kind := .unload, owner := .bench })) ∧
    (t.pos.act = .parked → t.pos.actMove = none ∧ t.pos.lastPark = some (s.pos.unloadCause, false))
  stayed : s.pos.act = .parked → t.pos.lastPark = s.pos.lastPark ∧ t.pos.lastBench = none
  kept : t.pos.indexRef = s.pos.indexRef ∧ t.pos.period = s.pos.period ∧ t.pos.target = s.pos.target ∧
    t.pos.offset = s.pos.offset
  runs : t.pos.inTol = 0 ∧ t.pos.outTol = 0 ∧ t.pos.acqRun = 0 ∧ t.pos.settleRun = 0 ∧ t.pos.otRun = 0 ∧ t.pos.lossRun = 0
  held : t.pos.held = none
  window : t.window = none
  gate : t.gcu.state = .idle ∧ t.gcu.mode = .chained ∧ t.gcu.head = none ∧ t.gcu.stageL = 0 ∧ t.gcu.stageU = 0 ∧
    t.gcu.overflow = none ∧ (s.gcu.state = .idle → t.gcu.last = s.gcu.last) ∧
    (s.gcu.state ≠ .idle → t.gcu.last = some
      { ending := .aborted, abortCause := some .reset, mode := s.gcu.mode, head := s.gcu.head, value := none
        closedBy := none, marks := none, overflowed := none })
  jobs : t.jct.table = [] ∧ t.jct.finished = [] ∧ t.jct.nextId = 1 ∧ t.jct.ctx = {} ∧ t.jct.recoverDue = none
  working : t.hmp.working = emptyMap s.prof.headCount s.prof.zoneCount ∧ t.hmp.unpub = (s.hmp.gen != 0)
  published : t.hmp.published = s.hmp.published ∧ t.hmp.gen = s.hmp.gen
  heat : t.chm.heat = s.chm.heat ∧ t.chm.pace = s.chm.pace ∧ t.chm.hot = 0 ∧ t.chm.nextTick = s.chm.nextTick
  level : t.chm.level =
    if s.prof.hotOff ≤ s.chm.heat then .hot else if s.prof.warmOff ≤ s.chm.heat then .warm else .cool
  change : t.chm.last =
    if t.chm.level = s.chm.level then s.chm.last
    else some { before := s.chm.level, after := t.chm.level, cause := .reset }
  timers : t.rtm = { a := { preset := 30000, due := none }, b := { preset := 0, due := none }, table := defaultRestTable }
  owners : t.flc.selectBench = false ∧ t.flc.spindleBench = false ∧ t.flc.senseBench = false
  levels : t.flc.benchHead = 0 ∧ t.flc.benchMode = .standby ∧ t.flc.benchSpin = false ∧
    t.flc.heldRamp = s.flc.liveRamp ∧ t.flc.heldPreamp = s.flc.livePreamp ∧ t.flc.liveRamp = s.flc.liveRamp ∧
    t.flc.livePreamp = s.flc.livePreamp
  selection : ((∀ w, s.window = some w → w.probing = false) → t.flc.engineHead = s.flc.engineHead) ∧
    ∀ w, s.window = some w → w.probing = true → t.flc.engineHead = s.prof.anchor
  store : (s.pst.save = none → t.pst = s.pst) ∧
    ∀ v, s.pst.save = some v →
      t.pst =
        { s.pst with
          state := .ready, save := none, lastSave := .abandoned, memory := t.pst.memory, late := s.pst.late + 1 }
  link : t.blk.asm = s.blk.asm ∧ t.blk.buffer = [] ∧ t.blk.counters = {} ∧ t.blk.lastFault = none ∧
    t.blk.mask = EventSet.all true
  events : t.blk.events =
    { EventSet.all false with
      thermal := decide (t.chm.level ≠ s.chm.level)
      preamp := s.flc.senseBench && decide (s.flc.heldPreamp ≠ s.flc.livePreamp) && decide (s.flc.livePreamp = .active) }
  notices : (∀ k, Waiting.notice k ∈ t.blk.waiting → t.blk.events.has k = true) ∧
    ((∀ w ∈ s.blk.waiting, w.isReply = false) → t.blk.events = EventSet.all false →
      t.blk.waiting = [] ∧ t.blk.sending = none)

/-- Whether the slot that ends with `mark` is a record of the measured head which the window `w` takes as WILD although the
Sector Decoder classed it GOOD (R51): more than 127 tracks from the window's track. -/
def State.reclassifiedBy (s : State) (w : Window) (mark : Option Mark) : Bool :=
  decide (s.drivenHead = w.head) && decide (classify s.prof s.sdc.marker mark = .good) &&
    mark.any fun m => decide (127 < ((m.track : Int) - w.track).natAbs)

/-- The counters after a slot that ends with `mark` (R7, R12), one more in WILD when it is reclassified (R51). -/
def State.countedBy (s : State) (mark : Option Mark) (reclassified : Bool) : List HeadCounters :=
  s.sdc.counters.modify s.drivenHead fun c =>
    let d := c.count (classify s.prof s.sdc.marker mark) (slipDue s.sdc.expect mark)
    { d with wild := if reclassified then min 65535 (d.wild + 1) else d.wild }

/-- What the end of a slot makes of the state (R1, R7, R8, R12, R51): a slot that ended at tick `n` with `mark`, or with a
miss. The next slot ends one slot period after tick `n`, also after a mark (log 3, log 21). -/
structure SlotTaken (s : State) (mark : Option Mark) (n : Nat) (t : State) : Prop where
  now : t.now = max s.now n
  next : s.pos.act ≠ .parked → s.rampView = .offRamp →
    t.sdc.slotDue = some (n + s.pos.period.getD s.prof.nRevNom / s.prof.sectors)
  counts : s.window = none → t.sdc.counters = s.countedBy mark false
  visited : ∀ w, s.window = some w → w.anchorOnly = false → w.head ≠ s.prof.anchor →
    t.sdc.counters = s.countedBy mark (w.probing && s.reclassifiedBy w mark)
  anchored : ∀ w, s.window = some w → w.anchorOnly = true → s.pos.act = .following →
    s.pos.otRun + 1 < s.prof.otCount → s.pos.lossRun < 3 →
    t.sdc.counters = s.countedBy mark (s.reclassifiedBy w mark)
  expect : s.rampView = .offRamp → t.sdc.expect = nextExpect s.prof.sectors s.sdc.expect mark
  period : t.pos.period = s.pos.period ∧ t.pos.indexRef = s.pos.indexRef
  store : t.pst = s.pst
  lines : t.flc = { s.flc with engineHead := t.flc.engineHead }
  published : t.hmp.published = s.hmp.published ∧ t.hmp.gen = s.hmp.gen
  receive : t.blk.asm = s.blk.asm ∧ t.blk.buffer = s.blk.buffer ∧ t.blk.counters = s.blk.counters

/-! ## Laws that every command keeps -/

/-- The deadline that runs in an actuator state is one of that state's (R23). -/
def deadlineFits (a : ActState) (d : Option ActDeadline) : Bool :=
  match a with
  | .parked => d.isNone
  | .following => d.isNone
  | .loading => d.any fun x => x.kind == .load
  | .acquiring => d.any fun x => x.kind == .load || x.kind == .acq
  | .seeking => d.any fun x => x.kind == .seek
  | .settling => d.any fun x => x.kind == .settle
  | .unloading => d.any fun x => x.kind == .unload

/-- The laws of motion: with heads loaded the spindle is AT_SPEED (R23); each actuator state has its deadline (R23); slots run
exactly outside PARKED (R1); a window is open only in FOLLOWING (R48, R56); a bench-owned SPINDLE group means the spindle
state BENCH, and BENCH or a bench-owned SELECT group means PARKED (R22, R164, R168). -/
structure MotionLaw (s : State) : Prop where
  loaded : s.pos.act.isLoaded = true → s.pos.spindle = .atSpeed
  deadline : deadlineFits s.pos.act s.pos.deadline = true
  slots : s.sdc.slotDue.isSome = true ↔ s.pos.act ≠ .parked
  window : s.window.isSome = true → s.pos.act = .following
  owned : s.flc.spindleBench = true → s.pos.spindle = .bench
  bench : s.pos.spindle = .bench → s.pos.act = .parked
  select : s.flc.selectBench = true → s.pos.act = .parked

/-- The bounds of the part's stores and counts: at most 8 unfinished jobs and 8 finished records (R98, R103), at most 4 frames
in the receive buffer (R184), the heat index and the pace count at most 65,535 (R144), every per-head counter at most 65,535
(R12), every link counter at most 255 (R183). -/
structure Bounds (s : State) : Prop where
  table : s.jct.table.length ≤ 8
  finished : s.jct.finished.length ≤ 8
  buffer : s.blk.buffer.length ≤ 4
  heat : s.chm.heat ≤ 65535
  pace : s.chm.pace ≤ 65535
  heads : ∀ c ∈ s.sdc.counters, c.miss ≤ 65535 ∧ c.weak ≤ 65535 ∧ c.wild ≤ 65535 ∧ c.slip ≤ 65535
  link : s.blk.counters.check ≤ 255 ∧ s.blk.counters.length ≤ 255 ∧ s.blk.counters.gap ≤ 255 ∧ s.blk.counters.overrun ≤ 255

end Sys2Proof.Machine
end

