-- ==== Sys2Proof/Certificates/Slice0/Obligations.lean ====
section
/-! DEFINITION. The statements for the provers. Each docstring says what the statement claims; OBLIGATIONS.json says which rule
of spec/ it rests on. -/

open Sys2Proof Sys2Proof.Machine

/-- For every command c, queue rest and state: the step of the state whose queue is c followed by the rest is exec of c on
the state with the queue's rest. With an empty queue a step answers the same state one tick of the 200 MHz timebase
later. How commands come and the idle tick are the model's (log 1, log 2). (00_scope section 4.5; log 1, log 2.) -/
def Obligations.StepRunsTheFrontCommand : Prop :=
  (∀ (c : Instr) (cs : List Instr) (s : State), step (s.setPending (c :: cs)) = exec c (s.setPending cs)) ∧
  ∀ s : State, s.pending = [] → step s = .next (s.setNow (s.now + 1))

/-- For every well-formed command and every state, exec answers a next state, which has the queue of waiting commands
unchanged and every report to the Job Controller taken (00_scope section 4.5: an arrival is taken whole). A request
command whose payload exceeds 240 bytes is refused by the model, since LEN is at most 240 (R181, log 27). (00_scope
section 4.5, R181; log 15, log 27.) -/
def Obligations.EveryCommandCompletes : Prop :=
  (∀ (c : Instr) (s : State), c.wellFormed = true → ∃ t, exec c s = .next t ∧ t.pending = s.pending ∧ t.inbox = []) ∧
  ∀ (s : State) (kind tag : Byte) (p heads zones : List Byte) (options : List (Byte × Half)) (a b : Quad),
    (240 < p.length →
      exec (.requestUnknownKind kind tag p) s = .refused .payloadTooLong ∧
      exec (.profileWrite tag p) s = .refused .payloadTooLong) ∧
    (240 < 8 + p.length → exec (.restWrite tag a b p) s = .refused .payloadTooLong) ∧
    (240 < 4 + heads.length + zones.length + 3 * options.length →
      exec (.jobSubmit tag kind heads zones options) s = .refused .payloadTooLong)

/-- State.reset holds the power-on values that R15, R42, R61, R87, R124, R142, R155, R162, R170, R175 and R193 give. (R15,
R42, R61, R87, R124, R142, R155, R162, R170, R175, R193.) -/
def Obligations.ResetValues : Prop :=
  AtPowerOn State.reset

/-- From every state POWER_ON_RESET answers a next state with the power-on values of every block. The levels of the two
input lines are not the part's to change; the waiting commands and the fixture profile memory, while no save is in
flight, are kept (log 30). (R15, R42, R61, R87, R124, R142, R155, R162, R170, R175, R193; log 30.) -/
def Obligations.PowerOnResetSetsEveryBlock : Prop :=
  ∀ s : State, ∃ t, exec .powerOnReset s = .next t ∧ AtPowerOn t ∧ t.flc.liveRamp = s.flc.liveRamp ∧
    t.flc.livePreamp = s.flc.livePreamp ∧ t.pending = s.pending ∧
    (s.pst.save = none → t.pst.memory = s.pst.memory ∧ t.free = s.free)

/-- With the ACK of a BENCH_RESET in transmission, BENCH_RESET_EFFECT and TRANSMIT_COMPLETE answer the same next state
(log 7), in which every block has its BENCH_RESET values. Lists and context empty, next id 1; window closed and gate
idle, one not IDLE aborted with cause RESET; per-head counters, expectation and marker clear; working copy empty; rest
timers as at power-on; groups ENGINE and the bench settings at their values; link counters 0, fault record absent, mask
on, buffer empty, and pending the THERMAL of a level change and the PREAMP of the SENSE group's return alone, every
other notice withdrawn. An accelerating spindle and one in BENCH are BRAKING; AT_SPEED and OFF_SPEED brake at once in
PARKED and are pending otherwise, with a spin-down move of BENCH; STOPPED and BRAKING are kept with no move. Loaded
heads begin an unload with cause BENCH and an unload in flight runs on with owner BENCH; other moves end and are
reported to no one, so that the last bench-move outcome is none until a park; no seek is held; the last park record is
kept until a park. H, pace count, published copy, generation, index reference, period, target, offset, engine selection,
start-up record, profile and indications, and the receive assembler are kept; a save in flight ends ABANDONED with the
store READY. That the unload's cause is BENCH also where the SENSE group returns with an active fault is the model's
order of the blocks, one of the two that R170 allows (log 23). (R15, R42, R61, R87, R124, R142, R155, R162, R170, R180,
R193; log 23.) -/
def Obligations.BenchResetTakesEffect : Prop :=
  ∀ (s : State) (x : Sending), s.blk.sending = some x → x.reset = true →
    ∃ t, exec .benchResetEffect s = .next t ∧ exec .transmitComplete s = .next t ∧ AfterBenchReset s t ∧
      t.now = max s.now x.due

/-- At State.reset: with the heads loaded the spindle is AT_SPEED, each actuator state has its deadline, slots run exactly
outside PARKED, a window is open only in FOLLOWING, bench-owned SELECT and SPINDLE groups mean PARKED; and the bounds
of the part's stores and counts hold. (R1, R12, R22, R23, R48, R56, R98, R144, R164, R168, R183, R184.) -/
def Obligations.InvariantsHoldAtReset : Prop :=
  MotionLaw State.reset ∧ Bounds State.reset

/-- If a state meets the laws of motion (with heads loaded the spindle is AT_SPEED; each actuator state has its deadline;
slots run exactly outside PARKED; a window is open only in FOLLOWING; a bench-owned SPINDLE group means BENCH; BENCH
and a bench-owned SELECT group mean PARKED), then so does every next state that a step answers. (R1, R22, R23, R48,
R56, R164, R168.) -/
def Obligations.EveryStepKeepsTheMotionLaw : Prop :=
  ∀ s t : State, MotionLaw s → step s = .next t → MotionLaw t

/-- If a state meets the bounds of the part's stores and counts (R12, R98, R103, R144, R183, R184), then so does every
next state that a step answers. (R12, R98, R103, R144, R183, R184.) -/
def Obligations.EveryStepKeepsTheBounds : Prop :=
  ∀ s t : State, Bounds s → step s = .next t → Bounds t

/-- The track number decoded from an 18-digit code is below 262,144; its top digit is the top digit of the code, and each
lower digit is 1 exactly when the code digit in that place differs from the track-number digit just above it. (R3.) -/
def Obligations.TrackCodeDecodesDigitByDigit : Prop :=
  ∀ code : BitVec 18,
    decodeTrack code < 262144 ∧
    (decodeTrack code).testBit 17 = code.getLsbD 17 ∧
    ∀ i, i < 17 → (decodeTrack code).testBit i = (code.getLsbD i != (decodeTrack code).testBit (i + 1))

/-- RECOVERY with the marker armed; else MISS without a mark; else WILD above TRACK_MAX; else WEAK with E + O below
AMP_FLOOR; else GOOD. (R4.) -/
def Obligations.RecordGetsTheFirstClassThatApplies : Prop :=
  ∀ (p : Profile) (mark : Option Mark),
    classify p true mark = .recovery ∧
    classify p false none = .miss ∧
    ∀ m : Mark,
      (p.trackMax < m.track → classify p false (some m) = .wild) ∧
      (m.track ≤ p.trackMax → m.e + m.o < p.ampFloor → classify p false (some m) = .weak) ∧
      (m.track ≤ p.trackMax → p.ampFloor ≤ m.e + m.o → classify p false (some m) = .good)

/-- For a mark with E + O of at least 64, the PES has the magnitude of 8192 x |E - O| divided by E + O and rounded down,
the sign of E - O, and lies in -8192 to +8192. (R5.) -/
def Obligations.PesIsTruncatedTowardZero : Prop :=
  ∀ m : Mark, 64 ≤ m.e + m.o →
    (pesOf m).natAbs = 8192 * ((m.e : Int) - m.o).natAbs / (m.e + m.o) ∧
    (m.o ≤ m.e → 0 ≤ pesOf m) ∧ (m.e ≤ m.o → pesOf m ≤ 0) ∧
    -8192 ≤ pesOf m ∧ pesOf m ≤ 8192

/-- With a slot running, SLOT_END_MARK and SLOT_END_MISS answer a next state at the slot's tick: the tick of the mark,
or of the slot's end. Outside PARKED the next slot ends one slot period after that tick; that a slot that ends with a
mark times the next one from the mark is the model's reading (log 3, log 21). The counters are those before with the
record counted on its head (R7, R12), and with a window open a GOOD record of the measured head more than 127 tracks
from the window's track adds one to that head's WILD counter, in an anchor-only window as long as the record leaves the
actuator FOLLOWING. With the engine view of RAMP_SENSE at OFF_RAMP, so that no park falls into the arrival, the
expectation is as R8 says. Clock, Profile Store, fixture lines but for the engine selection, published map and the
receive side are as motion and jobs leave them. (R1, R2, R7, R8, R12, R39, R51; log 3, log 21.) -/
def Obligations.SlotEndIsCountedAndTracked : Prop :=
  ∀ (s : State) (d : Nat) (sector : BitVec 10) (code : BitVec 18) (e o : BitVec 12) (ticks : Nat),
    s.sdc.slotDue = some d →
    (∃ t, exec (.slotEndMark sector code e o ticks) s = .next t ∧
      SlotTaken s (markOf s.prof.sectors sector code e o) (s.pos.indexRef.getD s.now + ticks) t) ∧
    (∃ t, exec .slotEndMiss s = .next t ∧ SlotTaken s none d t)

/-- INDEX_ARRIVAL answers a next state in every state. With the reference unset it becomes this arrival and no period is
measured. With it set the reference moves by the ticks since it, and the interval becomes the latest revolution period
unless it exceeds 4 x N_REV_NOM, when it is discarded. Heat, profile, per-head counters, fixture lines, published map
and the receive side are as motion and jobs leave them. (R19, 02_spindle_and_actuator section 2.1; log 3.) -/
def Obligations.IndexArrivalMeasuresTheRevolution : Prop :=
  ∀ (s : State) (ticks : Nat), ∃ t, exec (.indexArrival ticks) s = .next t ∧
    (s.pos.indexRef = none → t.pos.indexRef = some s.now ∧ t.pos.period = s.pos.period ∧ t.now = s.now) ∧
    (∀ ref, s.pos.indexRef = some ref →
      t.pos.indexRef = some (ref + ticks) ∧ t.now = max s.now (ref + ticks) ∧
      t.pos.period = if 4 * s.prof.nRevNom < ticks then s.pos.period else some ticks) ∧
    t.chm = s.chm ∧ t.pst = s.pst ∧ t.sdc.counters = s.sdc.counters ∧
    t.flc = { s.flc with engineHead := t.flc.engineHead } ∧ t.hmp.published = s.hmp.published ∧ t.hmp.gen = s.hmp.gen ∧
    t.blk.asm = s.blk.asm ∧ t.blk.buffer = s.blk.buffer

/-- Without jobs and with the reference set, in every actuator state: an interval that is not discarded and lies within
SPEED_TOL_PM of N_REV_NOM adds one to the in-tolerance run of ACCELERATING and OFF_SPEED, the fourth makes the spindle
AT_SPEED (ending a spin-up move SPUN_UP and cancelling SPINUP_MS), and sets the out-of-tolerance run of AT_SPEED to 0;
any other interval sets the in-tolerance run to 0 and adds one to the out-of-tolerance run, the second of which makes
the spindle OFF_SPEED with the in-tolerance run 0 and MOTION pending: loaded heads are then UNLOADING with cause
SPINDLE, or PARKED at once where the engine view of RAMP_SENSE reads ON_RAMP. In every other case the actuator stays.
That the in-tolerance run still stands as counted on arrival at AT_SPEED is the model's reading, for no rule sets it
back there (log 45). (R19, R20, R21, R38, R39; log 45.) -/
def Obligations.RevolutionsMoveTheSpeedState : Prop :=
  ∀ (s : State) (ref ticks : Nat), s.NoJobs → s.pos.indexRef = some ref →
    ∃ t, exec (.indexArrival ticks) s = .next t ∧
      ((ticks ≤ 4 * s.prof.nRevNom ∧ ((ticks : Int) - s.prof.nRevNom).natAbs * 1000 ≤ s.prof.speedTolPm * s.prof.nRevNom) →
        t.pos.act = s.pos.act ∧
        (s.pos.spindle = .accelerating → 3 ≤ s.pos.inTol →
          t.pos.spindle = .atSpeed ∧ t.pos.inTol = s.pos.inTol + 1 ∧ t.pos.spinupDue = none ∧ t.pos.spinMove = none ∧
          (∀ m, s.pos.spinMove = some m → m.owner = .bench → t.pos.lastBench = some (m.kind, .spunUp))) ∧
        (s.pos.spindle = .offSpeed → 3 ≤ s.pos.inTol → t.pos.spindle = .atSpeed ∧ t.pos.inTol = s.pos.inTol + 1) ∧
        (s.pos.spindle = .accelerating ∨ s.pos.spindle = .offSpeed → s.pos.inTol < 3 →
          t.pos.spindle = s.pos.spindle ∧ t.pos.inTol = s.pos.inTol + 1) ∧
        (s.pos.spindle = .atSpeed → t.pos.spindle = .atSpeed ∧ t.pos.outTol = 0)) ∧
      (¬(ticks ≤ 4 * s.prof.nRevNom ∧
          ((ticks : Int) - s.prof.nRevNom).natAbs * 1000 ≤ s.prof.speedTolPm * s.prof.nRevNom) →
        (s.pos.spindle = .accelerating ∨ s.pos.spindle = .offSpeed →
          t.pos.spindle = s.pos.spindle ∧ t.pos.inTol = 0 ∧ t.pos.act = s.pos.act) ∧
        (s.pos.spindle = .atSpeed → s.pos.outTol = 0 →
          t.pos.spindle = .atSpeed ∧ t.pos.outTol = 1 ∧ t.pos.act = s.pos.act) ∧
        (s.pos.spindle = .atSpeed → 1 ≤ s.pos.outTol → s.pos.act.isLoaded = false ∨ s.pos.spinDownPending = false →
          t.pos.spindle = .offSpeed ∧ t.pos.inTol = 0 ∧ t.blk.events.motion = true ∧
          (s.pos.act.isLoaded = true → t.pos.unloadCause = .spindle ∧
            t.pos.act = if s.rampView = .onRamp then .parked else .unloading) ∧
          (s.pos.act.isLoaded = false → t.pos.act = s.pos.act))) ∧
      (s.pos.spindle = .stopped ∨ s.pos.spindle = .braking ∨ s.pos.spindle = .bench →
        t.pos.spindle = s.pos.spindle ∧ t.pos.act = s.pos.act)

/-- Without jobs and with the index silence limit running in AT_SPEED, INDEX_SILENCE_EXPIRY answers a next state at the
limit's tick with the spindle OFF_SPEED, the in-tolerance run 0 and MOTION pending. Loaded heads are UNLOADING with
cause SPINDLE, or PARKED at once where the engine view of RAMP_SENSE reads ON_RAMP. Target and offset are kept. (R21,
R38, R39.) -/
def Obligations.LossOfSpeedUnloadsTheHeads : Prop :=
  ∀ (s : State) (d : Nat), s.NoJobs → s.pos.spindle = .atSpeed → s.pos.silenceDue = some d → s.pos.spinDownPending = false →
    ∃ t, exec .indexSilenceExpiry s = .next t ∧ t.now = max s.now d ∧ t.pos.spindle = .offSpeed ∧ t.pos.inTol = 0 ∧
      t.blk.events.motion = true ∧ t.pos.target = s.pos.target ∧ t.pos.offset = s.pos.offset ∧
      (s.pos.act.isLoaded = true → t.pos.unloadCause = .spindle ∧
        t.pos.act = if s.rampView = .onRamp then .parked else .unloading) ∧
      (s.pos.act.isLoaded = false → t.pos.act = s.pos.act) ∧
      t.chm = s.chm ∧ t.pst = s.pst ∧ t.sdc.counters = s.sdc.counters ∧ t.hmp = s.hmp

/-- Without jobs: SPINUP_MS_EXPIRY in ACCELERATING answers a next state with the spindle BRAKING, the 500 ms limit
running, the spin-up move ended SPINUP_FAIL and MOTION pending; BRAKING_QUIET_EXPIRY in BRAKING answers a next state
with the spindle STOPPED, the index reference unset and the spin-down move ended STOPPED. The actuator is unchanged.
(R20, R22, R25.) -/
def Obligations.SpindleDeadlinesEndTheirMoves : Prop :=
  ∀ (s : State) (d : Nat), s.NoJobs →
    (s.pos.spindle = .accelerating → s.pos.spinupDue = some d →
      ∃ t, exec .spinupMsExpiry s = .next t ∧ t.now = max s.now d ∧ t.pos.spindle = .braking ∧ t.pos.spinupDue = none ∧
        t.pos.quietDue = some (max s.now d + 100000000) ∧ t.pos.spinMove = none ∧ t.blk.events.motion = true ∧
        (∀ m, s.pos.spinMove = some m → m.owner = .bench → t.pos.lastBench = some (m.kind, .spinupFail)) ∧
        t.pos.act = s.pos.act ∧ t.pos.indexRef = s.pos.indexRef ∧ t.chm = s.chm ∧ t.sdc = s.sdc) ∧
    (s.pos.spindle = .braking → s.pos.quietDue = some d →
      ∃ t, exec .brakingQuietExpiry s = .next t ∧ t.now = max s.now d ∧ t.pos.spindle = .stopped ∧
        t.pos.indexRef = none ∧ t.pos.spinMove = none ∧
        (∀ m, s.pos.spinMove = some m → m.owner = .bench → t.pos.lastBench = some (m.kind, .stopped)) ∧
        t.pos.act = s.pos.act ∧ t.pos.period = s.pos.period ∧ t.chm = s.chm ∧ t.sdc = s.sdc)

/-- With no job RUNNING, the engine view of RAMP_SENSE at OFF_RAMP and its deadline running, LOAD_MS_EXPIRY,
SEEK_MS_EXPIRY and ACQ_MS_EXPIRY answer a next state at the deadline's tick: UNLOADING with UNLOAD_MS running, run
counts 0, cause LOAD_FAIL, SEEK_TIMEOUT or SERVO_LOST, MOTION pending, the unload move owned by NONE, and the load or
seek move of the bench ended LOAD_FAIL or SEEK_TIMEOUT. Spindle, target and offset are kept. (R25, R30, R34, R37,
R38.) -/
def Obligations.LoadSeekAndAcquisitionDeadlinesUnload : Prop :=
  ∀ (s : State) (d : Nat), s.NoneRuns → s.rampView = .offRamp →
    (s.pos.deadline = some { kind := .load, due := d } → s.pos.act = .loading ∨ s.pos.act = .acquiring →
      ∃ t, exec .loadMsExpiry s = .next t ∧ UnloadBegun (s.atTick d) .loadFail t ∧
        (∀ m, s.pos.actMove = some m → m.owner = .bench → s.pos.held = none → t.pos.lastBench = some (m.kind, .loadFail))) ∧
    (s.pos.deadline = some { kind := .seek, due := d } → s.pos.act = .seeking →
      ∃ t, exec .seekMsExpiry s = .next t ∧ UnloadBegun (s.atTick d) .seekTimeout t ∧
        (∀ m, s.pos.actMove = some m → m.owner = .bench → s.pos.held = none →
          t.pos.lastBench = some (m.kind, .seekTimeout))) ∧
    (s.pos.deadline = some { kind := .acq, due := d } → s.pos.act = .acquiring →
      ∃ t, exec .acqMsExpiry s = .next t ∧ UnloadBegun (s.atTick d) .servoLost t)

/-- With no job RUNNING, a rest timer running and SETTLE_MS running in SETTLING, SETTLE_MS_EXPIRY answers a next state at
the deadline's tick: FOLLOWING, no deadline, run counts 0, target and offset unchanged, the move in flight ended
SETTLE_TIMEOUT (the bench's in the last bench-move outcome), H unchanged (no jog completion). (R25, R36, R160.) -/
def Obligations.SettleDeadlineReturnsToFollowing : Prop :=
  ∀ (s : State) (d : Nat), s.NoneRuns → s.pos.act = .settling → s.pos.deadline = some { kind := .settle, due := d } →
    (s.rtm.a.isRunning = true ∨ s.rtm.b.isRunning = true) →
    ∃ t, exec .settleMsExpiry s = .next t ∧ t.now = max s.now d ∧ t.pos.act = .following ∧ t.pos.deadline = none ∧
      t.pos.actMove = none ∧ t.pos.settleRun = 0 ∧ t.pos.otRun = 0 ∧ t.pos.lossRun = 0 ∧ t.pos.target = s.pos.target ∧
      t.pos.offset = s.pos.offset ∧ t.pos.spindle = s.pos.spindle ∧ t.pos.held = s.pos.held ∧ t.chm = s.chm ∧
      (∀ m, s.pos.actMove = some m → m.owner = .bench → t.pos.lastBench = some (m.kind, .settleTimeout)) ∧
      (∀ m, s.pos.actMove = some m → m.owner ≠ .bench → t.pos.lastBench = s.pos.lastBench)

/-- With no job RUNNING, in UNLOADING: RAMP_SENSE_CHANGE to ON_RAMP with the SENSE group engine-owned, and
UNLOAD_MS_EXPIRY, answer a next state with the actuator PARKED, the coil holding the arm on the ramp, no actuator move,
slots stopped, the expectation unset and the last park record holding the cause and whether the park is unconfirmed. An
unconfirmed park makes MOTION pending. A pending spin-down is carried out: the spindle is BRAKING; otherwise the spindle
is unchanged. (R1, R9, R23, R28, R39, R166.) -/
def Obligations.UnloadEndsAtParked : Prop :=
  ∀ (s : State) (d : Nat), s.NoneRuns → s.pos.act = .unloading →
    (s.flc.senseBench = false → s.flc.liveRamp = .offRamp →
      ∃ t, exec (.rampSenseChange .onRamp) s = .next t ∧ ParkedFrom s false t ∧ t.flc = { s.flc with liveRamp := .onRamp } ∧
        t.now = s.now) ∧
    (s.pos.deadline = some { kind := .unload, due := d } →
      ∃ t, exec .unloadMsExpiry s = .next t ∧ ParkedFrom s true t ∧ t.blk.events.motion = true ∧ t.flc = s.flc ∧
        t.now = max s.now d)

/-- RAMP_SENSE_CHANGE and PREAMP_FAULT_CHANGE answer a next state in which the live level is the new one and every other
line level, owner and the bench selection is unchanged. With the SENSE group bench-owned nothing but the live level
changes, but for the reports that were under way and the transmitter. (R163, R166.) -/
def Obligations.SenseChangesReachTheLiveLevels : Prop :=
  ∀ (s : State) (r : Ramp) (p : PreampLine),
    (∃ t, exec (.rampSenseChange r) s = .next t ∧
      t.flc = { s.flc with liveRamp := r, engineHead := t.flc.engineHead } ∧ t.now = s.now ∧ t.chm = s.chm ∧ t.pst = s.pst) ∧
    (∃ t, exec (.preampFaultChange p) s = .next t ∧
      t.flc = { s.flc with livePreamp := p, engineHead := t.flc.engineHead } ∧ t.now = s.now ∧ t.chm = s.chm ∧
      t.pst = s.pst) ∧
    (s.flc.senseBench = true → s.inbox = [] →
      exec (.rampSenseChange r) s = .next (s.setFlc { s.flc with liveRamp := r }).transmit ∧
      exec (.preampFaultChange p) s = .next (s.setFlc { s.flc with livePreamp := p }).transmit)

/-- With no jobs and the SENSE group engine-owned, PREAMP_FAULT_CHANGE from inactive to ACTIVE answers a next state with
PREAMP pending. With the heads loaded and the ramp line at OFF_RAMP an unload with cause PREAMP has begun; in PARKED
and UNLOADING the actuator is unchanged. (R38, R167.) -/
def Obligations.PreampFaultUnloadsTheHeads : Prop :=
  ∀ s : State, s.NoJobs → s.flc.senseBench = false → s.flc.livePreamp = .inactive →
    ∃ t, exec (.preampFaultChange .active) s = .next t ∧ t.blk.events.preamp = true ∧
      (s.pos.act.isLoaded = true → s.flc.liveRamp = .offRamp → UnloadBegun s .preamp t) ∧
      (s.pos.act.isLoaded = false → t.pos = s.pos)

/-- For a GOOD record of the anchor in a quiet part: in LOADING the actuator becomes ACQUIRING with the deadline running
on and the acquisition run 1; in ACQUIRING the run grows by one below ACQ_COUNT, and the ACQ_COUNT-th record makes the
actuator FOLLOWING with no deadline, the target that record's track at offset 0, the move ended LOADED. A miss sets
the run to 0 and keeps ACQUIRING. The control output moves from its value and the record's PES by the control law,
which is a free value (log 8). (R24, R25, R30; log 8.) -/
def Obligations.AcquisitionRunEndsAtFollowing : Prop :=
  ∀ (s : State) (sector : BitVec 10) (code : BitVec 18) (e o : BitVec 12) (ticks : Nat) (m : Mark),
    QuietSlot s → GoodMark s sector code e o m →
    (s.pos.act = .loading → 2 ≤ s.prof.acqCount →
      ∃ t, exec (.slotEndMark sector code e o ticks) s = .next t ∧ ServoFrame s (s.pos.indexRef.getD s.now + ticks) t ∧
        t.pos.act = .acquiring ∧ t.pos.deadline = s.pos.deadline ∧ t.pos.acqRun = 1 ∧ t.pos.target = s.pos.target ∧
        t.pos.offset = s.pos.offset ∧ t.pos.actMove = s.pos.actMove ∧
        t.pos.control = Config.controlLaw s.pos.control (pesOf m) ∧ t.chm = s.chm) ∧
    (s.pos.act = .acquiring →
      (∃ t, exec (.slotEndMark sector code e o ticks) s = .next t ∧ ServoFrame s (s.pos.indexRef.getD s.now + ticks) t ∧
        t.pos.control = Config.controlLaw s.pos.control (pesOf m) ∧ t.chm = s.chm ∧
        (s.pos.acqRun + 1 < s.prof.acqCount →
          t.pos.act = .acquiring ∧ t.pos.acqRun = s.pos.acqRun + 1 ∧ t.pos.deadline = s.pos.deadline ∧
          t.pos.target = s.pos.target ∧ t.pos.offset = s.pos.offset ∧ t.pos.actMove = s.pos.actMove) ∧
        (s.prof.acqCount ≤ s.pos.acqRun + 1 →
          t.pos.act = .following ∧ t.pos.acqRun = 0 ∧ t.pos.deadline = none ∧ t.pos.target = m.track ∧ t.pos.offset = 0 ∧
          t.pos.actMove = none ∧ t.pos.lastBench = benchOutcome s.pos.lastBench s.pos.actMove .loaded)) ∧
      (∀ d, s.sdc.slotDue = some d → ∃ t, exec .slotEndMiss s = .next t ∧ ServoFrame s d t ∧ t.pos.act = .acquiring ∧
        t.pos.acqRun = 0 ∧ t.pos.deadline = s.pos.deadline ∧ t.pos.target = s.pos.target ∧ t.pos.offset = s.pos.offset ∧
        t.pos.control = s.pos.control))

/-- For a GOOD record of the anchor in a quiet part in FOLLOWING, with e the error of R24: |e| at most OT_TOL sets the
off-track run to 0; beyond it the run grows by one, and the OT_COUNT-th such record makes the actuator SETTLING with
SETTLE_MS running, the target unchanged and no held seek. A GOOD record sets the loss run to 0. A miss in FOLLOWING or
SETTLING adds one to the loss run; the fourth makes the actuator ACQUIRING with ACQ_MS running, no held seek and no
move, a bench move ended INTERRUPTED with cause SERVO_LOST. (R24, R25, R31, R33, R37.) -/
def Obligations.FollowingCountsOffTrackAndLoss : Prop :=
  ∀ (s : State) (sector : BitVec 10) (code : BitVec 18) (e o : BitVec 12) (ticks : Nat) (m : Mark) (d : Nat),
    QuietSlot s →
    (GoodMark s sector code e o m → s.pos.act = .following →
      ∃ t, exec (.slotEndMark sector code e o ticks) s = .next t ∧ ServoFrame s (s.pos.indexRef.getD s.now + ticks) t ∧
        t.pos.lossRun = 0 ∧ t.pos.target = s.pos.target ∧ t.pos.offset = s.pos.offset ∧ t.pos.actMove = s.pos.actMove ∧
        t.chm = s.chm ∧
        ((((m.track : Int) - s.pos.target) * 16384 + pesOf m - s.pos.offset).natAbs ≤ s.prof.otTol →
          t.pos.act = .following ∧ t.pos.otRun = 0 ∧ t.pos.deadline = s.pos.deadline ∧ t.pos.held = s.pos.held) ∧
        (s.prof.otTol < (((m.track : Int) - s.pos.target) * 16384 + pesOf m - s.pos.offset).natAbs →
          (s.pos.otRun + 1 < s.prof.otCount →
            t.pos.act = .following ∧ t.pos.otRun = s.pos.otRun + 1 ∧ t.pos.deadline = s.pos.deadline ∧
            t.pos.held = s.pos.held) ∧
          (s.prof.otCount ≤ s.pos.otRun + 1 →
            t.pos.act = .settling ∧ t.pos.otRun = 0 ∧ t.pos.settleRun = 0 ∧ t.pos.held = none ∧
            t.pos.deadline = some { kind := .settle, due := t.now + s.prof.settleMs * 200000 }))) ∧
    (s.pos.act = .following ∨ s.pos.act = .settling → s.sdc.slotDue = some d →
      ∃ t, exec .slotEndMiss s = .next t ∧ ServoFrame s d t ∧ t.pos.target = s.pos.target ∧ t.pos.offset = s.pos.offset ∧
        t.chm = s.chm ∧ t.pos.control = s.pos.control ∧
        (s.pos.lossRun < 3 →
          t.pos.act = s.pos.act ∧ t.pos.lossRun = s.pos.lossRun + 1 ∧ t.pos.deadline = s.pos.deadline ∧
          t.pos.actMove = s.pos.actMove ∧ t.pos.held = s.pos.held) ∧
        (3 ≤ s.pos.lossRun →
          t.pos.act = .acquiring ∧ t.pos.lossRun = 0 ∧ t.pos.acqRun = 0 ∧ t.pos.held = none ∧ t.pos.actMove = none ∧
          t.pos.deadline = some { kind := .acq, due := t.now + s.prof.acqMs * 200000 } ∧
          (s.pos.held = none →
            t.pos.lastBench = benchOutcome s.pos.lastBench s.pos.actMove (.interrupted .servoLost))))

/-- For a GOOD record of the anchor in a quiet part with no held seek, with e the error of R24. In SEEKING: on another
track the seek goes on; on the target track the actuator becomes SETTLING with SETTLE_MS running, the settle run 1 or 0
as |e| lies within SETTLE_TOL or not, the move still in flight, H grown by SEEK_BASE plus the distance from the seek
origin over SEEK_DIV, and the pace count 0. In SETTLING: |e| beyond SETTLE_TOL sets the settle run to 0; within it the
run grows, and the SETTLE_COUNT-th record makes the actuator FOLLOWING with no deadline, the move ended SETTLED, H grown
by JOG_COST for a jog move alone. For a RUNNING job's head-zone: the end of its load on another track than the zone's
brings it to ZONE_SEEK with a seek to the zone's track and o_c under way, or held in WARM until the pace count allows
it. The SETTLED seek reaches the zone: COLLECT with the window for QUALIFY, JOG_1 with the jog to o1 or at o1 COLLECT_1
with the window for SPAN, PERIOD with a CHAINED gate for SKEW, the failed-zone count 0. The SETTLED jogs open the
windows of COLLECT_1 and COLLECT_2 (the heat staying below a change of level). SETTLE_TIMEOUT, SEEK_TIMEOUT, a loss of
servo and an off-track arrival that discards the held seek are zone-seek failures: a retry from PREPARE, waiting for
PARKED after SEEK_TIMEOUT and for FOLLOWING or PARKED after a loss of servo; with the retries spent, at the only head-
zone of the only job, the entry with reason ANCHOR, the job DONE_PARTIAL, or FAILED with reason ANCHOR when the zone
before failed too. (R24, R25, R34, R36, R37, R108, R110, R111, R113, R116, R148, R149.) -/
def Obligations.SeeksCompleteAndSettle : Prop :=
  ∀ (s : State) (sector : BitVec 10) (code : BitVec 18) (e o : BitVec 12) (ticks : Nat) (m : Mark) (j : Job) (c : Cursor)
      (f : Figures) (head zone n track : Nat),
    (QuietSlot s → GoodMark s sector code e o m → s.pos.held = none → 2 ≤ s.prof.settleCount →
    (s.pos.act = .seeking →
      ∃ t, exec (.slotEndMark sector code e o ticks) s = .next t ∧ ServoFrame s (s.pos.indexRef.getD s.now + ticks) t ∧
        t.pos.target = s.pos.target ∧ t.pos.offset = s.pos.offset ∧ t.pos.actMove = s.pos.actMove ∧
        (m.track ≠ s.pos.target → t.pos.act = .seeking ∧ t.pos.deadline = s.pos.deadline ∧ t.chm = s.chm) ∧
        (m.track = s.pos.target →
          t.pos.act = .settling ∧
          t.pos.deadline = some { kind := .settle, due := t.now + s.prof.settleMs * 200000 } ∧
          t.pos.settleRun = (if (pesOf m - s.pos.offset).natAbs ≤ s.prof.settleTol then 1 else 0) ∧
          t.chm.heat = min 65535
            (s.chm.heat + (s.prof.seekBase + ((s.pos.target : Int) - s.pos.seekOrigin).natAbs / s.prof.seekDiv)) ∧
          t.chm.pace = 0)) ∧
    (s.pos.act = .settling →
      ∃ t, exec (.slotEndMark sector code e o ticks) s = .next t ∧ ServoFrame s (s.pos.indexRef.getD s.now + ticks) t ∧
        t.pos.target = s.pos.target ∧ t.pos.offset = s.pos.offset ∧
        (s.prof.settleTol < (((m.track : Int) - s.pos.target) * 16384 + pesOf m - s.pos.offset).natAbs →
          t.pos.act = .settling ∧ t.pos.settleRun = 0 ∧ t.pos.deadline = s.pos.deadline ∧
          t.pos.actMove = s.pos.actMove ∧ t.chm = s.chm) ∧
        ((((m.track : Int) - s.pos.target) * 16384 + pesOf m - s.pos.offset).natAbs ≤ s.prof.settleTol →
          (s.pos.settleRun + 1 < s.prof.settleCount →
            t.pos.act = .settling ∧ t.pos.settleRun = s.pos.settleRun + 1 ∧ t.pos.deadline = s.pos.deadline ∧
            t.pos.actMove = s.pos.actMove ∧ t.chm = s.chm) ∧
          (s.prof.settleCount ≤ s.pos.settleRun + 1 →
            t.pos.act = .following ∧ t.pos.deadline = none ∧ t.pos.actMove = none ∧
            t.pos.lastBench = benchOutcome s.pos.lastBench s.pos.actMove .settled ∧
            ((∃ w, s.pos.actMove = some { kind := .jog, owner := w }) →
              t.chm.heat = min 65535 (s.chm.heat + s.prof.jogCost)) ∧
            ((∀ w, s.pos.actMove ≠ some { kind := .jog, owner := w }) → t.chm = s.chm))))) ∧
    (MeasureUnderWay s j c f head zone .prepare → AnchorSlot s → GoodMark s sector code e o m → s.pos.act = .acquiring →
      s.prof.acqCount ≤ s.pos.acqRun + 1 → s.jct.ctx.await = some .load →
      s.pos.actMove = some { kind := .load, owner := .job s.jct.attempt } → s.pos.held = none →
      track = s.prof.zoneTracks.getD zone 0 → m.track ≠ track →
      (s.chm.level = .cool ∨ (s.chm.level = .warm ∧ s.prof.paceTicks ≤ s.chm.pace) →
        ∃ t, exec (.slotEndMark sector code e o ticks) s = .next t ∧
          PhaseReached s j c .zoneSeek c.failedZones .seek t ∧ t.jct.ctx.waits = some .seekOutcome ∧
          t.pos.act = .seeking ∧ t.pos.target = track ∧ t.pos.offset = f.centre ∧
          t.pos.actMove = some { kind := .seek, owner := .job s.jct.attempt } ∧
          t.pos.deadline = some { kind := .seek, due := t.now + s.prof.seekMs * 200000 }) ∧
      (s.chm.level = .warm → s.chm.pace < s.prof.paceTicks →
        ∃ t, exec (.slotEndMark sector code e o ticks) s = .next t ∧
          PhaseReached s j c .zoneSeek c.failedZones .seek t ∧ t.jct.ctx.waits = some .heldSeek ∧
          t.pos.act = .following ∧ t.pos.target = m.track ∧ t.pos.offset = 0 ∧
          t.pos.held = some { track := track, offset := f.centre, owner := .job s.jct.attempt })) ∧
    (AnchorSlot s → GoodMark s sector code e o m → s.pos.act = .settling →
      (((m.track : Int) - s.pos.target) * 16384 + pesOf m - s.pos.offset).natAbs ≤ s.prof.settleTol →
      s.prof.settleCount ≤ s.pos.settleRun + 1 →
      (MeasureUnderWay s j c f head zone .zoneSeek → s.jct.ctx.await = some .seek →
        s.pos.actMove = some { kind := .seek, owner := .job s.jct.attempt } →
        ∃ t, exec (.slotEndMark sector code e o ticks) s = .next t ∧ ZoneReached s j c f head t) ∧
      (c.phase = .jog1 ∨ c.phase = .jog2 → MeasureUnderWay s j c f head zone c.phase → s.jct.ctx.await = some .jog →
        s.pos.actMove = some { kind := .jog, owner := .job s.jct.attempt } → s.chm.level = .cool →
        s.chm.heat + s.prof.jogCost < min s.prof.warmOn s.prof.hotOn →
        ∃ t, exec (.slotEndMark sector code e o ticks) s = .next t ∧
          PhaseReached s j c (if c.phase = .jog1 then .collect1 else .collect2) c.failedZones .window t ∧
          WindowOpened s .span head f.w t ∧ t.pos.offset = s.pos.offset ∧ t.pos.target = s.pos.target ∧
          t.chm.heat = min 65535 (s.chm.heat + s.prof.jogCost))) ∧
    (MeasureUnderWay s j c f head zone .zoneSeek → s.jct.ctx.await = some .seek → s.window = none →
      (s.pos.actMove = some { kind := .seek, owner := .job s.jct.attempt } ∨
          s.pos.actMove = some { kind := .jog, owner := .job s.jct.attempt } →
        (s.pos.act = .settling → s.pos.deadline = some { kind := .settle, due := n } →
          ∃ t, exec .settleMsExpiry s = .next t ∧ ZoneSeekFailed s j c head zone t) ∧
        (s.pos.act = .seeking → s.pos.deadline = some { kind := .seek, due := n } → s.rampView = .offRamp →
          ∃ t, exec .seekMsExpiry s = .next t ∧ ZoneSeekFailed s j c head zone t ∧ t.pos.act = .unloading ∧
            (c.retries < s.prof.retries → t.runningPhase = some .prepare ∧ t.jct.ctx.waits = some .parked)) ∧
        (AnchorSlot s → s.pos.act = .settling → 3 ≤ s.pos.lossRun → s.pos.held = none →
          ∃ t, exec .slotEndMiss s = .next t ∧ ZoneSeekFailed s j c head zone t ∧ t.pos.act = .acquiring ∧
            (c.retries < s.prof.retries →
              t.runningPhase = some .prepare ∧ t.jct.ctx.waits = some .followingOrParked))) ∧
      (AnchorSlot s → GoodMark s sector code e o m → s.pos.act = .following →
        s.prof.otTol < (((m.track : Int) - s.pos.target) * 16384 + pesOf m - s.pos.offset).natAbs →
        s.prof.otCount ≤ s.pos.otRun + 1 → s.pos.actMove = none → (∃ h, s.pos.held = some h ∧ h.owner = .job s.jct.attempt) →
        ∃ t, exec (.slotEndMark sector code e o ticks) s = .next t ∧ ZoneSeekFailed s j c head zone t ∧
          t.pos.act = .settling ∧ t.pos.held = none))

/-- With no job RUNNING and the link ready, SPIN_UP answers a next state: in STOPPED the spindle is ACCELERATING with
SPINUP_MS running, the in-tolerance run 0 and a spin-up move of the bench in flight; in ACCELERATING the bench becomes
the move's owner; in AT_SPEED and OFF_SPEED nothing changes, but a pending spin-down is cancelled and its move ends
INTERRUPTED, the unload running on; BRAKING refuses BUSY and BENCH refuses LINES_HELD. (R20, R25, R26, R27.) -/
def Obligations.SpinUpFollowsTheSpindleState : Prop :=
  ∀ (s : State) (tag : Byte), s.LinkReady → s.NoneRuns →
    (s.pos.spindle = .stopped →
      ∃ t, exec (.spinUp tag) s = .next t ∧ MotionTaken s tag false false t ∧ t.pos.spindle = .accelerating ∧
        t.pos.spinupDue = some (s.now + s.prof.spinupMs * 200000) ∧ t.pos.inTol = 0 ∧
        t.pos.spinMove = some { kind := .spinUp, owner := .bench } ∧ t.pos.act = s.pos.act ∧
        t.pos.actMove = s.pos.actMove ∧ t.sdc = s.sdc ∧ t.window = s.window) ∧
    (s.pos.spindle = .accelerating →
      ∃ t, exec (.spinUp tag) s = .next t ∧ MotionTaken s tag false false t ∧
        t.pos = { s.pos with spinMove := some { kind := .spinUp, owner := .bench } } ∧ t.sdc = s.sdc ∧
        t.window = s.window) ∧
    (s.pos.spindle = .atSpeed ∨ s.pos.spindle = .offSpeed →
      (s.pos.spinDownPending = false →
        ∃ t, exec (.spinUp tag) s = .next t ∧ MotionTaken s tag false false t ∧ t.pos = s.pos ∧ t.sdc = s.sdc ∧
          t.window = s.window) ∧
      (s.pos.spinDownPending = true →
        ∃ t, exec (.spinUp tag) s = .next t ∧ MotionTaken s tag false false t ∧
          t.pos =
            { s.pos with
              spinDownPending := false, spinMove := none
              lastBench := benchOutcome s.pos.lastBench s.pos.spinMove (.interrupted .spinUp) } ∧ t.sdc = s.sdc ∧
          t.window = s.window)) ∧
    (s.pos.spindle = .braking → exec (.spinUp tag) s = .next ((s.reload .motionReq).refuses tag .busy 0)) ∧
    (s.pos.spindle = .bench → exec (.spinUp tag) s = .next ((s.reload .motionReq).refuses tag .linesHeld 0))

/-- With no job RUNNING and the link ready, SPIN_DOWN answers a next state, row by row of R28: STOPPED no change; BRAKING
the bench owns the spin-down move; ACCELERATING, BRAKING at once with the spin-up move ended INTERRUPTED and SPINUP_MS
cancelled; AT_SPEED or OFF_SPEED in PARKED, BRAKING at once; with the heads loaded and the ramp line at OFF_RAMP, an
unload with cause BENCH and the spin-down pending; in UNLOADING, pending; BENCH refuses LINES_HELD. Braking starts the
500 ms limit of R22. (R22, R25, R26, R28, R38.) -/
def Obligations.SpinDownFollowsSpindleAndActuator : Prop :=
  ∀ (s : State) (tag : Byte), s.LinkReady → s.NoneRuns →
    (s.pos.spindle = .stopped → s.pos.act = .parked →
      ∃ t, exec (.spinDown tag) s = .next t ∧ MotionTaken s tag false false t ∧ t.pos = s.pos ∧ t.sdc = s.sdc) ∧
    (s.pos.spindle = .braking → s.pos.act = .parked →
      ∃ t, exec (.spinDown tag) s = .next t ∧ MotionTaken s tag false false t ∧
        t.pos = { s.pos with spinMove := some { kind := .spinDown, owner := .bench } } ∧ t.sdc = s.sdc) ∧
    (s.pos.spindle = .accelerating → s.pos.act = .parked →
      ∃ t, exec (.spinDown tag) s = .next t ∧ MotionTaken s tag false false t ∧ t.pos.spindle = .braking ∧
        t.pos.spinupDue = none ∧ t.pos.quietDue = some (s.now + 100000000) ∧
        t.pos.spinMove = some { kind := .spinDown, owner := .bench } ∧
        t.pos.lastBench = benchOutcome s.pos.lastBench s.pos.spinMove (.interrupted .spinDown) ∧
        t.pos.act = .parked ∧ t.sdc = s.sdc) ∧
    (s.pos.spindle = .atSpeed ∨ s.pos.spindle = .offSpeed →
      (s.pos.act = .parked →
        ∃ t, exec (.spinDown tag) s = .next t ∧ MotionTaken s tag false false t ∧ t.pos.spindle = .braking ∧
          t.pos.quietDue = some (s.now + 100000000) ∧ t.pos.spinMove = some { kind := .spinDown, owner := .bench } ∧
          t.pos.act = .parked ∧ t.sdc = s.sdc) ∧
      (s.pos.act.isLoaded = true → s.rampView = .offRamp →
        ∃ t, exec (.spinDown tag) s = .next t ∧ MotionTaken s tag false false t ∧ UnloadBegun s .bench t ∧
          t.pos.spinDownPending = true ∧ t.pos.spinMove = some { kind := .spinDown, owner := .bench }) ∧
      (s.pos.act = .unloading →
        ∃ t, exec (.spinDown tag) s = .next t ∧ MotionTaken s tag false false t ∧
          t.pos =
            { s.pos with spinDownPending := true, spinMove := some { kind := .spinDown, owner := .bench } } ∧
          t.sdc = s.sdc)) ∧
    (s.pos.spindle = .bench → s.pos.act = .parked →
      exec (.spinDown tag) s = .next ((s.reload .motionReq).refuses tag .linesHeld 0))

/-- With no job RUNNING and the link ready, HEADS_LOAD answers a next state: LOADING and UNLOADING refuse BUSY; the
other loaded states are acknowledged with no change; from PARKED a bench-owned SELECT group refuses LINES_HELD, then a
spindle not AT_SPEED refuses SPINDLE, then an active PREAMP_FAULT in the engine view refuses PREAMP; otherwise the
anchor is selected, the actuator is LOADING with LOAD_MS running and the coil driven along the load path, slots begin, a
load move of the bench is in flight, no recovery marker is armed, and target, offset and last park record are kept. (R1,
R6, R26, R29.) -/
def Obligations.HeadsLoadChecksInOrder : Prop :=
  ∀ (s : State) (tag : Byte), s.LinkReady → s.NoneRuns →
    (s.pos.act = .loading ∨ s.pos.act = .unloading →
      exec (.headsLoad tag) s = .next ((s.reload .motionReq).refuses tag .busy 0)) ∧
    (s.pos.act = .acquiring ∨ s.pos.act = .following ∨ s.pos.act = .seeking ∨ s.pos.act = .settling →
      ∃ t, exec (.headsLoad tag) s = .next t ∧ MotionTaken s tag false false t ∧ t.pos = s.pos ∧ t.sdc = s.sdc ∧
        t.window = s.window ∧ t.flc = s.flc) ∧
    (s.pos.act = .parked →
      (s.flc.selectBench = true → exec (.headsLoad tag) s = .next ((s.reload .motionReq).refuses tag .linesHeld 0)) ∧
      (s.flc.selectBench = false →
        (s.pos.spindle ≠ .atSpeed → exec (.headsLoad tag) s = .next ((s.reload .motionReq).refuses tag .spindle 0)) ∧
        (s.pos.spindle = .atSpeed →
          (s.preampView = .active → exec (.headsLoad tag) s = .next ((s.reload .motionReq).refuses tag .preamp 0)) ∧
          (s.preampView = .inactive →
            ∃ t, exec (.headsLoad tag) s = .next t ∧ MotionTaken s tag false false t ∧
              t.pos =
                { s.pos with
                  act := .loading, deadline := some { kind := .load, due := s.now + s.prof.loadMs * 200000 }
                  acqRun := 0, settleRun := 0, otRun := 0, lossRun := 0
                  actMove := some { kind := .load, owner := .bench } } ∧
              t.flc = { s.flc with engineHead := s.prof.anchor } ∧ t.drivenHead = s.prof.anchor ∧
              t.coilDrive = .loadPath ∧
              t.sdc.slotDue = some (s.now + s.slotPeriod) ∧ t.sdc.expect = s.sdc.expect ∧
              (s.sdc.marker = false → t.sdc.marker = false) ∧ t.window = s.window))))

/-- With no job RUNNING and the link ready, HEADS_UNLOAD answers a next state: with the heads loaded and the engine view
of RAMP_SENSE at OFF_RAMP an unload with cause BENCH is under way; at ON_RAMP the actuator is PARKED at once with that
cause in the last park record; in PARKED and UNLOADING the Positioner is unchanged. A spindle with no spin-down
pending is unchanged, and so is the pending indication in UNLOADING. (R26, R38, R39, R40.) -/
def Obligations.HeadsUnloadUnloadsOrChangesNothing : Prop :=
  ∀ (s : State) (tag : Byte), s.LinkReady → s.NoneRuns →
    (s.pos.act.isLoaded = true → s.rampView = .offRamp →
      ∃ t, exec (.headsUnload tag) s = .next t ∧ MotionTaken s tag false false t ∧ UnloadBegun s .bench t ∧
        t.pos.spinDownPending = s.pos.spinDownPending) ∧
    (s.pos.act.isLoaded = true → s.rampView = .onRamp → s.pos.spinDownPending = false →
      ∃ t, exec (.headsUnload tag) s = .next t ∧ MotionTaken s tag false false t ∧ t.pos.act = .parked ∧
        t.pos.deadline = none ∧ t.pos.actMove = none ∧ t.pos.lastPark = some (.bench, false) ∧
        t.pos.lastBench = some (.unload, .parked) ∧ t.pos.spindle = s.pos.spindle ∧ t.sdc.slotDue = none ∧
        t.sdc.expect = none) ∧
    (s.pos.act.isLoaded = false →
      ∃ t, exec (.headsUnload tag) s = .next t ∧ MotionTaken s tag false false t ∧ t.pos = s.pos ∧ t.sdc = s.sdc ∧
        t.window = s.window)

/-- With no job RUNNING and the link ready: a track above TRACK_MAX refuses BAD_VALUE; then HOT refuses HOT; then PARKED,
LOADING, ACQUIRING and UNLOADING refuse BUSY with the actuator state. Otherwise SEEK answers a next state with the
offset clamped to -8191 to 8191: from FOLLOWING and SETTLING another track is started in COOL, or in WARM with the
pace count at PACE_TICKS or more, and held otherwise, with the deferred indication; the target track with another
offset is a jog, or restarts settling; in SEEKING the seek is redirected, its origin kept. A held seek is discarded or
replaced by any SEEK from FOLLOWING. (R26, R32, R33, R35, R36, R150.) -/
def Obligations.SeekIsStartedHeldOrRefused : Prop :=
  ∀ (s : State) (tag : Byte) (track : Quad) (offset : Half) (x : Int), s.LinkReady → s.NoneRuns →
    x = max (-8191) (min 8191 offset.toInt) →
    (s.prof.trackMax < track.toNat →
      exec (.seek tag track offset) s = .next ((s.reload .motionReq).refuses tag .badValue 0)) ∧
    (track.toNat ≤ s.prof.trackMax → s.chm.level = .hot →
      exec (.seek tag track offset) s = .next ((s.reload .motionReq).refuses tag .hot 0)) ∧
    (track.toNat ≤ s.prof.trackMax → s.chm.level ≠ .hot →
      (s.pos.act = .parked ∨ s.pos.act = .loading ∨ s.pos.act = .acquiring ∨ s.pos.act = .unloading →
        exec (.seek tag track offset) s = .next ((s.reload .motionReq).refuses tag .busy s.pos.act.code)) ∧
      (s.pos.act = .seeking →
        ∃ t, exec (.seek tag track offset) s = .next t ∧ MotionTaken s tag false (x != offset.toInt) t ∧
          t.pos =
            { s.pos with
              target := track.toNat, offset := x
              deadline := some { kind := .seek, due := s.now + s.prof.seekMs * 200000 }
              actMove := some { kind := .seek, owner := .bench } }) ∧
      (s.pos.act = .following ∨ s.pos.act = .settling → track.toNat ≠ s.pos.target →
        (s.chm.level = .cool ∨ s.prof.paceTicks ≤ s.chm.pace →
          ∃ t, exec (.seek tag track offset) s = .next t ∧ MotionTaken s tag false (x != offset.toInt) t ∧
            t.pos.act = .seeking ∧ t.pos.target = track.toNat ∧ t.pos.offset = x ∧ t.pos.seekOrigin = s.pos.target ∧
            t.pos.deadline = some { kind := .seek, due := s.now + s.prof.seekMs * 200000 } ∧
            t.pos.actMove = some { kind := .seek, owner := .bench } ∧ t.pos.held = none ∧
            t.pos.spindle = s.pos.spindle ∧ (s.pos.act = .following → t.window = none)) ∧
        (s.chm.level = .warm → s.chm.pace < s.prof.paceTicks →
          ∃ t, exec (.seek tag track offset) s = .next t ∧ MotionTaken s tag true (x != offset.toInt) t ∧
            t.pos.held = some { track := track.toNat, offset := x, owner := .bench } ∧ t.pos.act = s.pos.act ∧
            t.pos.target = s.pos.target ∧ t.pos.offset = s.pos.offset ∧ t.pos.deadline = s.pos.deadline ∧
            t.pos.actMove = s.pos.actMove ∧ t.window = s.window)) ∧
      (s.pos.act = .following → track.toNat = s.pos.target →
        ∃ t, exec (.seek tag track offset) s = .next t ∧ MotionTaken s tag false (x != offset.toInt) t ∧
          t.pos.held = none ∧ t.pos.target = s.pos.target ∧ t.pos.offset = x ∧
          (x = s.pos.offset → t.pos.act = .following ∧ t.pos.deadline = s.pos.deadline ∧
            t.pos.actMove = s.pos.actMove ∧ t.window = s.window) ∧
          (x ≠ s.pos.offset → t.pos.act = .settling ∧ t.window = none ∧
            t.pos.deadline = some { kind := .settle, due := s.now + s.prof.settleMs * 200000 } ∧
            t.pos.actMove = some { kind := .jog, owner := .bench })) ∧
      (s.pos.act = .settling → track.toNat = s.pos.target →
        ∃ t, exec (.seek tag track offset) s = .next t ∧ MotionTaken s tag false (x != offset.toInt) t ∧
          t.pos.act = .settling ∧ t.pos.target = s.pos.target ∧ t.pos.offset = x ∧
          (x = s.pos.offset → t.pos.deadline = s.pos.deadline ∧ t.pos.settleRun = s.pos.settleRun ∧
            t.pos.actMove = s.pos.actMove) ∧
          (x ≠ s.pos.offset → t.pos.settleRun = 0 ∧
            t.pos.deadline = some { kind := .settle, due := s.now + s.prof.settleMs * 200000 } ∧
            t.pos.actMove = some { kind := .jog, owner := .bench })))

/-- With a job RUNNING and the link ready, SPIN_UP, SPIN_DOWN, HEADS_LOAD, HEADS_UNLOAD and SEEK reload the timer of
MOTION_REQ and are refused BUSY with the job's id as the detail; nothing else changes. (R26, R158, R185.) -/
def Obligations.RunningJobTurnsMotionRequestsAway : Prop :=
  ∀ (s : State) (j : Job) (tag : Byte) (track : Quad) (offset : Half), s.LinkReady → s.running = some j →
    exec (.spinUp tag) s = .next ((s.reload .motionReq).refuses tag .busy j.id) ∧
    exec (.spinDown tag) s = .next ((s.reload .motionReq).refuses tag .busy j.id) ∧
    exec (.headsLoad tag) s = .next ((s.reload .motionReq).refuses tag .busy j.id) ∧
    exec (.headsUnload tag) s = .next ((s.reload .motionReq).refuses tag .busy j.id) ∧
    exec (.seek tag track offset) s = .next ((s.reload .motionReq).refuses tag .busy j.id)

/-- In COLLECT of the one head-zone of the only job, a QUALIFY job, with its window open and the revolution count one
below the limit, WINDOW_TIMEOUT answers a next state with the window CLOSED and the head-zone's qualify slot FAIL with
reason TIMEOUT and the figures of the window's counts (R74, R76); that a window with weak sectors and no used one has a
weak figure is the model's reading (log 43). The job has finished DONE_PARTIAL with one more fault, JOB_END is pending,
and the map is unpublished. WINDOW_TIMEOUT is the share of the index arrival that brings the count to the limit (log 5).
In COLLECT_1 and COLLECT_2 of a SPAN job it is a head-zone failure with reason TIMEOUT: a retry, or with the retries
spent, at the only head-zone of the only job, FAULT TIMEOUT. A GOOD record of the measured head within 127 tracks that
brings used to W ends the window COMPLETE, with the record entered and the mean of its readings over W. Then a QUALIFY
head-zone, the only one of the only job, ends with the qualification of that report; a SPAN head-zone in COLLECT_1 keeps
the report and jogs to o2 in JOG_2; in COLLECT_2, the only one of the only job, it ends with the span computation of the
kept report and this one. The entry is captured, counted ok or fault by its outcome, and the job has finished DONE, or
DONE_PARTIAL with a fault. (R45, R50, R53, R55, R74, R76, R103, R112, R113, R117; log 5, log 43.) -/
def Obligations.WindowTimeoutFailsTheHeadZone : Prop :=
  ∀ (s : State) (j : Job) (w : Window) (h z r k : Nat) (sector : BitVec 10) (code : BitVec 18) (e o : BitVec 12)
      (ticks : Nat) (m : Mark) (c : Cursor) (f : Figures) (y : WindowReport),
    (s.inbox = [] → s.window = some w → w.revs + 1 = w.limit → w.attempt = s.jct.attempt →
    s.jct.table = [j] → j.state = .running → j.kind = .qualify → j.heads = [h] → j.zones = [z] →
    j.cursor = some { zone := 0, head := 0, phase := .collect, retries := r, failedZones := k } → j.figures.isSome = true →
    s.jct.ctx.await = some .window → s.jct.zoneFailed = false →
    ∃ t, exec .windowTimeout s = .next t ∧ t.window = none ∧ t.jct.table = [] ∧
      t.hmp.working = s.hmp.working.modify h (fun x => { x with zones := x.zones.modify z fun y =>
        { y with qualify := some { result := .fail .timeout (qualFigures w), job := j.id } } }) ∧
      t.hmp.unpub = true ∧ t.hmp.published = s.hmp.published ∧
      t.jct.finished = s.jct.finished.drop (s.jct.finished.length - 7) ++
        [{ id := j.id, kind := .qualify, final := .donePartial, reason := none
           counts := { j.counts with fault := j.counts.fault + 1 }
           first := if j.counts.fault = 0 then some { head := h, zone := z, reason := .timeout } else j.first
           flags := j.flags, read := false }] ∧
      t.blk.events.jobEnd = true ∧ t.now = s.now ∧ t.chm = s.chm ∧ t.pst = s.pst) ∧
    (MeasureUnderWay s j c f h z c.phase → s.jct.ctx.await = some .window → s.window = some w → w.head = h →
      w.attempt = s.jct.attempt → s.pos.act = .following → s.gcu.state = .idle →
      (c.phase = .collect1 ∨ c.phase = .collect2 → j.kind = .span → w.revs + 1 = w.limit →
        ∃ t, exec .windowTimeout s = .next t ∧ HeadFailed s j c h z .timeout t) ∧
      (s.sdc.slotDue.isSome = true → s.sdc.marker = false → GoodMark s sector code e o m →
        ((m.track : Int) - w.track).natAbs ≤ 127 → w.size ≤ w.used + 1 →
        (w.anchorOnly = true ∧ s.drivenHead = h ∧ h = s.prof.anchor ∧ s.pos.otRun + 1 < s.prof.otCount) ∨
          (w.anchorOnly = false ∧ w.probing = true ∧ s.drivenHead = h ∧ h ≠ s.prof.anchor) →
        y.ending = .complete →
        y.window =
          { w with
            pos := if w.anchorOnly then w.pos else w.pos + 1, used := w.used + 1
            sumV := w.sumV + (((m.track : Int) - w.track) * 16384 + pesOf m), sumAmp := w.sumAmp + (m.e + m.o) } →
        y.mean = some (roundDiv y.window.sumV w.size) →
        (∀ q, j.kind = .qualify → c.phase = .collect → OnlyHeadZone s j h z → qualification s.prof y = some q →
          ∃ t, exec (.slotEndMark sector code e o ticks) s = .next t ∧ EndedWith s j h z (.qualify q) t) ∧
        (j.kind = .span → c.phase = .collect1 →
          ∃ t, exec (.slotEndMark sector code e o ticks) s = .next t ∧
            PhaseReached s j c .jog2 c.failedZones .jog t ∧ JogUnderWay s f.o2 t ∧ t.jct.ctx.firstReport = some y) ∧
        (∀ x, j.kind = .span → c.phase = .collect2 → OnlyHeadZone s j h z → s.jct.ctx.firstReport = some x →
          ∃ t, exec (.slotEndMark sector code e o ticks) s = .next t ∧
            EndedWith s j h z (.span (spanComputation s.prof x y)) t)))

/-- With an ordinary window open in FOLLOWING and the SELECT group engine-owned, SLOT_END_MISS advances the run position:
in FOLLOW_RUN the F-th record begins PROBE_VISIT with the run position 0 and the measured head driven, the recovery
marker armed when the head changes; in PROBE_VISIT a MISS of the measured head adds one to the miss count and, while
the window goes on, the V-th record begins FOLLOW_RUN with the run position 0 and the anchor driven. (R6, R46, R47,
R50, R54.) -/
def Obligations.FollowRunsAndProbeVisitsAlternate : Prop :=
  ∀ (s : State) (w : Window) (d : Nat),
    s.sdc.slotDue = some d → s.window = some w → w.anchorOnly = false → w.head ≠ s.prof.anchor →
    s.pos.act = .following → s.pos.lossRun = 0 → s.sdc.marker = false → s.flc.selectBench = false → s.inbox = [] →
    s.awaitsSwitch = false → s.gcu.state = .idle →
    (w.probing = false → s.drivenHead = s.prof.anchor →
      ∃ t, exec .slotEndMiss s = .next t ∧ t.now = max s.now d ∧ t.pos.act = .following ∧
        (w.pos + 1 < w.follow → t.window = some { w with pos := w.pos + 1 } ∧ t.flc = s.flc ∧ t.sdc.marker = false) ∧
        (w.follow ≤ w.pos + 1 → t.window = some { w with probing := true, pos := 0 } ∧ t.drivenHead = w.head ∧
          t.sdc.marker = true)) ∧
    (w.probing = true → s.drivenHead = w.head → w.used < w.size → w.miss + 1 + w.wild ≤ w.size / 4 → w.miss < 65535 →
      ∃ t, exec .slotEndMiss s = .next t ∧ t.now = max s.now d ∧ t.pos = s.pos ∧
        (w.pos + 1 < w.visit → t.window = some { w with pos := w.pos + 1, miss := w.miss + 1 } ∧ t.flc = s.flc ∧
          t.sdc.marker = false) ∧
        (w.visit ≤ w.pos + 1 → t.window = some { w with probing := false, pos := 0, miss := w.miss + 1 } ∧
          t.drivenHead = s.prof.anchor ∧ t.sdc.marker = true))

/-- RECOVERY enters nothing; MISS, WILD and WEAK add one to their counts, saturating at 65,535; a GOOD record within 127
tracks of the target adds one to used, its unwrapped reading to sum_v and E + O to sum_amp; farther away it adds one
to wild. Completion comes when used reaches W; poor servo when it has not and miss + wild exceeds floor(W/4). (R50,
R51, R52, R53, R54.) -/
def Obligations.WindowEntriesByClass : Prop :=
  ∀ (w : Window) (head : Nat) (mark : Option Mark) (m : Mark) (p : Int) (slip : Bool),
    w.enter { head := head, mark := mark, cls := .recovery, pes := p, slip := slip } = w ∧
    w.enter { head := head, mark := mark, cls := .miss, pes := p, slip := slip } = { w with miss := min 65535 (w.miss + 1) } ∧
    w.enter { head := head, mark := mark, cls := .wild, pes := p, slip := slip } = { w with wild := min 65535 (w.wild + 1) } ∧
    w.enter { head := head, mark := mark, cls := .weak, pes := p, slip := slip } = { w with weak := min 65535 (w.weak + 1) } ∧
    (((m.track : Int) - w.track).natAbs ≤ 127 →
      w.enter { head := head, mark := some m, cls := .good, pes := p, slip := slip } =
        { w with
          used := w.used + 1, sumV := w.sumV + (((m.track : Int) - w.track) * 16384 + p)
          sumAmp := w.sumAmp + (m.e + m.o) }) ∧
    (127 < ((m.track : Int) - w.track).natAbs →
      w.enter { head := head, mark := some m, cls := .good, pes := p, slip := slip } =
        { w with wild := min 65535 (w.wild + 1) }) ∧
    (w.entryEnding = some .complete ↔ w.size ≤ w.used) ∧
    (w.entryEnding = some .poorServo ↔ w.used < w.size ∧ w.size / 4 < w.miss + w.wild)

/-- For a positive divisor, the rounded quotient has the magnitude of the whole quotient of the magnitudes, raised by one
when twice the remainder reaches the divisor, with the sign of the numerator. The split of D has whole tracks q or its
negation, less one where a negative D leaves a remainder, and a fraction of 0 to 16,383 that with the whole tracks
gives D again. (R63.) -/
def Obligations.RoundingAndSplitOfR63 : Prop :=
  (∀ (n : Int) (d : Nat), 0 < d →
    (roundDiv n d).natAbs = n.natAbs / d + (if d ≤ 2 * (n.natAbs % d) then 1 else 0) ∧
    (0 ≤ n → 0 ≤ roundDiv n d) ∧ (n ≤ 0 → roundDiv n d ≤ 0)) ∧
  (∀ d : Int,
    (0 ≤ d → wholeTracks d = (d.natAbs / 16384 : Nat) ∧ fractionOf d = d.natAbs % 16384) ∧
    (d < 0 → d.natAbs % 16384 = 0 → wholeTracks d = -(d.natAbs / 16384 : Nat) ∧ fractionOf d = 0) ∧
    (d < 0 → d.natAbs % 16384 ≠ 0 →
      wholeTracks d = -(d.natAbs / 16384 : Nat) - 1 ∧ fractionOf d = 16384 - d.natAbs % 16384) ∧
    fractionOf d ≤ 16383 ∧ wholeTracks d * 16384 + fractionOf d = d)

/-- With jog points o1 above o2 and gain limits of 64 to 1024, the gain is 256 x (V1 - V2) / (o1 - o2) rounded; outside
the limits the result is FAULT GAIN_RANGE. Otherwise D is 256 x V0 / g rounded, V0 being V2 plus (V1 - V2) x (0 - o2)
/ (o1 - o2) rounded; beyond 2,080,768 the result is FAULT OFFSET_RANGE; otherwise it is OK with D, its split, g, the
means and the jog points, and the whole tracks lie in -127 to 127. (R63, R66, R67, R68, R69, R70, R71.) -/
def Obligations.SpanFiguresAndTheirLimits : Prop :=
  ∀ (p : Profile) (first second : WindowReport) (v1 v2 g d : Int),
    first.mean = some v1 → second.mean = some v2 → second.window.offset < first.window.offset →
    64 ≤ p.gainMinQ8 → p.gainMaxQ8 ≤ 1024 →
    g = roundDiv (256 * (v1 - v2)) (first.window.offset - second.window.offset).toNat →
    d = roundDiv
      (256 * (v2 + roundDiv ((v1 - v2) * (0 - second.window.offset)) (first.window.offset - second.window.offset).toNat))
      g.toNat →
    (g < p.gainMinQ8 ∨ (p.gainMaxQ8 : Int) < g → spanComputation p first second = .fault .gainRange) ∧
    ((p.gainMinQ8 : Int) ≤ g → g ≤ p.gainMaxQ8 → 2080768 < d.natAbs →
      spanComputation p first second = .fault .offsetRange) ∧
    ((p.gainMinQ8 : Int) ≤ g → g ≤ p.gainMaxQ8 → d.natAbs ≤ 2080768 →
      ∃ (dt : Int) (df : Nat), -127 ≤ dt ∧ dt ≤ 127 ∧ df ≤ 16383 ∧ dt * 16384 + df = d ∧
        spanComputation p first second =
          .ok { d := d, dt := dt, df := df, g := g, v1 := v1, v2 := v2, o1 := first.window.offset
                o2 := second.window.offset })

/-- For a COMPLETE window with used sectors, the amplitude mean, the weak and the miss per mille are the rounded quotients
of R74; the result is FAIL AMPLITUDE below AMP_MIN, else FAIL WEAK above WEAK_MAX_PM, else FAIL MISS above
MISS_MAX_PM, else PASS. POOR_SERVO gives FAIL MISS and TIMEOUT gives FAIL TIMEOUT. The result carries the three
figures in every case. (R63, R74, R75, R76.) -/
def Obligations.QualificationVerdictInOrder : Prop :=
  ∀ (p : Profile) (r : WindowReport) (a wk ms : Nat), 0 < r.window.used →
    (a : Int) = roundDiv r.window.sumAmp r.window.used →
    (wk : Int) = roundDiv (1000 * r.window.weak : Nat) (r.window.used + r.window.weak) →
    (ms : Int) = roundDiv (1000 * r.window.miss : Nat)
      (r.window.used + r.window.weak + r.window.miss + r.window.wild) →
    (r.ending = .complete →
      (a < p.ampMin → qualification p r = some (.fail .amplitude { amp := some a, weak := some wk, miss := some ms })) ∧
      (p.ampMin ≤ a → p.weakMaxPm < wk →
        qualification p r = some (.fail .weak { amp := some a, weak := some wk, miss := some ms })) ∧
      (p.ampMin ≤ a → wk ≤ p.weakMaxPm → p.missMaxPm < ms →
        qualification p r = some (.fail .miss { amp := some a, weak := some wk, miss := some ms })) ∧
      (p.ampMin ≤ a → wk ≤ p.weakMaxPm → ms ≤ p.missMaxPm →
        qualification p r = some (.pass { amp := some a, weak := some wk, miss := some ms }))) ∧
    (r.ending = .poorServo →
      qualification p r = some (.fail .miss { amp := some a, weak := some wk, miss := some ms })) ∧
    (r.ending = .timeout →
      qualification p r = some (.fail .timeout { amp := some a, weak := some wk, miss := some ms }))

/-- With at least one good gate of each head and a period of at least one tick, let k be 4096 x S x (sum_h x R_a - sum_a x
R_h) over R_a x R_h x N_rev, rounded half away from zero: 2 x |k x R_a x R_h x N_rev - numerator| is at most the
divisor. Within -16,383 to 16,383 the result is k and not SATURATED; beyond either bound it is that bound and
SATURATED. (R63, R95, R96.) -/
def Obligations.SkewIsRoundedAndClamped : Prop :=
  ∀ (sectors nRev ra rh sumA sumH : Nat), 0 < ra → 0 < rh → 0 < nRev →
    ∃ k : Int,
      2 * (k * (ra * rh * nRev : Nat) - 4096 * sectors * ((sumH : Int) * ra - (sumA : Int) * rh)).natAbs ≤ ra * rh * nRev ∧
      k = roundDiv (4096 * sectors * ((sumH : Int) * ra - (sumA : Int) * rh)) (ra * rh * nRev) ∧
      (-16383 ≤ k → k ≤ 16383 →
        skewComputation sectors nRev ra rh sumA sumH =
          .ok { skew := k, ra := ra, rh := rh, nRev := nRev, saturated := false }) ∧
      (16383 < k →
        skewComputation sectors nRev ra rh sumA sumH =
          .ok { skew := 16383, ra := ra, rh := rh, nRev := nRev, saturated := true }) ∧
      (k < -16383 →
        skewComputation sectors nRev ra rh sumA sumH =
          .ok { skew := -16383, ra := ra, rh := rh, nRev := nRev, saturated := true })

/-- With a skew measurement under way in a phase whose gate the RUNNING job awaits (PERIOD; GATE_A; GATE_P with the
probe selected) and that gate COUNTING: in CHAINED mode GATE_U_OVERFLOW answers a next state 4,294,967,296 ticks after
counting began, in SPLIT mode GATE_L_OVERFLOW one 65,536 ticks after. The last ending record is OVERRANGE with that
stage, no value, and for SPLIT the marks counted; the overflow indication names the stage, and the tally is discarded
with the anchor selected. With retries left the head-zone has one more retry used and starts again from PREPARE, which
the actuator in FOLLOWING on the zone's track leads at once to a CHAINED gate ARMED anew, its stages and indication
kept; with none left, at the only head-zone of the only job, the skew entry is FAULT OVERRANGE and the job has finished
DONE_PARTIAL. That both stages stand at 65,535 after a CHAINED gate, and stage L after a SPLIT gate, is the model's
choice: no rule says what a stage shows after OVERRANGE (log 29). (R79, R81, R83, R85, R88, R92, R94, R103, R116, R117;
log 29.) -/
def Obligations.GateOverflowsEndOverrange : Prop :=
  ∀ (s : State) (j : Job) (c : Cursor) (f : Figures) (head zone : Nat) (p : Phase),
    SkewUnderWay s j c f head zone p → s.awaitsGate → s.gcu.state = .counting →
    (p = .period → s.jct.ctx.probe = false → s.gcu.mode = .chained →
      ∃ t, exec .gateUOverflow s = .next t ∧ t.now = max s.now (s.gcu.start + 4294967296) ∧ OverrangeTaken s j c head zone t ∧
        t.gcu.stageL = 65535 ∧ t.gcu.stageU = 65535 ∧ t.gcu.overflow = some .u ∧
        (c.retries < s.prof.retries → t.sdc = s.sdc ∧ t.flc = s.flc) ∧
        t.gcu.last = some
          { ending := .overrange, abortCause := none, mode := .chained, head := s.gcu.head, value := none
            closedBy := none, marks := none, overflowed := some .u }) ∧
    ((p = .gateA ∧ s.jct.ctx.probe = false) ∨ (p = .gateP ∧ s.jct.ctx.probe = true) → s.gcu.mode = .split →
      ∃ t, exec .gateLOverflow s = .next t ∧ t.now = max s.now (s.gcu.start + 65536) ∧ OverrangeTaken s j c head zone t ∧
        t.gcu.stageL = 65535 ∧ t.gcu.stageU = s.gcu.stageU ∧ t.gcu.overflow = some .l ∧
        (p = .gateA → c.retries < s.prof.retries → t.sdc = s.sdc ∧ t.flc = s.flc) ∧
        (p = .gateP → c.retries < s.prof.retries → t.flc = { s.flc with engineHead := s.prof.anchor } ∧ t.sdc = { s.sdc with marker := t.sdc.marker } ∧
          (s.drivenHead ≠ t.drivenHead → t.sdc.marker = true)) ∧
        t.gcu.last = some
          { ending := .overrange, abortCause := none, mode := .split, head := s.gcu.head, value := none
            closedBy := none, marks := some s.gcu.stageU, overflowed := some .l })

/-- With a skew measurement under way. An INDEX_ARRIVAL within the speed tolerance makes an ARMED gate that the job
awaits COUNTING from its tick, with stages 0 and the overflow indication clear, and leaves a COUNTING SPLIT gate as it
is; in PERIOD it ends a COUNTING CHAINED gate CLOSED by the index with the ticks since its start as the value, which U x
65,536 + L carries, N_rev is that value, and the anchor's SPLIT gate is ARMED for GATE_A; in GATE_P before the switch
point the pair is done without a probe gate. A SLOT_END_MARK at tick n on the gate head of a COUNTING SPLIT gate, the
recovery marker clear and the sector below S: sector 0 ends it CLOSED by the mark with the ticks since its start and the
marks counted; any other sector adds one mark, and the third ends it MISSED. CLOSED adds the value to the head's sum and
one to its good gates, MISSED nothing. After GATE_A comes GATE_P with the gate IDLE, also where the record that ended
the gate leaves the expectation at S - 1: that it is not itself the switch point is the model's reading (log 31). After
GATE_P the anchor is selected and the pair is done: while pairs are left the anchor's gate is ARMED for GATE_A; after
the last, fewer than ceil(R/2) good gates of either head are the failure SKEW_MISS, a retry or with the retries spent
the entry, and otherwise the entry is the skew computation's. The slot of the anchor after which the expected sector is
S - 1, taken here as a miss of sector S - 2, is the switch point: the probe head is selected and its SPLIT gate ARMED.
The ticks of mark and index are those of log 3. For a record of the anchor, the record leaves the actuator FOLLOWING.
(R79, R80, R81, R82, R85, R88, R89, R91, R92, R94; log 3, log 31.) -/
def Obligations.GatesBeginAtTheIndexAndClose : Prop :=
  ∀ (s : State) (j : Job) (c : Cursor) (f : Figures) (head zone : Nat) (p : Phase) (y : Tally) (sector : BitVec 10)
      (code : BitVec 18) (e o : BitVec 12) (ref ticks n d : Nat),
    SkewUnderWay s j c f head zone p → y = s.jct.ctx.tally →
    (s.pos.indexRef = some ref → n = ref + ticks → ticks ≤ 4 * s.prof.nRevNom →
      ((ticks : Int) - s.prof.nRevNom).natAbs * 1000 ≤ s.prof.speedTolPm * s.prof.nRevNom →
      (s.awaitsGate → p = .period ∨ p = .gateA ∨ (p = .gateP ∧ s.jct.ctx.probe = true) →
        (s.gcu.state = .armed →
          ∃ t, exec (.indexArrival ticks) s = .next t ∧ SkewGoesOn s j c p y t ∧
            t.gcu = { s.gcu with state := .counting, stageL := 0, stageU := 0, overflow := none, start := n }) ∧
        (s.gcu.state = .counting → s.gcu.mode = .split →
          ∃ t, exec (.indexArrival ticks) s = .next t ∧ SkewGoesOn s j c p y t ∧ t.gcu = s.gcu)) ∧
      (s.awaitsGate → p = .period → s.gcu.state = .counting → s.gcu.mode = .chained → n - s.gcu.start ≤ 4294967295 →
        ∃ t, exec (.indexArrival ticks) s = .next t ∧
          SkewGoesOn s j c .gateA { y with nRev := some (n - s.gcu.start) } t ∧ t.gcu.armedSplit s.prof.anchor ∧
          t.awaitsGate ∧ t.gcu.stageU * 65536 + t.gcu.stageL = n - s.gcu.start ∧ t.gcu.stageL ≤ 65535 ∧
          t.gcu.last = some
            { ending := .closed, abortCause := none, mode := .chained, head := s.gcu.head
              value := some (n - s.gcu.start), closedBy := some .index, marks := none, overflowed := none }) ∧
      (p = .gateP → s.jct.ctx.probe = false → s.gcu.state = .idle → y.pairs + 1 < f.r →
        ∃ t, exec (.indexArrival ticks) s = .next t ∧ SkewGoesOn s j c .gateA { y with pairs := y.pairs + 1 } t ∧
          t.gcu.armedSplit s.prof.anchor ∧ t.awaitsGate ∧ t.gcu.last = s.gcu.last) ∧
      (p = .gateP → s.jct.ctx.probe = false → s.gcu.state = .idle → f.r ≤ y.pairs + 1 →
        ∃ t, exec (.indexArrival ticks) s = .next t ∧ PairsDone s j c f head zone y t)) ∧
    (s.sdc.slotDue.isSome = true → s.awaitsGate → s.gcu.state = .counting → s.gcu.mode = .split →
      s.gcu.head = some s.drivenHead → s.sdc.marker = false → sector.toNat < s.prof.sectors →
      n = s.pos.indexRef.getD s.now + ticks → n - s.gcu.start ≤ 65535 →
      (p = .gateA ∧ s.drivenHead = s.prof.anchor ∧ s.pos.otRun + 1 < s.prof.otCount ∧ s.pos.lossRun < 3) ∨
        (p = .gateP ∧ s.jct.ctx.probe = true ∧ s.drivenHead ≠ s.prof.anchor) →
      (sector.toNat ≠ 0 → s.gcu.stageU < 2 →
        ∃ t, exec (.slotEndMark sector code e o ticks) s = .next t ∧ SkewGoesOn s j c p y t ∧
          t.gcu = { s.gcu with stageU := s.gcu.stageU + 1 }) ∧
      (sector.toNat = 0 ∨ s.gcu.stageU = 2 →
        ∃ t, exec (.slotEndMark sector code e o ticks) s = .next t ∧
          t.gcu.last = some (if sector.toNat = 0 then
              { ending := .closed, abortCause := none, mode := .split, head := s.gcu.head
                value := some (n - s.gcu.start), closedBy := some .mark, marks := some s.gcu.stageU, overflowed := none }
            else
              { ending := .missed, abortCause := none, mode := .split, head := s.gcu.head
                value := none, closedBy := none, marks := some 3, overflowed := none }) ∧
          t.gcu.stageL = n - s.gcu.start ∧ t.gcu.stageU = (if sector.toNat = 0 then s.gcu.stageU else 3) ∧
          (p = .gateA → t.gcu.state = .idle ∧ t.flc = s.flc ∧
            SkewGoesOn s j c .gateP
              (if sector.toNat = 0 then { y with ra := y.ra + 1, sumA := y.sumA + (n - s.gcu.start) } else y) t) ∧
          (p = .gateP → t.flc = { s.flc with engineHead := s.prof.anchor } ∧
            (y.pairs + 1 < f.r → t.gcu.armedSplit s.prof.anchor ∧ t.awaitsGate ∧
              SkewGoesOn s j c .gateA
                (if sector.toNat = 0 then
                  { y with pairs := y.pairs + 1, rh := y.rh + 1, sumH := y.sumH + (n - s.gcu.start) }
                else { y with pairs := y.pairs + 1 }) t) ∧
            (f.r ≤ y.pairs + 1 →
              PairsDone s j c f head zone
                (if sector.toNat = 0 then { y with rh := y.rh + 1, sumH := y.sumH + (n - s.gcu.start) } else y) t)))) ∧
    (p = .gateP → s.jct.ctx.probe = false → s.gcu.state = .idle → s.sdc.slotDue = some d →
      s.sdc.expect = some (s.prof.sectors - 2) → 2 ≤ s.prof.sectors → s.pos.lossRun < 3 → s.flc.selectBench = false →
      s.drivenHead = s.prof.anchor → head ≠ s.prof.anchor →
      ∃ t, exec .slotEndMiss s = .next t ∧ SkewGoesOn s j c .gateP y t ∧ t.gcu.armedSplit head ∧ t.awaitsGate ∧
        t.gcu.last = s.gcu.last ∧ t.jct.ctx.probe = true ∧ t.drivenHead = head ∧ t.sdc.marker = true)

/-- With the link ready and a payload that fits a frame, the first failing check of R100 refuses the request with the
payload offset of the field, or FULL; nothing but the JOB_REQ reload changes. With none failing the record is the one
R99, R101 and R102 make of the payload: QUEUED with no reasons, counts or first fault, heads without repeats in the
order of first appearance, zones ascending, the first appearance of each option clamped with its indication, DUPLICATES
where any list repeats, and the first id counting upward from the next-id counter that no record holds, which the
counter then passes; the ACK carries the id and the indications. With a start condition of R106 failing the record waits
at the end of the job table and nothing else changes. With an empty table, both line groups engine-owned, the level not
HOT, the spindle STOPPED and a first head that is measured, the job is RUNNING in PREPARE at its first head-zone with
its figures resolved, the JOG clamped indication set too where J is reduced for SPAN and SKEW alike (log 19), and has
ordered the spin-up of its attempt; the ACK is as the submission left the record (log 14). Started so, a SPAN or SKEW
job of the anchor alone, at one zone and not excluded, is measured nowhere: in the same arrival, whatever spindle and
actuator do, its entry there is REFERENCE and it has finished DONE with reference count 1, no gate armed. (R65, R72,
R97, R99, R100, R101, R102, R106, R107, R117; log 14, log 19.) -/
def Obligations.JobSubmitChecksAndQueues : Prop :=
  ∀ (s : State) (tag kind : Byte) (heads zones : List Byte) (options : List (Byte × Half)),
    s.LinkReady → 4 + heads.length + zones.length + 3 * options.length ≤ 240 →
    (2 < kind.toNat →
      exec (.jobSubmit tag kind heads zones options) s = .next ((s.reload .jobReq).refuses tag .badValue 0)) ∧
    (kind.toNat ≤ 2 →
      (heads = [] →
        exec (.jobSubmit tag kind heads zones options) s = .next ((s.reload .jobReq).refuses tag .badValue 1)) ∧
      (∀ (before : List Byte) (h : Byte) (after : List Byte), heads = before ++ h :: after →
        (∀ x ∈ before, x.toNat < s.prof.headCount) → s.prof.headCount ≤ h.toNat →
        exec (.jobSubmit tag kind heads zones options) s =
          .next ((s.reload .jobReq).refuses tag .badValue (2 + before.length))) ∧
      (heads ≠ [] → (∀ x ∈ heads, x.toNat < s.prof.headCount) →
        (zones = [] →
          exec (.jobSubmit tag kind heads zones options) s =
            .next ((s.reload .jobReq).refuses tag .badValue (2 + heads.length))) ∧
        (∀ (before : List Byte) (z : Byte) (after : List Byte), zones = before ++ z :: after →
          (∀ x ∈ before, x.toNat < s.prof.zoneCount) → s.prof.zoneCount ≤ z.toNat →
          exec (.jobSubmit tag kind heads zones options) s =
            .next ((s.reload .jobReq).refuses tag .badValue (3 + heads.length + before.length))) ∧
        (zones ≠ [] → (∀ x ∈ zones, x.toNat < s.prof.zoneCount) →
          (∀ (before : List (Byte × Half)) (x : Byte × Half) (after : List (Byte × Half)), options = before ++ x :: after →
            (∀ y ∈ before, y.1.toNat ≤ 3) → 3 < x.1.toNat →
            exec (.jobSubmit tag kind heads zones options) s =
              .next ((s.reload .jobReq).refuses tag .badValue (4 + heads.length + zones.length + 3 * before.length))) ∧
          ((∀ y ∈ options, y.1.toNat ≤ 3) →
            (8 ≤ s.jct.table.length →
              exec (.jobSubmit tag kind heads zones options) s = .next ((s.reload .jobReq).refuses tag .full 0)) ∧
            (s.jct.table.length < 8 → s.jct.finished.length ≤ 8 → 1 ≤ s.jct.nextId → s.jct.nextId ≤ 255 →
              s.prof.zoneCount ≤ 24 →
              (s.active.isSome = true ∨ s.flc.selectBench = true ∨ s.flc.spindleBench = true ∨ s.chm.level = .hot →
                ∃ j : Job, Submitted s kind heads zones options j ∧
                  exec (.jobSubmit tag kind heads zones options) s = .next (((s.reload .jobReq).setJct
                    { s.jct with
                      table := s.jct.table ++ [j], nextId := if j.id = 255 then 1 else j.id + 1 }).acks tag (submitAck j))) ∧
              (∀ (h : Byte) (hs : List Byte) (r : HeadRecord), heads = h :: hs → s.jct.table = [] →
                s.flc.selectBench = false → s.flc.spindleBench = false → s.chm.level ≠ .hot → s.pos.spindle = .stopped →
                s.hmp.working[h.toNat]? = some r → r.excluded = false →
                kind.toNat = 0 ∨ (h.toNat ≠ s.prof.anchor ∧ r.derived = .qualified) →
                ∃ (t : State) (j : Job) (f : Figures), exec (.jobSubmit tag kind heads zones options) s = .next t ∧
                  Submitted s kind heads zones options j ∧ FiguresOf s.prof j f ∧
                  t.jct.table =
                    [{ j with
                       state := .running
                       cursor := some { zone := 0, head := 0, phase := .prepare, retries := 0, failedZones := 0 }
                       figures := some f
                       flags :=
                         { j.flags with
                           jog := j.flags.jog ||
                             decide (j.kind ≠ .qualify ∧ 8191 < f.centre.natAbs + j.options.jog.getD s.prof.jog) } }] ∧
                  t.jct.nextId = (if j.id = 255 then 1 else j.id + 1) ∧ t.jct.finished = s.jct.finished ∧
                  t.pos =
                    { s.pos with
                      spindle := .accelerating, inTol := 0, quietDue := none
                      spinupDue := some (s.now + s.prof.spinupMs * 200000)
                      spinMove := some { kind := .spinUp, owner := .job (s.jct.attempt + 1) } } ∧
                  t.jct.attempt = s.jct.attempt + 1 ∧ t.rtm = (s.reload .jobReq).rtm ∧ t.hmp = s.hmp ∧ t.sdc = s.sdc ∧
                  t.window = s.window ∧ t.gcu = s.gcu ∧ t.chm = s.chm ∧
                  t.blk.sending = some
                    { frame := { kind := 0x80, tag := tag, payload := submitAck j }, isReply := true, reset := false
                      due := s.now + 7000 }) ∧
              (∀ (h z : Byte) (r : HeadRecord), heads = [h] → zones = [z] → 1 ≤ kind.toNat → h.toNat = s.prof.anchor →
                s.jct.table = [] → s.flc.selectBench = false → s.flc.spindleBench = false → s.chm.level ≠ .hot →
                s.hmp.working[h.toNat]? = some r → r.excluded = false →
                ∃ (t : State) (j : Job) (f : Figures), exec (.jobSubmit tag kind heads zones options) s = .next t ∧
                  Submitted s kind heads zones options j ∧ FiguresOf s.prof j f ∧
                  EndedWith s
                    { j with
                      flags :=
                        { j.flags with
                          jog := j.flags.jog || decide (8191 < f.centre.natAbs + j.options.jog.getD s.prof.jog) } }
                    h.toNat z.toNat (if kind.toNat = 1 then .span .reference else .skew .reference) t ∧
                  t.jct.nextId = (if j.id = 255 then 1 else j.id + 1) ∧ t.gcu = s.gcu ∧ t.chm = s.chm ∧
                  t.blk.sending = some
                    { frame := { kind := 0x80, tag := tag, payload := submitAck j }, isReply := true, reset := false
                      due := s.now + 7000 }))))))

/-- With a rest timer running. With the link ready, JOB_SUSPEND of the RUNNING job answers a next state in which it is
SUSPENDED with BENCH in its reason set, its measurement ended, JOB_HELD pending, the Positioner unchanged. JOB_RESUME of
a job held by BENCH alone, with the spindle BRAKING so that it waits in PREPARE, makes it RUNNING from PREPARE with
retries used 0; held by another reason too, it stays SUSPENDED. A JOB_SUSPEND of a job holding BENCH, and a JOB_RESUME
of one not holding it, change nothing. Another held id is refused NOT_ACTIVE, any other NOT_FOUND. Each ACK carries
state and reason set as they stand (log 14). That the reply is in transmission although its own request makes JOB_HELD
pending is the model's reading of an order that R187 does not fix (log 13). The arrival at OFF_SPEED by a silent index
adds SPINDLE to the reasons of the only, active job and starts the recovery deadline, or with SPEED_RECOVER_MS at 0
finishes it FAILED with reason SPINDLE; a RUNNING job is SUSPENDED with its measurement ended and JOB_HELD pending, and
a reason already held is not added nor the deadline restarted. The arrival at AT_SPEED while the deadline runs takes the
reason out and cancels the deadline: with another reason left the job stays SUSPENDED; with none it is RUNNING from
PREPARE with a new attempt and retries used 0, waiting for PARKED in UNLOADING and ordering a load in PARKED. (R98,
R105, R108, R118, R119, R120, R121, R158, R187; log 13, log 14.) -/
def Obligations.SuspendAndResumeMoveTheBenchReason : Prop :=
  ∀ (s : State) (tag id : Byte) (j : Job) (c : Cursor) (d ref ticks : Nat),
    s.rtm.a.isRunning = true ∨ s.rtm.b.isRunning = true →
    (s.LinkReady →
    (∀ j, s.active = some j → j.id = id.toNat →
      (j.state = .running → j.reasons.bench = false →
        ∃ t, exec (.jobSuspend tag id) s = .next t ∧
          t.active = some { j with state := .suspended, reasons := { j.reasons with bench := true } } ∧
          t.running = none ∧ t.window = none ∧ t.jct.ctx = {} ∧ t.blk.events.jobHeld = true ∧ t.pos = s.pos ∧
          t.hmp = s.hmp ∧ t.chm = s.chm ∧ t.jct.finished = s.jct.finished ∧ t.rtm = (s.reload .jobReq).rtm ∧
          (s.runningPhase = some .period ∨ s.runningPhase = some .gateA ∨ s.runningPhase = some .gateP →
            t.gcu.state = .idle) ∧
          t.blk.sending = some
            { frame := { kind := 0x80, tag := tag, payload := [2, byteOf (1 + (if j.reasons.thermal then 2 else 0) +
                if j.reasons.spindle then 4 else 0)] }, isReply := true, reset := false, due := s.now + 7000 }) ∧
      (j.reasons.bench = true →
        exec (.jobSuspend tag id) s = .next ((s.reload .jobReq).acks tag [byteOf j.state.code, j.reasons.byte])) ∧
      (j.reasons.bench = false →
        exec (.jobResume tag id) s = .next ((s.reload .jobReq).acks tag [byteOf j.state.code, j.reasons.byte])) ∧
      (j.reasons.bench = true → j.state = .suspended →
        (j.reasons.thermal = true ∨ j.reasons.spindle = true →
          ∃ t, exec (.jobResume tag id) s = .next t ∧
            t.active = some { j with reasons := { j.reasons with bench := false } } ∧ t.running = none ∧
            t.pos = s.pos ∧ t.window = s.window ∧ t.hmp = s.hmp) ∧
        (j.reasons.thermal = false → j.reasons.spindle = false → s.pos.spindle = .braking →
          ∃ t, exec (.jobResume tag id) s = .next t ∧
            t.running = some
              { j with
                state := .running, reasons := {}
                cursor := j.cursor.map fun c => { c with phase := .prepare, retries := 0 } } ∧
            t.pos = s.pos ∧ t.window = s.window ∧ t.hmp = s.hmp ∧
            t.blk.sending = some
              { frame := { kind := 0x80, tag := tag, payload := [1, 0] }, isReply := true, reset := false
                due := s.now + 7000 }))) ∧
    ((∀ j, s.active = some j → j.id ≠ id.toNat) →
      ((∃ j ∈ s.jct.table, j.id = id.toNat) ∨ (∃ f ∈ s.jct.finished, f.id = id.toNat) →
        exec (.jobSuspend tag id) s = .next ((s.reload .jobReq).refuses tag .notActive 0) ∧
        exec (.jobResume tag id) s = .next ((s.reload .jobReq).refuses tag .notActive 0)) ∧
      ((∀ j ∈ s.jct.table, j.id ≠ id.toNat) → (∀ f ∈ s.jct.finished, f.id ≠ id.toNat) →
        exec (.jobSuspend tag id) s = .next ((s.reload .jobReq).refuses tag .notFound 0) ∧
        exec (.jobResume tag id) s = .next ((s.reload .jobReq).refuses tag .notFound 0)))) ∧
    (s.inbox = [] → s.pos.spindle = .atSpeed → s.pos.silenceDue = some d → s.pos.spinDownPending = false →
      s.jct.table = [j] → j.state = .running ∨ j.state = .suspended →
      (j.reasons.spindle = false → s.prof.speedRecoverMs ≠ 0 →
        ∃ t, exec .indexSilenceExpiry s = .next t ∧ t.pos.spindle = .offSpeed ∧
          t.jct.table = [{ j with state := .suspended, reasons := { j.reasons with spindle := true } }] ∧
          t.jct.recoverDue = some (max s.now d + s.prof.speedRecoverMs * 200000) ∧
          (j.state = .running → t.window = none ∧ t.jct.ctx = {} ∧ t.blk.events.jobHeld = true) ∧
          t.hmp = s.hmp ∧ t.jct.finished = s.jct.finished) ∧
      (j.reasons.spindle = false → s.prof.speedRecoverMs = 0 →
        ∃ t, exec .indexSilenceExpiry s = .next t ∧ t.pos.spindle = .offSpeed ∧ JobFailed s j .spindle t) ∧
      (j.reasons.spindle = true → j.state = .suspended →
        ∃ t, exec .indexSilenceExpiry s = .next t ∧ t.pos.spindle = .offSpeed ∧ t.jct.table = s.jct.table ∧
          t.jct.recoverDue = s.jct.recoverDue)) ∧
    (s.inbox = [] → s.pos.spindle = .offSpeed → s.pos.spinDownPending = false → s.pos.indexRef = some ref →
      ticks ≤ 4 * s.prof.nRevNom → ((ticks : Int) - s.prof.nRevNom).natAbs * 1000 ≤ s.prof.speedTolPm * s.prof.nRevNom →
      3 ≤ s.pos.inTol → s.jct.recoverDue.isSome = true → s.jct.table = [j] → j.state = .suspended →
      j.reasons.spindle = true →
      (j.reasons.bench = true ∨ j.reasons.thermal = true →
        ∃ t, exec (.indexArrival ticks) s = .next t ∧ t.pos.spindle = .atSpeed ∧ t.jct.recoverDue = none ∧
          t.jct.table = [{ j with reasons := { j.reasons with spindle := false } }] ∧ t.hmp = s.hmp) ∧
      (j.reasons.bench = false → j.reasons.thermal = false → j.cursor = some c → j.figures.isSome = true →
        c.head < j.heads.length → c.zone < j.zones.length →
        s.pos.act = .unloading ∨ (s.pos.act = .parked ∧ s.flc.selectBench = false ∧ s.preampView = .inactive) →
        ∃ t, exec (.indexArrival ticks) s = .next t ∧ t.pos.spindle = .atSpeed ∧ t.jct.recoverDue = none ∧
          t.running = some { j with state := .running, reasons := {}, cursor := some { c with phase := .prepare, retries := 0 } } ∧
          t.jct.attempt = s.jct.attempt + 1 ∧ t.hmp = s.hmp ∧
          (s.pos.act = .unloading → t.pos.act = .unloading ∧ t.jct.ctx.waits = some .parked) ∧
          (s.pos.act = .parked → t.pos.act = .loading ∧ t.jct.ctx.waits = some .loaded ∧
            t.pos.actMove = some { kind := .load, owner := .job (s.jct.attempt + 1) })))

/-- With a rest timer running. JOB_CANCEL, the link ready, of a QUEUED job beside an active one, or with none active and
either no other job or a start condition of R106 that fails, removes its record, which joins the finished list CANCELLED
with its counts and first fault; of the only job, active, it also closes the window and empties the context.
SPINDLE_RECOVERY_EXPIRY with its deadline running finishes the only, active job FAILED with reason SPINDLE and cancels
the deadline. In each JOB_END is pending, the Positioner and the captured entries are unchanged, and the finished list
keeps the latest 8. A finished id is refused NOT_ACTIVE, an unknown one NOT_FOUND. That the reply is in transmission
although the finish makes JOB_END pending is the model's reading of an order that R187 does not fix (log 13).
PREAMP_FAULT_CHANGE to ACTIVE with the heads loaded, seen by the engine, finishes the only, active job, RUNNING or
SUSPENDED, FAILED with reason PREAMP in the arrival that unloads the heads; in PARKED and UNLOADING it leaves the job as
it is, and a RUNNING job in PREPARE fails so when the heads arrive at PARKED with the fault active, its load being
refused PREAMP. LOAD_MS_EXPIRY of a load that a RUNNING job in PREPARE awaits finishes it FAILED with reason LOAD_FAIL.
(R38, R103, R106, R108, R109, R121, R122, R123, R160, R187; log 13.) -/
def Obligations.CancelAndRecoveryFinishJobs : Prop :=
  ∀ (s : State) (tag id : Byte) (j : Job) (c : Cursor) (f : Figures) (head zone n : Nat),
    s.rtm.a.isRunning = true ∨ s.rtm.b.isRunning = true →
    (s.LinkReady → s.jct.table.find? (fun x => x.id == id.toNat) = some j →
      (j.state = .queued →
        (∃ a, s.active = some a ∧ a.id ≠ j.id) ∨
          (s.active = none ∧ (s.jct.table = [j] ∨ s.flc.selectBench = true ∨ s.flc.spindleBench = true ∨ s.chm.level = .hot)) →
        ∃ t, exec (.jobCancel tag id) s = .next t ∧ t.jct.table = s.jct.table.filter (fun x => x.id != j.id) ∧
          t.jct.finished = withFinished s.jct.finished
            { id := j.id, kind := j.kind, final := .cancelled, reason := none, counts := j.counts, first := j.first
              flags := j.flags, read := false } ∧
          t.active = s.active ∧ t.window = s.window ∧ t.gcu = s.gcu ∧ t.pos = s.pos ∧ t.hmp = s.hmp ∧
          t.blk.events.jobEnd = true ∧
          t.blk.sending = some
            { frame := { kind := 0x80, tag := tag, payload := [id, 3] }, isReply := true, reset := false
              due := s.now + 7000 }) ∧
      (j.state ≠ .queued → s.jct.table = [j] →
        ∃ t, exec (.jobCancel tag id) s = .next t ∧ t.jct.table = [] ∧
          t.jct.finished = withFinished s.jct.finished
            { id := j.id, kind := j.kind, final := .cancelled, reason := none, counts := j.counts, first := j.first
              flags := j.flags, read := false } ∧
          t.jct.ctx = {} ∧ t.jct.recoverDue = none ∧ t.window = none ∧ t.pos = s.pos ∧ t.hmp = s.hmp ∧
          t.blk.events.jobEnd = true)) ∧
    (s.LinkReady → s.jct.table.find? (fun x => x.id == id.toNat) = none →
      ((∃ f ∈ s.jct.finished, f.id = id.toNat) →
        exec (.jobCancel tag id) s = .next ((s.reload .jobReq).refuses tag .notActive 0)) ∧
      ((∀ f ∈ s.jct.finished, f.id ≠ id.toNat) →
        exec (.jobCancel tag id) s = .next ((s.reload .jobReq).refuses tag .notFound 0))) ∧
    (∀ d, s.inbox = [] → s.jct.recoverDue = some d → s.jct.table = [j] → j.state = .suspended →
      ∃ t, exec .spindleRecoveryExpiry s = .next t ∧ t.now = max s.now d ∧ t.jct.table = [] ∧ t.jct.recoverDue = none ∧
        t.jct.finished = withFinished s.jct.finished
          { id := j.id, kind := j.kind, final := .failed, reason := some .spindle, counts := j.counts, first := j.first
            flags := j.flags, read := false } ∧
        t.pos = s.pos ∧ t.hmp = s.hmp ∧ t.blk.events.jobEnd = true) ∧
    (s.inbox = [] → s.flc.senseBench = false → s.flc.livePreamp = .inactive → s.jct.table = [j] → j.state ≠ .queued →
      (s.pos.act.isLoaded = true →
        ∃ t, exec (.preampFaultChange .active) s = .next t ∧ JobFailed s j .preamp t ∧ t.blk.events.preamp = true ∧
          t.pos.unloadCause = .preamp ∧ t.pos.act = if s.rampView = .onRamp then .parked else .unloading) ∧
      (s.pos.act.isLoaded = false →
        ∃ t, exec (.preampFaultChange .active) s = .next t ∧ t.jct = s.jct ∧ t.pos = s.pos ∧
          t.blk.events.preamp = true)) ∧
    (MeasureUnderWay s j c f head zone .prepare → s.jct.table = [j] →
      (s.pos.act = .unloading → s.pos.deadline = some { kind := .unload, due := n } → s.preampView = .active →
        s.flc.selectBench = false →
        ∃ t, exec .unloadMsExpiry s = .next t ∧ t.pos.act = .parked ∧ JobFailed s j .preamp t) ∧
      (s.pos.act = .loading ∨ s.pos.act = .acquiring → s.pos.deadline = some { kind := .load, due := n } →
        s.jct.ctx.await = some .load → s.pos.actMove = some { kind := .load, owner := .job s.jct.attempt } →
        ∃ t, exec .loadMsExpiry s = .next t ∧ JobFailed s j .loadFail t ∧ t.pos.unloadCause = .loadFail ∧
          t.pos.act = if s.rampView = .onRamp then .parked else .unloading))

/-- With the link ready, RESULT_READ by an id of the finished list, or of the oldest unread record, is answered ACK with
that record as it stood, whose read indication is then set; an id held by an unfinished job is refused BUSY with the
job's state, any other and a missing unread record NOT_FOUND. After each, JOB_END is cleared when no finished record
is unread; nothing else but the MAP_REQ reload changes. (R104, R158, R194.) -/
def Obligations.ResultReadMarksAndClears : Prop :=
  ∀ (s : State) (tag id : Byte), s.LinkReady →
    (∀ f, s.jct.finished.find? (fun x => x.id == id.toNat) = some f →
      exec (.resultRead tag 0 id) s = .next (((s.reload .mapReq).setJct
        { s.jct with finished := s.jct.finished.map fun x => if x.id = f.id then { x with read := true } else x }).lookedAt.acks
        tag f.bytes)) ∧
    (s.jct.finished.find? (fun x => x.id == id.toNat) = none →
      (∀ j, s.jct.table.find? (fun x => x.id == id.toNat) = some j →
        exec (.resultRead tag 0 id) s = .next ((s.reload .mapReq).lookedAt.refuses tag .busy j.state.code)) ∧
      (s.jct.table.find? (fun x => x.id == id.toNat) = none →
        exec (.resultRead tag 0 id) s = .next ((s.reload .mapReq).lookedAt.refuses tag .notFound 0))) ∧
    (∀ f, s.jct.finished.find? (fun x => !x.read) = some f →
      exec (.resultRead tag 1 id) s = .next (((s.reload .mapReq).setJct
        { s.jct with finished := s.jct.finished.map fun x => if x.id = f.id then { x with read := true } else x }).lookedAt.acks
        tag f.bytes)) ∧
    (s.jct.finished.find? (fun x => !x.read) = none →
      exec (.resultRead tag 1 id) s = .next ((s.reload .mapReq).lookedAt.refuses tag .notFound 0)) ∧
    (∀ f : Finished, f.bytes.length = 17)

/-- With the link ready: a head of HEAD_COUNT or above refuses BAD_VALUE, and MAP_EXCLUDE of the anchor refuses ANCHOR.
Otherwise the flag is set or cleared, the unpublished indication set where it changes, and the ACK carries the flag and
the derived state, which is UNKNOWN without qualify entries, DISQUALIFIED with a FAIL among them, else QUALIFIED, coded
0 UNKNOWN, 1 QUALIFIED, 2 DISQUALIFIED as in MAP_READ, which is the model's reading (log 18). MAP_CLEAR with a job
active refuses BUSY with its id; that it does so for a head of HEAD_COUNT or above too, which falls under two cases of
R133, is the model's order (log 25). Otherwise it empties one head's record or the whole working copy. The published
copy and the generation never change. (R130, R131, R133, R140, R158; log 18, log 25.) -/
def Obligations.MapFlagsAndClearing : Prop :=
  ∀ (s : State) (tag head : Byte) (r : HeadRecord), s.LinkReady →
    (s.prof.headCount ≤ head.toNat →
      exec (.mapExclude tag head) s = .next ((s.reload .mapReq).refuses tag .badValue 0) ∧
      exec (.mapInclude tag head) s = .next ((s.reload .mapReq).refuses tag .badValue 0)) ∧
    (head.toNat < s.prof.headCount → s.hmp.working[head.toNat]? = some r →
      (head.toNat = s.prof.anchor → exec (.mapExclude tag head) s = .next ((s.reload .mapReq).refuses tag .anchor 0)) ∧
      (head.toNat ≠ s.prof.anchor →
        exec (.mapExclude tag head) s = .next (((s.reload .mapReq).setHmp
          { s.hmp with
            working := s.hmp.working.set head.toNat { r with excluded := true }
            unpub := s.hmp.unpub || !r.excluded }).acks tag [1, byteOf r.derived.code])) ∧
      exec (.mapInclude tag head) s = .next (((s.reload .mapReq).setHmp
        { s.hmp with
          working := s.hmp.working.set head.toNat { r with excluded := false }
          unpub := s.hmp.unpub || r.excluded }).acks tag [0, byteOf r.derived.code])) ∧
    (∀ j, s.active = some j →
      exec (.mapClear tag 0 head) s = .next ((s.reload .mapReq).refuses tag .busy j.id) ∧
      exec (.mapClear tag 1 head) s = .next ((s.reload .mapReq).refuses tag .busy j.id)) ∧
    (s.active = none →
      (s.prof.headCount ≤ head.toNat →
        exec (.mapClear tag 0 head) s = .next ((s.reload .mapReq).refuses tag .badValue 1)) ∧
      (head.toNat < s.prof.headCount → s.hmp.working[head.toNat]? = some r →
        exec (.mapClear tag 0 head) s = .next (((s.reload .mapReq).setHmp
          { s.hmp with
            working := s.hmp.working.set head.toNat { excluded := false, zones := List.replicate s.prof.zoneCount {} }
            unpub := true }).acks tag [])) ∧
      exec (.mapClear tag 1 head) s = .next (((s.reload .mapReq).setHmp
        { s.hmp with working := emptyMap s.prof.headCount s.prof.zoneCount, unpub := true }).acks tag [])) ∧
    (r.derived = .unknown ↔ ∀ z ∈ r.zones, z.qualify = none) ∧
    (r.derived = .disqualified ↔ ∃ z ∈ r.zones, ∃ why f job, z.qualify = some { result := .fail why f, job := job })

/-- With the link ready: when every head of the working copy is excluded or passes the four checks of R134, the
published copy becomes the working copy, the generation the next (1 after 65,535), the unpublished indication clear, and
the ACK carries the new generation. Otherwise the request is refused PUBLISH_CHECK with the first failing check of the
walk of R135: every lower head passes, and at the head named check 1 with zone 255 when it is not QUALIFIED, else one of
checks 2 to 4 at a zone where it fails, every check at the lower zones and every earlier check at that zone passing. The
map is unchanged. (R134, R135, R136, R158.) -/
def Obligations.MapPublishChecksEveryHead : Prop :=
  ∀ (s : State) (tag : Byte), s.LinkReady →
    ((∀ r ∈ s.hmp.working, HeadPasses s.prof r) →
      exec (.mapPublish tag) s = .next (((s.reload .mapReq).setHmp
        { working := s.hmp.working, published := s.hmp.working
          gen := if s.hmp.gen = 65535 then 1 else s.hmp.gen + 1, unpub := false }).acks tag
        (leBytes 2 (if s.hmp.gen = 65535 then 1 else s.hmp.gen + 1)))) ∧
    (¬(∀ r ∈ s.hmp.working, HeadPasses s.prof r) →
      ∃ (head zone check : Nat) (r : HeadRecord),
        exec (.mapPublish tag) s = .next ((s.reload .mapReq).replies
          { kind := 0x81, tag := tag, payload := [15, byteOf check, byteOf head, byteOf zone] }) ∧
        s.hmp.working[head]? = some r ∧ ¬HeadPasses s.prof r ∧
        (∀ h' r', h' < head → s.hmp.working[h']? = some r' → HeadPasses s.prof r') ∧
        FirstFailure s.prof r zone check)

/-- In every state HEAT_TICK answers a next state at its tick, the next due 2,000,000 ticks later. H loses floor(H x
DECAY_Q8 / 256) and, with the heads loaded, gains HOLD_COST up to 65,535; the level after follows from the level before
and H by the table of R146; the pace count grows by one up to 65,535; the HOT count grows while the level is HOT with
the heads loaded and is 0 otherwise and when it reaches HOT_PARK_TICKS. A change of level is recorded with cause TICK
and makes THERMAL pending; without one the last level change is kept. With the level arriving at HOT no seek is held.
There a RUNNING job, whose reason set R98 says is empty, is taken not to hold THERMAL already: then the active job has
THERMAL in its reason set, and a RUNNING one is SUSPENDED by the same arrival with its measurement ended and JOB_HELD
pending, before any other report of the arrival (log 15). A count of HOT ticks that stands at or above HOT_PARK_TICKS,
left so by an acceptance, demands the unload at the next tick that counts; the rule leaves that open (log 41). (R98,
R118, R144, R145, R146, R147, R151, R153; log 3, log 15, log 41.) -/
def Obligations.HeatTickDecaysHoldsAndLevels : Prop :=
  ∀ (s : State) (h1 h2 : Nat), h1 = s.chm.heat - s.chm.heat * s.prof.decayQ8 / 256 →
    h2 = (if s.pos.act.isLoaded then min 65535 (h1 + s.prof.holdCost) else h1) →
    ∃ t, exec .heatTick s = .next t ∧ t.now = max s.now s.chm.nextTick ∧ t.chm.nextTick = s.chm.nextTick + 2000000 ∧
      t.chm.heat = h2 ∧ t.chm.pace = min 65535 (s.chm.pace + 1) ∧
      (s.chm.level = .cool → s.prof.hotOn ≤ h2 → t.chm.level = .hot) ∧
      (s.chm.level = .cool → h2 < s.prof.hotOn → s.prof.warmOn ≤ h2 → t.chm.level = .warm) ∧
      (s.chm.level = .cool → h2 < s.prof.hotOn → h2 < s.prof.warmOn → t.chm.level = .cool) ∧
      (s.chm.level = .warm → s.prof.hotOn ≤ h2 → t.chm.level = .hot) ∧
      (s.chm.level = .warm → h2 < s.prof.hotOn → h2 < s.prof.warmOff → t.chm.level = .cool) ∧
      (s.chm.level = .warm → h2 < s.prof.hotOn → s.prof.warmOff ≤ h2 → t.chm.level = .warm) ∧
      (s.chm.level = .hot → h2 < s.prof.warmOff → t.chm.level = .cool) ∧
      (s.chm.level = .hot → s.prof.warmOff ≤ h2 → h2 < s.prof.hotOff → t.chm.level = .warm) ∧
      (s.chm.level = .hot → s.prof.warmOff ≤ h2 → s.prof.hotOff ≤ h2 → t.chm.level = .hot) ∧
      t.chm.hot =
        (if t.chm.level = .hot ∧ s.pos.act.isLoaded = true ∧ s.chm.hot + 1 < s.prof.hotParkTicks then s.chm.hot + 1 else 0) ∧
      (t.chm.level ≠ s.chm.level →
        t.chm.last = some { before := s.chm.level, after := t.chm.level, cause := .tick } ∧ t.blk.events.thermal = true) ∧
      (t.chm.level = s.chm.level → t.chm.last = s.chm.last) ∧
      (s.inbox = [] → t.chm.level = .hot → s.chm.level ≠ .hot →
        t.pos.held = none ∧
        ((∀ j, s.running = some j → j.reasons.thermal = false) →
          t.running = none ∧
          (∀ j, s.active = some j →
            t.active = some { j with state := .suspended, reasons := { j.reasons with thermal := true } }) ∧
          (s.running.isSome = true → t.window = none ∧ t.jct.ctx = {} ∧ t.blk.events.jobHeld = true))) ∧
      t.pst = s.pst ∧ t.sdc.counters = s.sdc.counters ∧ t.hmp.published = s.hmp.published ∧ t.hmp.gen = s.hmp.gen ∧
      t.flc = { s.flc with engineHead := t.flc.engineHead }

/-- With no jobs: in WARM, FOLLOWING or SETTLING with a seek held and the pace count one below PACE_TICKS or beyond,
SEEK_PACE_RELEASE answers a next state in which the held seek is started by R32 and removed, its origin the target
before; from FOLLOWING the window is ended. In HOT with the heads loaded, the HOT count one below HOT_PARK_TICKS or
beyond and the engine view of RAMP_SENSE at OFF_RAMP, HOT_PARK_COUNT_EXPIRY answers a next state in which an unload with
cause THERMAL is under way and the HOT count is 0. That a HOT count already at HOT_PARK_TICKS or above, left so by an
acceptance, demands the unload too is the model's choice, which the rule leaves open (log 41). Each is the monitor's
share of the tick that brings the count to its bound (log 5). (R32, R33, R38, R150, R153; log 5, log 41.) -/
def Obligations.HeatCountsReleaseAndUnload : Prop :=
  ∀ (s : State) (h : HeldSeek), s.NoJobs →
    (s.chm.level = .warm → s.pos.act = .following ∨ s.pos.act = .settling → s.pos.held = some h →
      s.prof.paceTicks ≤ s.chm.pace + 1 →
      s.prof.paceTicks ≤ 65535 →
      ∃ t, exec .seekPaceRelease s = .next t ∧ t.now = s.now ∧ t.pos.act = .seeking ∧ t.pos.held = none ∧
        t.pos.target = h.track ∧ t.pos.offset = h.offset ∧ t.pos.seekOrigin = s.pos.target ∧
        t.pos.deadline = some { kind := .seek, due := s.now + s.prof.seekMs * 200000 } ∧
        t.pos.actMove = some { kind := .seek, owner := h.owner } ∧
        t.pos.lastBench = benchOutcome s.pos.lastBench s.pos.actMove (.interrupted .replaced) ∧
        (s.pos.act = .following → t.window = none) ∧ (s.pos.act = .settling → t.window = s.window) ∧
        t.chm = { s.chm with pace := min 65535 (s.chm.pace + 1) } ∧ t.pst = s.pst ∧ t.hmp = s.hmp) ∧
    (s.chm.level = .hot → s.pos.act.isLoaded = true → s.prof.hotParkTicks ≤ s.chm.hot + 1 → s.rampView = .offRamp →
      ∃ t, exec .hotParkCountExpiry s = .next t ∧ UnloadBegun (s.setChm { s.chm with hot := 0 }) .thermal t)

/-- With the link idle of reports, REST_TIMER_EXPIRY of a RUNNING timer answers a next state at its tick with that timer
EXPIRED and the other unchanged. With the other EXPIRED, the actuator FOLLOWING, no job RUNNING and the engine view of
RAMP_SENSE at OFF_RAMP an unload with cause REST is under way; with the other RUNNING, or outside FOLLOWING, or with a
job RUNNING, nothing more happens but the transmitter's start. (R38, R157, R159, R160.) -/
def Obligations.RestTimerExpiryTestsTheRestCondition : Prop :=
  ∀ (s : State) (d : Nat), s.inbox = [] →
    (s.rtm.a.due = some d →
      (s.rtm.b.due = none → s.pos.act = .following → s.running = none → s.rampView = .offRamp →
        ∃ t, exec (.restTimerExpiry .a) s = .next t ∧ UnloadBegun (s.atTick d) .rest t ∧
          t.rtm = { s.rtm with a := { s.rtm.a with due := none } }) ∧
      (s.rtm.b.due.isSome = true ∨ s.pos.act ≠ .following ∨ s.running.isSome = true →
        exec (.restTimerExpiry .a) s =
          .next ((s.setNow (max s.now d)).setRtm { s.rtm with a := { s.rtm.a with due := none } }).transmit)) ∧
    (s.rtm.b.due = some d →
      (s.rtm.a.due = none → s.pos.act = .following → s.running = none → s.rampView = .offRamp →
        ∃ t, exec (.restTimerExpiry .b) s = .next t ∧ UnloadBegun (s.atTick d) .rest t ∧
          t.rtm = { s.rtm with b := { s.rtm.b with due := none } }) ∧
      (s.rtm.a.due.isSome = true ∨ s.pos.act ≠ .following ∨ s.running.isSome = true →
        exec (.restTimerExpiry .b) s =
          .next ((s.setNow (max s.now d)).setRtm { s.rtm with b := { s.rtm.b with due := none } }).transmit))

/-- With the link ready and seven table entries: an entry above 2 refuses BAD_VALUE with its payload offset and reloads
by the table that stands. Otherwise exec answers a next state: the presets as clamped to 250..60,000 and 0..600,000 and
the table as sent; remaining counts above a new preset reduced to it, a timer of preset 0 EXPIRED, the timer that the
new table maps CONFIG_REQ to reloaded; outside FOLLOWING, and with a job RUNNING, the Positioner unchanged; and in
FOLLOWING with no job RUNNING and the ramp line at OFF_RAMP, when B was RUNNING and both timers are EXPIRED afterwards,
an unload with cause REST under way. The reply carries all of it, a timer's state as 0 RUNNING or 1 EXPIRED and the
table in the request's codes (layout of log 18, counts of log 28). That the reply is in transmission although the unload
makes MOTION pending is the model's reading of an order that R187 does not fix (log 13). (R157, R158, R160, R161, R187;
log 13, log 18, log 28.) -/
def Obligations.RestWriteReplacesPresetsAndTable : Prop :=
  ∀ (s : State) (tag : Byte) (a b : Quad) (table : List Byte) (pa pb : Nat), s.LinkReady → table.length = 7 →
    pa = max 250 (min 60000 a.toNat) → pb = min 600000 b.toNat →
    (∀ (before : List Byte) (x : Byte) (after : List Byte), table = before ++ x :: after →
      (∀ y ∈ before, y.toNat ≤ 2) → 2 < x.toNat →
      exec (.restWrite tag a b table) s = .next ((s.reload .configReq).refuses tag .badValue (8 + before.length))) ∧
    ((∀ y ∈ table, y.toNat ≤ 2) →
      s.running.isSome = true ∨ s.pos.act ≠ .following ∨ s.rampView = .offRamp →
      ∃ t, exec (.restWrite tag a b table) s = .next t ∧ t.now = s.now ∧ t.rtm.a.preset = pa ∧ t.rtm.b.preset = pb ∧
        [t.rtm.table.motionReq.code, t.rtm.table.jobReq.code, t.rtm.table.jobEnd.code, t.rtm.table.mapReq.code,
          t.rtm.table.readReq.code, t.rtm.table.lineReq.code, t.rtm.table.configReq.code] = table.map BitVec.toNat ∧
        t.rtm.a.due =
          (if t.rtm.table.configReq = .a then some (s.now + pa * 200000)
            else s.rtm.a.due.map fun d => min d (s.now + pa * 200000)) ∧
        t.rtm.b.due =
          (if pb = 0 then none
            else if t.rtm.table.configReq = .b then some (s.now + pb * 200000)
            else s.rtm.b.due.map fun d => min d (s.now + pb * 200000)) ∧
        (s.running.isSome = true ∨ s.pos.act ≠ .following → t.pos = s.pos) ∧
        (s.running = none → s.pos.act = .following → s.rtm.b.due.isSome = true → t.rtm.a.due = none → t.rtm.b.due = none →
          UnloadBegun s .rest t) ∧
        (s.pos.act = .following → s.rtm.b.due = none → t.pos = s.pos) ∧
        t.chm = s.chm ∧ t.pst = s.pst ∧ t.jct = s.jct ∧
        t.blk.sending = some
          { frame :=
              { kind := 0x80, tag := tag
                payload := leBytes 2 pa ++ leBytes 4 pb ++ table ++ [if t.rtm.a.due.isSome then 0 else 1] ++
                  leBytes 2 (t.rtm.a.remaining s.now) ++ [if t.rtm.b.due.isSome then 0 else 1] ++
                  leBytes 4 (t.rtm.b.remaining s.now) ++ [if pa ≠ a.toNat ∨ pb ≠ b.toNat then 1 else 0] }
            isReply := true, reset := false, due := s.now + 27000 })

/-- With the link ready and no jobs, the first failing check of R168 refuses the request with the field or the state
found; with group and owner both bad it names the group, the model's reading (log 18). Otherwise exec answers a next
state. SELECT to the bench drives the bench head and mode; SELECT back drives the engine selection. SPINDLE to the bench
makes the spindle BENCH, and while bench-owned replaces the bench level; the drive output then runs the motor
unregulated exactly while that level is ON; SPINDLE back makes the spindle BRAKING with the 500 ms limit and releases
the drive. Engine-owned, the drive is regulated in the states whose SPIN_ENABLE is on and released in the others, which
the model reads from R18 (log 37). SENSE to the bench takes the live levels as the held levels, and changes nothing
while bench-owned; SENSE back makes the engine view the live levels: RAMP_SENSE changed to ON_RAMP parks an unload in
progress, PREAMP_FAULT changed to ACTIVE makes PREAMP pending and with heads loaded begins an unload with cause PREAMP,
which the ramp line at ON_RAMP ends at once; otherwise the Positioner and the pending set are unchanged. A group already
at the wanted owner ENGINE changes nothing. The SPIN_ENABLE level byte 0 is ON (log 18). (R18, R22, R38, R39, R158,
R163, R164, R165, R166, R168; log 18, log 37.) -/
def Obligations.LinesWriteChecksAndPassesGroups : Prop :=
  ∀ (s : State) (tag group owner head mode level : Byte), s.LinkReady → s.NoJobs →
    (2 < group.toNat →
      exec (.linesWrite tag group owner head mode level) s = .next ((s.reload .lineReq).refuses tag .badValue 0)) ∧
    (group.toNat ≤ 2 → 1 < owner.toNat →
      exec (.linesWrite tag group owner head mode level) s = .next ((s.reload .lineReq).refuses tag .badValue 1)) ∧
    (s.prof.headCount ≤ head.toNat →
      exec (.linesWrite tag 0 1 head mode level) s = .next ((s.reload .lineReq).refuses tag .badValue 2)) ∧
    (head.toNat < s.prof.headCount → 2 < mode.toNat →
      exec (.linesWrite tag 0 1 head mode level) s = .next ((s.reload .lineReq).refuses tag .badValue 3)) ∧
    (head.toNat < s.prof.headCount → mode.toNat ≤ 2 → s.flc.selectBench = false → s.pos.act ≠ .parked →
      exec (.linesWrite tag 0 1 head mode level) s =
        .next ((s.reload .lineReq).refuses tag .notParked s.pos.act.code)) ∧
    (head.toNat < s.prof.headCount → mode.toNat ≤ 2 → s.pos.act = .parked →
      ∃ t, exec (.linesWrite tag 0 1 head mode level) s = .next t ∧ t.flc.selectBench = true ∧
        t.drivenHead = head.toNat ∧ t.drivenMode.code = mode.toNat ∧
        t.flc = { s.flc with selectBench := true, benchHead := head.toNat, benchMode := t.flc.benchMode } ∧
        t.pos = s.pos ∧ (s.sdc.marker = false → t.sdc.marker = false) ∧ t.rtm = (s.reload .lineReq).rtm) ∧
    (1 < level.toNat →
      exec (.linesWrite tag 1 1 head mode level) s = .next ((s.reload .lineReq).refuses tag .badValue 4)) ∧
    (level.toNat ≤ 1 → s.flc.spindleBench = false → s.pos.spindle ≠ .stopped →
      exec (.linesWrite tag 1 1 head mode level) s =
        .next ((s.reload .lineReq).refuses tag .notStopped s.pos.spindle.code)) ∧
    (level.toNat ≤ 1 → s.flc.spindleBench = false → s.pos.spindle = .stopped → s.pos.act ≠ .parked →
      exec (.linesWrite tag 1 1 head mode level) s =
        .next ((s.reload .lineReq).refuses tag .notStopped s.pos.act.code)) ∧
    (level.toNat ≤ 1 → s.flc.spindleBench = false → s.pos.spindle = .stopped → s.pos.act = .parked →
      ∃ t, exec (.linesWrite tag 1 1 head mode level) s = .next t ∧
        t.flc = { s.flc with spindleBench := true, benchSpin := decide (level = 0) } ∧
        t.pos = { s.pos with spindle := .bench } ∧ t.spinEnable = decide (level = 0) ∧
        t.spindleDrive = if level = 0 then .unregulated else .released) ∧
    (level.toNat ≤ 1 → s.flc.spindleBench = true →
      ∃ t, exec (.linesWrite tag 1 1 head mode level) s = .next t ∧
        t.flc = { s.flc with benchSpin := decide (level = 0) } ∧ t.pos = s.pos ∧ t.spinEnable = decide (level = 0) ∧
        t.spindleDrive = if level = 0 then .unregulated else .released) ∧
    (s.flc.senseBench = false →
      ∃ t, exec (.linesWrite tag 2 1 head mode level) s = .next t ∧
        t.flc = { s.flc with senseBench := true, heldRamp := s.flc.liveRamp, heldPreamp := s.flc.livePreamp } ∧
        t.pos = s.pos ∧ t.rampView = s.rampView ∧ t.preampView = s.preampView) ∧
    (s.flc.senseBench = true →
      ∃ t, exec (.linesWrite tag 2 1 head mode level) s = .next t ∧ t.flc = s.flc ∧ t.pos = s.pos ∧ t.sdc = s.sdc ∧
        t.blk.events = s.blk.events ∧ t.rampView = s.rampView ∧ t.preampView = s.preampView) ∧
    (s.flc.selectBench = true → s.pos.act = .parked →
      ∃ t, exec (.linesWrite tag 0 0 head mode level) s = .next t ∧ t.flc = { s.flc with selectBench := false } ∧
        t.drivenHead = s.flc.engineHead ∧ t.drivenMode = .standby ∧ t.pos = s.pos ∧
        (s.sdc.marker = false → t.sdc.marker = false)) ∧
    (s.flc.spindleBench = true →
      ∃ t, exec (.linesWrite tag 1 0 head mode level) s = .next t ∧ t.flc = { s.flc with spindleBench := false } ∧
        t.pos.spindle = .braking ∧ t.pos.quietDue = some (s.now + 100000000) ∧ t.spinEnable = false ∧
        t.spindleDrive = .released ∧
        t.pos.act = s.pos.act ∧ t.sdc = s.sdc) ∧
    (s.flc.senseBench = true →
      ∃ t, exec (.linesWrite tag 2 0 head mode level) s = .next t ∧
        t.flc = { s.flc with senseBench := false, engineHead := t.flc.engineHead } ∧
        (s.window = none → t.flc.engineHead = s.flc.engineHead) ∧
        t.rampView = s.flc.liveRamp ∧ t.preampView = s.flc.livePreamp ∧
        (s.pos.act = .unloading → s.flc.heldRamp = .offRamp → s.flc.liveRamp = .onRamp → ParkedFrom s false t) ∧
        (s.pos.act.isLoaded = true → s.flc.heldPreamp = .inactive → s.flc.livePreamp = .active →
          t.pos.unloadCause = .preamp ∧ (s.flc.liveRamp = .offRamp → UnloadBegun s .preamp t) ∧
          (s.flc.liveRamp = .onRamp → t.pos.act = .parked ∧ t.pos.lastPark = some (.preamp, false))) ∧
        (¬(s.pos.act = .unloading ∧ s.flc.heldRamp = .offRamp ∧ s.flc.liveRamp = .onRamp) →
          ¬(s.pos.act.isLoaded = true ∧ s.flc.heldPreamp = .inactive ∧ s.flc.livePreamp = .active) → t.pos = s.pos) ∧
        (s.flc.heldPreamp = .inactive → s.flc.livePreamp = .active → t.blk.events.preamp = true) ∧
        (¬(s.flc.heldPreamp = .inactive ∧ s.flc.livePreamp = .active) → t.blk.events = s.blk.events)) ∧
    (s.flc.spindleBench = false → s.spindleDrive =
      if s.pos.spindle = .accelerating ∨ s.pos.spindle = .atSpeed ∨ s.pos.spindle = .offSpeed then .regulated
      else .released) ∧
    ((group.toNat = 0 ∧ s.flc.selectBench = false) ∨ (group.toNat = 1 ∧ s.flc.spindleBench = false) ∨
        (group.toNat = 2 ∧ s.flc.senseBench = false) →
      ∃ t, exec (.linesWrite tag group 0 head mode level) s = .next t ∧ t.flc = s.flc ∧ t.pos = s.pos ∧ t.sdc = s.sdc ∧
        t.rtm = (s.reload .lineReq).rtm ∧ t.blk.sending.isSome = true)

/-- In STARTING with the link idle of reports, PROFILE_MEMORY_READ_DONE answers a next state with the store READY and
the map in the profile's shape. The memory's bytes are what the part holds, or other contents, 0xFF where they name
none; its record is the first 96 + 4 x ZONE_COUNT bytes by the ZONE_COUNT the record itself carries, its check word the
2 bytes behind it, little-endian. A record whose stored check word is the one formed from it, and which parses as a
valid profile, is LOADED with its anchor driven and no event; one that passes its check and is not valid is DEFAULTED
with cause VALUE and the field; one that fails its check, and a memory of 0xFF in every byte, with cause CHECK; no
answer, and PROFILE_LOAD_LIMIT_EXPIRY, with cause READ. A DEFAULTED start-up takes the built-in profile, sets both
indications and makes PROFILE pending. Once the store is not STARTING the read's end and the limit change nothing but
the transmitter's start. That the memory is in State, and how the read's answer names its contents, is the model's (log
10). (R171, R172, R174, R175, 10_drive_profile_and_start_up section 10.2; log 10.) -/
def Obligations.StartupReadEndsInFourWays : Prop :=
  ∀ (s : State) (m record rest : List Byte) (w : Half) (answer : MemRead) (p : Profile) (i d : Nat), s.inbox = [] →
    (s.pst.state = .starting →
      ((answer = .contents ∧ m = s.pst.memory) ∨
          (∃ bytes, answer = .other bytes ∧ m = bytes ++ List.replicate (194 - bytes.length) 0xFF) →
        (m = record ++ leBytes 2 w.toNat ++ rest → record.length = 96 + 4 * leNat (fieldBytes record 2 2) →
          (w = checkWord record → parseProfile record = .ok p →
            ∃ t, exec (.profileMemoryReadDone answer) s = .next t ∧
              t.pst = { s.pst with
                state := .ready, profile := p, source := .loaded, defaulted := false, unsaved := false, startup := .loaded
                loadDue := none, memory := m } ∧
              t.hmp = { s.hmp with
                working := emptyMap p.headCount p.zoneCount, published := emptyMap p.headCount p.zoneCount } ∧
              t.flc = { s.flc with engineHead := p.anchor } ∧ t.blk.events = s.blk.events ∧ t.pos = s.pos) ∧
          (w = checkWord record → parseProfile record = .error (.value i) →
            ∃ t, exec (.profileMemoryReadDone answer) s = .next t ∧ Defaulted s (.value i) t ∧ t.now = s.now ∧
              t.pst.memory = m) ∧
          (w ≠ checkWord record →
            ∃ t, exec (.profileMemoryReadDone answer) s = .next t ∧ Defaulted s .check t ∧ t.now = s.now ∧
              t.pst.memory = m)) ∧
        ((∀ x ∈ m, x = 0xFF) →
          ∃ t, exec (.profileMemoryReadDone answer) s = .next t ∧ Defaulted s .check t ∧ t.now = s.now ∧
            t.pst.memory = m)) ∧
      (answer = .noAnswer →
        ∃ t, exec (.profileMemoryReadDone answer) s = .next t ∧ Defaulted s .read t ∧ t.now = s.now ∧
          t.pst.memory = s.pst.memory) ∧
      (s.pst.loadDue = some d →
        ∃ t, exec .profileLoadLimitExpiry s = .next t ∧ Defaulted s .read t ∧ t.now = max s.now d ∧
          t.pst.memory = s.pst.memory)) ∧
    (s.pst.state ≠ .starting →
      exec (.profileMemoryReadDone answer) s = .next s.transmit ∧ exec .profileLoadLimitExpiry s = .next s.transmit)

/-- With the link ready and a payload of at most 240 bytes: a record in the job table refuses BUSY with its id; then an
actuator not PARKED refuses NOT_PARKED; then a save in flight refuses SAVING; then checks 4 to 8 of R177 on the payload:
below 4 bytes BAD_LENGTH; ZONE_COUNT outside 1 to 24 BAD_VALUE 1; a length other than 96 + 4 x ZONE_COUNT BAD_LENGTH;
the first field outside its range of R172 BAD_VALUE with its index; the first zone track above 262,143 BAD_VALUE with 46
+ z; the first constraint of R173 that fails, in its order, BAD_VALUE with the index that R173 names, which for the zone
tracks is 46 + z of the first zone that fails. Nothing but the CONFIG_REQ reload changes. A payload that passes every
check is a profile with the payload's 46 fields and zone tracks, and is accepted: it becomes the current one, WRITTEN,
unsaved and not DEFAULTED; the decoder's counters and expectation are empty, both map copies empty with generation 0,
the heat level recomputed from H, the new anchor the engine selection; the fixture memory is not written. Every accepted
profile is within the ranges and constraints of R172 and R173. That the reply is in transmission although a change of
the heat level makes THERMAL pending is the model's reading of an order that R187 does not fix (log 13). (R43, R143,
R146, R156, R158, R170, R172, R173, R177, R178, R187; log 13.) -/
def Obligations.ProfileWriteChecksAndAccepts : Prop :=
  ∀ (s : State) (tag : Byte) (payload : List Byte) (zc : Nat), s.LinkReady → payload.length ≤ 240 →
    zc = u16At payload 2 →
    (∀ j rest, s.jct.table = j :: rest →
      exec (.profileWrite tag payload) s = .next ((s.reload .configReq).refuses tag .busy j.id)) ∧
    (s.jct.table = [] → s.pos.act ≠ .parked →
      exec (.profileWrite tag payload) s = .next ((s.reload .configReq).refuses tag .notParked s.pos.act.code)) ∧
    (s.jct.table = [] → s.pos.act = .parked →
      (s.pst.save.isSome = true →
        exec (.profileWrite tag payload) s = .next ((s.reload .configReq).refuses tag .saving 0)) ∧
      (s.pst.save = none →
        (payload.length < 4 →
          exec (.profileWrite tag payload) s = .next ((s.reload .configReq).refuses tag .badLength 0)) ∧
        (4 ≤ payload.length → zc = 0 ∨ 24 < zc →
          exec (.profileWrite tag payload) s = .next ((s.reload .configReq).refuses tag .badValue 1)) ∧
        (4 ≤ payload.length → 1 ≤ zc → zc ≤ 24 → payload.length ≠ 96 + 4 * zc →
          exec (.profileWrite tag payload) s = .next ((s.reload .configReq).refuses tag .badLength 0)) ∧
        (1 ≤ zc → zc ≤ 24 → payload.length = 96 + 4 * zc →
          (∀ i, i < 46 → (∀ k, k < i → FieldInRange payload k) → ¬FieldInRange payload i →
            exec (.profileWrite tag payload) s = .next ((s.reload .configReq).refuses tag .badValue i)) ∧
          ((∀ i, i < 46 → FieldInRange payload i) →
            (∀ z, z < zc → (∀ k, k < z → payloadTrack payload k ≤ 262143) → 262143 < payloadTrack payload z →
              exec (.profileWrite tag payload) s = .next ((s.reload .configReq).refuses tag .badValue (46 + z))) ∧
            ((∀ z, z < zc → payloadTrack payload z ≤ 262143) →
              (¬CrossHolds payload 1 →
                exec (.profileWrite tag payload) s = .next ((s.reload .configReq).refuses tag .badValue 2)) ∧
              (CrossHolds payload 1 → ¬CrossHolds payload 2 →
                exec (.profileWrite tag payload) s = .next ((s.reload .configReq).refuses tag .badValue 5)) ∧
              (CrossHolds payload 1 → CrossHolds payload 2 → ¬CrossHolds payload 3 →
                exec (.profileWrite tag payload) s = .next ((s.reload .configReq).refuses tag .badValue 36)) ∧
              (CrossHolds payload 1 → CrossHolds payload 2 → CrossHolds payload 3 → ¬CrossHolds payload 4 →
                exec (.profileWrite tag payload) s = .next ((s.reload .configReq).refuses tag .badValue 37)) ∧
              (CrossHolds payload 1 → CrossHolds payload 2 → CrossHolds payload 3 → CrossHolds payload 4 →
                ¬CrossHolds payload 5 →
                exec (.profileWrite tag payload) s = .next ((s.reload .configReq).refuses tag .badValue 38)) ∧
              ((∀ k, k < 6 → CrossHolds payload k) →
                (∀ z, z < zc → (∀ k, k < z → TrackFits payload k) → ¬TrackFits payload z →
                  exec (.profileWrite tag payload) s = .next ((s.reload .configReq).refuses tag .badValue (46 + z))) ∧
                ((∀ z, z < zc → TrackFits payload z) →
                  ∃ p, parseProfile payload = .ok p ∧ p.fields = (List.range 46).map (payloadField payload) ∧
                    p.zoneTracks = (List.range zc).map (payloadTrack payload)))))) ∧
        (∀ p, parseProfile payload = .ok p →
          p.fault = none ∧
          (∀ (i : Nat) (x lo hi : Int), p.fields[i]? = some x → fieldRanges[i]? = some (lo, hi) → lo ≤ x ∧ x ≤ hi) ∧
          p.fields.length = 46 ∧ p.nRevNom ≤ 21000 * p.sectors ∧
          p.anchor < p.headCount ∧ 1 ≤ p.zoneCount ∧ p.zoneCount ≤ 24 ∧ p.zoneTracks.length = p.zoneCount ∧
          payload.length = 96 + 4 * p.zoneCount ∧ (∀ x ∈ p.zoneTracks, x ≤ p.trackMax) ∧
          p.zoneTracks.Pairwise (· < ·) ∧ p.warmOff < p.warmOn ∧ p.warmOn ≤ p.hotOff ∧ p.hotOff < p.hotOn ∧
          ∃ t, exec (.profileWrite tag payload) s = .next t ∧
            t.pst = { s.pst with profile := p, source := .written, defaulted := false, unsaved := true } ∧
            t.sdc.counters = List.replicate 20 {} ∧ t.sdc.expect = none ∧ t.sdc.marker = false ∧
            t.hmp = { working := emptyMap p.headCount p.zoneCount, published := emptyMap p.headCount p.zoneCount
                      gen := 0, unpub := false } ∧
            t.flc = { s.flc with engineHead := p.anchor } ∧ t.chm.heat = s.chm.heat ∧ t.chm.pace = s.chm.pace ∧
            t.chm.hot = s.chm.hot ∧ t.chm.level = nextLevel p s.chm.level s.chm.heat ∧
            (t.chm.level ≠ s.chm.level → t.blk.events.thermal = true ∧
              t.chm.last = some { before := s.chm.level, after := t.chm.level, cause := .profile }) ∧
            (t.chm.level = s.chm.level → t.chm.last = s.chm.last) ∧ t.pos.act = .parked ∧ t.pos.spindle = s.pos.spindle ∧
            t.pos.inTol = 0 ∧ t.pos.outTol = 0 ∧ t.pos.indexRef = s.pos.indexRef ∧
            (s.pos.spindle = .atSpeed → t.pos.silenceDue = some (s.now + 2 * p.nRevNom)) ∧
            t.blk.sending = some
              { frame := { kind := 0x80, tag := tag, payload := [2, 1] }, isReply := true, reset := false
                due := s.now + 7000 })))

/-- With the link ready PROFILE_SAVE is refused SAVING while a save is in flight; otherwise it is acknowledged with the
state SAVING, in stage ERASE with 0xFFFF in the check word behind the stored record. A confirmation moves ERASE to
RECORD; RECORD to CHECK_WORD, the memory then beginning with the record of the current profile and 0xFFFF behind it; and
in CHECK_WORD completes the save with the record's check word behind it, DONE, unsaved clear, a DEFAULTED source LOADED.
Each write has a limit of 100 ms. A fault, and the expiry of the limit at its tick, end the save FAILED with its stage,
the unsaved indication set; after ERASE the memory is as it stood, after RECORD the check word behind the record it
spells is erased, after CHECK_WORD all but those 2 bytes stand. DONE and FAILED make PROFILE pending. With no save in
flight a confirmation or fault changes nothing but the count of late answers and the transmitter's start. An answer for
a write given up, by its limit or with its save, changes no more than that count either; with one outstanding and a save
in flight, an answer is either that late one or taken as the awaited write's, and which is left open (log 42). The
moments at which the memory's bytes change are the model's choice (log 10, log 11). (R158, R171, R174, R179, R180, R194;
log 10, log 11, log 42.) -/
def Obligations.SavingRunsThroughItsStages : Prop :=
  (∀ (record rest : List Byte) (w : Half), record.length = 96 + 4 * leNat (fieldBytes record 2 2) →
      eraseCheck (record ++ leBytes 2 w.toNat ++ rest) = record ++ [0xFF, 0xFF] ++ rest) ∧
  ∀ (s : State) (tag : Byte) (v : Save),
    (s.LinkReady →
      (s.pst.save.isSome = true → exec (.profileSave tag) s = .next ((s.reload .configReq).refuses tag .saving 0)) ∧
      (s.pst.save = none →
        exec (.profileSave tag) s = .next (((s.reload .configReq).setPst
          { s.pst with
            state := .saving, save := some { stage := .erase, due := s.now + 20000000 }
            memory := eraseCheck s.pst.memory }).acks tag [2]))) ∧
    (s.inbox = [] → s.pst.save = some v → s.pst.late = 0 →
      (v.stage = .erase →
        exec .profileMemoryWriteDone s = .next (s.setPst
          { s.pst with state := .saving, save := some { stage := .record, due := s.now + 20000000 } }).transmit) ∧
      (v.stage = .record →
        exec .profileMemoryWriteDone s = .next (s.setPst
          { s.pst with
            state := .saving, save := some { stage := .checkWord, due := s.now + 20000000 }
            memory := s.prof.record ++ [0xFF, 0xFF] ++ s.pst.memory.drop (s.prof.record.length + 2) }).transmit) ∧
      (v.stage = .checkWord →
        ∃ t, exec .profileMemoryWriteDone s = .next t ∧
          t.pst =
            { s.pst with
              state := .ready, save := none, lastSave := .done, unsaved := false
              source := if s.pst.source = .defaulted then .loaded else s.pst.source, memory := t.pst.memory } ∧
          (s.prof.record.length + 2 ≤ s.pst.memory.length →
            t.pst.memory = s.pst.memory.take s.prof.record.length ++ leBytes 2 (checkWord s.prof.record).toNat ++
              s.pst.memory.drop (s.prof.record.length + 2)) ∧
          t.blk.events.profile = true ∧ t.now = s.now)) ∧
    (s.inbox = [] → s.pst.save = some v →
      ∀ c, (c = Instr.profileMemoryFault ∧ s.pst.late = 0) ∨ c = Instr.saveWriteLimitExpiry →
        ∃ t, exec c s = .next t ∧ t.pst.state = .ready ∧ t.pst.save = none ∧ t.pst.lastSave = .failed v.stage ∧
          t.pst.unsaved = true ∧ t.pst.source = s.pst.source ∧ t.prof = s.prof ∧ t.blk.events.profile = true ∧
          (v.stage = .erase → t.pst.memory = s.pst.memory) ∧
          (v.stage = .record → ∀ r w, splitMemory t.pst.memory = some (r, w) → w = 0xFFFF) ∧
          (v.stage = .checkWord → s.prof.record.length + 2 ≤ s.pst.memory.length →
            t.pst.memory.take s.prof.record.length = s.pst.memory.take s.prof.record.length ∧
            t.pst.memory.drop (s.prof.record.length + 2) = s.pst.memory.drop (s.prof.record.length + 2)) ∧
          (c = .profileMemoryFault → t.now = s.now ∧ t.pst.late = 0) ∧
          (c = .saveWriteLimitExpiry → t.now = max s.now v.due ∧ t.pst.late = s.pst.late + 1)) ∧
    (s.inbox = [] → s.pst.save = some v → 0 < s.pst.late →
      ∀ c, c = Instr.profileMemoryWriteDone ∨ c = Instr.profileMemoryFault →
        ∃ t, exec c s = .next t ∧ t.now = s.now ∧
          (t.pst = { s.pst with late := s.pst.late - 1 } ∨
            ∃ t', exec c ((s.setFree (s.free + 1)).setPst { s.pst with late := 0 }) = .next t' ∧
              t.pst = { t'.pst with late := s.pst.late } ∧ t.blk = t'.blk)) ∧
    (s.inbox = [] → s.pst.save = none →
      exec .profileMemoryWriteDone s = .next (s.setPst { s.pst with late := s.pst.late - 1 }).transmit ∧
      exec .profileMemoryFault s = .next (s.setPst { s.pst with late := s.pst.late - 1 }).transmit ∧
      exec .saveWriteLimitExpiry s = .next s.transmit)

/-- For every profile whose fields and zone tracks meet the ranges of R172 and the constraints of R173 and whose zone
table has ZONE_COUNT entries, its record has 96 + 4 x ZONE_COUNT bytes and parses as that profile, every field at every
value of its range; so a save that completed is read back as the profile saved. (R172, R173, R174, R177, R194.) -/
def Obligations.ProfileRecordReadsBack : Prop :=
  ∀ p : Profile, p.fault = none → p.zoneTracks.length = p.zoneCount →
    p.record.length = 96 + 4 * p.zoneCount ∧ parseProfile p.record = .ok p

/-- From HUNT, with no reports under way and no record waiting, the commands BYTE_RECEIVED over the bytes of any frame
with a payload of at most 240 bytes (start byte, LEN, KIND, TAG, payload, CHECK) end in a next state: the one in which
that checked frame is offered to the receive buffer. It is the same outcome as the request command of that KIND, TAG and
payload (log 6). (R181, R182, R184, R194; log 6.) -/
def Obligations.FrameBytesOfferTheFrame : Prop :=
  ∀ (s : State) (f : Frame), f.payload.length ≤ 240 → s.blk.asm = huntAsm → s.inbox = [] → s.blk.waiting = [] →
    execAll (f.bytes.map .byteReceived) s = .next (s.offerFrame f).finish ∧
    execAll (f.bytes.map .byteReceived) s = exec (.requestUnknownKind f.kind f.tag f.payload) s

/-- With no reports under way and no record waiting, BYTE_RECEIVED answers a next state row by row of R181: in HUNT 0xC3
begins LENGTH and any other byte is discarded; in LENGTH 0 to 240 begins BODY, above that is fault LENGTH; in BODY the
byte is kept until KIND, TAG and LEN bytes are held; in CHECK a byte that is not the CRC is fault CHECK.
GAP_LIMIT_EXPIRY is fault GAP at its tick. Each byte kept restarts the 5 ms gap limit. A fault leaves HUNT, adds one
to its counter up to 255, replaces the last fault record with KIND and TAG as received, and makes LINK pending. (R181,
R182, R183.) -/
def Obligations.AssemblerTakesBytesByState : Prop :=
  ∀ (s : State) (b : Byte), s.inbox = [] → s.blk.waiting = [] →
    (s.blk.asm.state = .hunt →
      exec (.byteReceived 0xC3) s = .next (s.setAsm
        { state := .length, len := 0, got := [], gapDue := some (s.now + 1000000) }) ∧
      (b ≠ 0xC3 → exec (.byteReceived b) s = .next s)) ∧
    (s.blk.asm.state = .length →
      (b.toNat ≤ 240 → exec (.byteReceived b) s = .next (s.setAsm
        { state := .body, len := b.toNat, got := [], gapDue := some (s.now + 1000000) })) ∧
      (240 < b.toNat → ∃ t, exec (.byteReceived b) s = .next t ∧ ReceiveFault s .length none none t ∧ t.now = s.now)) ∧
    (s.blk.asm.state = .body →
      (s.blk.asm.got.length + 1 ≠ s.blk.asm.len + 2 → exec (.byteReceived b) s = .next (s.setAsm
        { state := .body, len := s.blk.asm.len, got := s.blk.asm.got ++ [b], gapDue := some (s.now + 1000000) })) ∧
      (s.blk.asm.got.length + 1 = s.blk.asm.len + 2 → exec (.byteReceived b) s = .next (s.setAsm
        { state := .check, len := s.blk.asm.len, got := s.blk.asm.got ++ [b], gapDue := some (s.now + 1000000) }))) ∧
    (s.blk.asm.state = .check → crc8 (byteOf s.blk.asm.len :: s.blk.asm.got) ≠ b →
      ∃ t, exec (.byteReceived b) s = .next t ∧ ReceiveFault s .check s.blk.asm.got[0]? s.blk.asm.got[1]? t ∧
        t.now = s.now) ∧
    (∀ d, s.blk.asm.gapDue = some d →
      ∃ t, exec .gapLimitExpiry s = .next t ∧ ReceiveFault s .gap s.blk.asm.got[0]? s.blk.asm.got[1]? t ∧
        t.now = max s.now d)

/-- For every request command, with no reports under way and no record waiting: exec is what the arrival of its checked
frame makes, KIND, TAG and payload laid out by R186 (log 6). With an idle link and an empty buffer, in STARTING every
request is refused STARTING with detail 0, with the rest-timer reload of its KIND's source and none for BENCH_RESET and
an unknown kind; otherwise a KIND not in R186 is refused UNKNOWN_KIND with detail 0 and no reload, and a fixed-length
kind with another length is refused BAD_LENGTH with the length required after that reload. In particular
REQUEST_UNKNOWN_KIND answers a next state with that refusal in transmission. With 4 frames buffered, the frame is fault
OVERRUN with its KIND and TAG recorded; with fewer and a reply in transmission it joins the end of the buffer. (R158,
R175, R183, R184, R185, R186; log 6.) -/
def Obligations.DecoderRefusesInOrder : Prop :=
  ∀ (s : State) (c : Instr) (f : Frame), requestFrame c = some f → f.payload.length ≤ 240 → s.inbox = [] → s.blk.waiting = [] →
    exec c s = .next (s.offerFrame f).finish ∧
    (s.blk.sending = none → s.blk.buffer = [] →
      (s.pst.state = .starting →
        (∀ k, f.kind.toNat = RequestKind.code k →
          exec c s = .next ((match k.source with
            | some src => s.reload src
            | none => s).refuses f.tag .starting 0)) ∧
        (f.kind.toNat ∉ knownKinds → exec c s = .next (s.refuses f.tag .starting 0))) ∧
      (s.pst.state ≠ .starting →
        (f.kind.toNat ∉ knownKinds → exec c s = .next (s.refuses f.tag .unknownKind 0)) ∧
        (∀ (kind tag : Byte) (payload : List Byte), payload.length ≤ 240 → kind.toNat ∉ knownKinds →
          exec (.requestUnknownKind kind tag payload) s = .next (s.refuses tag .unknownKind 0)) ∧
        (∀ k n, f.kind.toNat = RequestKind.code k → k.fixedLength = some n → f.payload.length ≠ n →
          exec c s = .next ((match k.source with
            | some src => s.reload src
            | none => s).refuses f.tag .badLength n)))) ∧
    (4 ≤ s.blk.buffer.length →
      ∃ t, exec c s = .next t ∧ t.blk.counters.overrun = min 255 (s.blk.counters.overrun + 1) ∧
        t.blk.lastFault = some { fault := .overrun, kind := some f.kind, tag := some f.tag } ∧ t.blk.events.link = true ∧
        t.blk.buffer = s.blk.buffer ∧ t.rtm = s.rtm ∧ t.pos = s.pos ∧ t.jct = s.jct) ∧
    (∀ x, s.blk.sending = some x → x.isReply = true → s.blk.buffer.length < 4 →
      exec c s = .next (s.setBlk { s.blk with buffer := s.blk.buffer ++ [f] }))

/-- With the link ready, each read reloads the timer of its source and is answered ACK with the items of its block, byte
by byte, as they stand; MOTION_READ, THERMAL_READ, LINES_READ, LINK_READ, PROFILE_READ and JOB_LIST clear MOTION,
THERMAL, PREAMP, LINK, PROFILE and JOB_HELD, the other reads clear none, and nothing else changes but LINK_READ with 1,
which sets the link counters to 0 after the report; above 1 it refuses BAD_VALUE. STATUS_READ, PROFILE_READ and both
forms of MAP_READ are laid out by R194's tables: STATUS_READ in 50 bytes with the zone and head of the job by number and
a COUNTING gate's stages as they stand (at their bound until an overflow is taken, log 29), PROFILE_READ with the 46
fields and zone tracks, the ENTRY form with the three blocks of the head-zone, the HEAD form with three outcomes a zone,
255 for absent. MOTION_READ carries the items of R41, THERMAL_READ those of R154, LINES_READ those of R169, LINK_READ
those of R190, COUNTERS_READ those of R13 and JOB_LIST those of R105, each list behind its count and each optional item
behind a presence byte: for a job its id, kind, state, reasons, cursor, counts, first fault, indications and, RUNNING in
PREPARE or ZONE_SEEK, the condition it waits for, then the waiting cause of the queue head, then id, kind, final state
and read indication of each finished record. The codes and orders where R194 has no table are read as log 18 says, the
remaining counts of the timers as log 28 says, and an absent qualify block is sent as log 40 says. MAP_READ refuses
BAD_VALUE naming the first offending field in payload order, which is the model's reading (log 25). (R13, R105, R139,
R169, R176, R190, R194; log 18, log 25, log 28, log 29, log 40.) -/
def Obligations.ReadsAnswerAndClearTheirEvent : Prop :=
  ∀ (s : State) (tag copy form head zone : Byte), s.LinkReady →
    exec (.statusRead tag) s = .next ((s.reload .readReq).acks tag (s.reload .readReq).statusBytes) ∧
    (s.reload .readReq).statusBytes.length = 50 ∧
    (∃ (job window : List Byte) (l u : Nat),
      (s.reload .readReq).statusBytes =
        [byteOf s.pst.state.code, byteOf ((if s.pst.defaulted then 1 else 0) + if s.pst.unsaved then 2 else 0),
          byteOf s.pos.spindle.code, byteOf s.pos.act.code, byteOf s.chm.level.code,
          byteOf ((if s.flc.selectBench then 1 else 0) + (if s.flc.spindleBench then 2 else 0) +
            if s.flc.senseBench then 4 else 0)] ++ job ++ window ++
        [byteOf s.gcu.state.code, byteOf s.gcu.mode.code, byteOf (s.gcu.head.getD 255)] ++ leBytes 2 l ++ leBytes 2 u ++
        [s.gcu.overflow.elim 0 fun x => if x = .l then 1 else 2, s.gcu.last.elim 255 fun r => byteOf r.ending.code,
          byteOf ((s.gcu.last.bind fun r => r.marks).getD 0)] ++ leBytes 4 ((s.gcu.last.bind fun r => r.value).getD 0) ++
        leBytes 2 s.hmp.gen ++
        [if s.hmp.unpub then 1 else 0,
          byteOf ((if (s.reload .readReq).rtm.a.due.isSome then 1 else 0) +
            if (s.reload .readReq).rtm.b.due.isSome then 2 else 0)] ++
        leBytes 4 (((s.reload .readReq).rtm.a.due.elim 0 fun d => max 1 ((d - s.now + 199999) / 200000))) ++
        leBytes 4 (((s.reload .readReq).rtm.b.due.elim 0 fun d => max 1 ((d - s.now + 199999) / 200000))) ++
        [byteOf s.blk.events.bits, byteOf s.blk.mask.bits] ∧
      (s.active = none → job = [0, 0, 0, 0, 0, 0]) ∧
      (∀ x c, s.active = some x → x.cursor = some c →
        job = [byteOf x.id, byteOf x.state.code, byteOf c.phase.code, byteOf (x.zones.getD c.zone 0),
          byteOf (x.heads.getD c.head 0),
          byteOf ((if x.reasons.bench then 1 else 0) + (if x.reasons.thermal then 2 else 0) +
            if x.reasons.spindle then 4 else 0)]) ∧
      (s.window = none → window = List.replicate 10 0) ∧
      (∀ w, s.window = some w →
        window = [if w.probing then 2 else 1, byteOf w.kind.code, byteOf w.head] ++ leBytes 2 w.size ++ leBytes 2 w.used ++
          leBytes 2 (w.miss + w.wild) ++ [byteOf w.revs]) ∧
      (s.gcu.state ≠ .counting → l = s.gcu.stageL ∧ u = s.gcu.stageU) ∧
      (s.gcu.state = .counting → s.gcu.mode = .chained →
        l < 65536 ∧ u * 65536 + l = min 4294967295 (s.now - s.gcu.start)) ∧
      (s.gcu.state = .counting → s.gcu.mode = .split → l = min 65535 (s.now - s.gcu.start) ∧ u = s.gcu.stageU)) ∧
    exec (.motionRead tag) s = .next (((s.reload .readReq).clearEvent .motion).acks tag
      ([byteOf s.pos.spindle.code,
        (match s.pos.spindle with
          | .stopped | .braking => 0
          | .accelerating | .atSpeed | .offSpeed => 1
          | .bench => 2),
        if s.pos.spinDownPending then 1 else 0] ++
        (s.pos.period.elim [0] fun n => 1 :: leBytes 4 n) ++
        byteOf s.pos.act.code :: leBytes 4 s.pos.target ++ leSigned 2 s.pos.offset ++
        (s.pos.held.elim [0] fun h => 1 :: leBytes 4 h.track ++ leSigned 2 h.offset ++ [byteOf h.owner.code]) ++
        (s.pos.spinMove.elim [0] fun m => [1, byteOf m.kind.code, byteOf m.owner.code]) ++
        (s.pos.actMove.elim [0] fun m => [1, byteOf m.kind.code, byteOf m.owner.code]) ++
        (s.pos.lastBench.elim [0] fun x => [1, byteOf x.1.code, byteOf x.2.code]) ++
        (s.pos.lastPark.elim [0] fun x => [1, byteOf x.1.code, if x.2 then 1 else 0]))) ∧
    exec (.thermalRead tag) s = .next (((s.reload .readReq).clearEvent .thermal).acks tag
      (leBytes 2 s.chm.heat ++ [byteOf s.chm.level.code] ++ leBytes 2 s.chm.pace ++
        [if s.chm.level = .cool ∨ (s.chm.level = .warm ∧ s.prof.paceTicks ≤ s.chm.pace) then 1 else 0] ++
        leBytes 2 s.chm.hot ++
        (match s.chm.last with
          | some c => [1, byteOf c.before.code, byteOf c.after.code, byteOf c.cause.code]
          | none => [0]))) ∧
    exec (.linesRead tag) s = .next (((s.reload .readReq).clearEvent .preamp).acks tag
      ([if s.flc.selectBench then 1 else 0, if s.flc.spindleBench then 1 else 0, if s.flc.senseBench then 1 else 0,
        byteOf (if s.flc.selectBench then s.flc.benchHead else s.flc.engineHead),
        byteOf (if s.flc.selectBench then s.flc.benchMode.code else if s.pos.act = .parked then 1 else 2),
        byteOf s.flc.engineHead, if s.pos.act = .parked then 1 else 2, byteOf s.flc.benchHead, byteOf s.flc.benchMode.code,
        if s.spinEnable then 0 else 1, if s.flc.benchSpin then 0 else 1, if s.flc.liveRamp = .onRamp then 0 else 1,
        if s.rampView = .onRamp then 0 else 1] ++
        (if s.flc.senseBench then [1, if s.flc.heldRamp = .onRamp then 0 else 1] else [0]) ++
        [if s.flc.livePreamp = .active then 0 else 1, if s.preampView = .active then 0 else 1] ++
        (if s.flc.senseBench then [1, if s.flc.heldPreamp = .active then 0 else 1] else [0]))) ∧
    (∀ link : List Byte,
      link =
        [byteOf s.blk.counters.check, byteOf s.blk.counters.length, byteOf s.blk.counters.gap,
          byteOf s.blk.counters.overrun] ++
        (s.blk.lastFault.elim [0] fun x => 1 :: byteOf x.fault.code :: (x.kind.elim [0] fun k => [1, k]) ++
          (x.tag.elim [0] fun g => [1, g])) ++
        [byteOf s.blk.asm.state.code, 0] →
      exec (.linkRead tag 0) s = .next (((s.reload .readReq).clearEvent .link).acks tag link) ∧
      exec (.linkRead tag 1) s = .next (((((s.reload .readReq).clearEvent .link).setBlk
        { (s.clearEvent .link).blk with counters := {} })).acks tag link)) ∧
    (1 < copy.toNat → exec (.linkRead tag copy) s = .next ((s.reload .readReq).refuses tag .badValue 0)) ∧
    exec (.countersRead tag) s = .next ((s.reload .readReq).acks tag
      (byteOf s.prof.headCount ::
        ((List.range s.prof.headCount).map fun h =>
          leBytes 2 (s.sdc.counters.getD h {}).miss ++ leBytes 2 (s.sdc.counters.getD h {}).weak ++
            leBytes 2 (s.sdc.counters.getD h {}).wild ++ leBytes 2 (s.sdc.counters.getD h {}).slip).flatten ++
        [byteOf (if s.flc.selectBench then s.flc.benchHead else s.flc.engineHead)] ++
        (s.sdc.expect.elim [0] fun n => 1 :: leBytes 2 n) ++ [if s.sdc.marker then 1 else 0])) ∧
    (∀ p : Profile, p = s.pst.profile →
      exec (.profileRead tag) s = .next (((s.reload .configReq).clearEvent .profile).acks tag
        ((([p.headCount, p.zoneCount, p.anchor, p.sectors].map (leBytes 2)).flatten ++ leBytes 4 p.trackMax ++
          leBytes 4 p.nRevNom ++
          ([p.speedTolPm, p.ampFloor, p.window, p.windowRevs, p.follow, p.visit, p.jog].map (leBytes 2)).flatten ++
          leSigned 2 p.jogCentre ++
          ([p.retries, p.skewRevs, p.settleTol, p.settleCount, p.settleMs, p.otTol, p.otCount, p.acqCount, p.acqMs,
            p.loadMs, p.seekMs, p.unloadMs, p.spinupMs, p.speedRecoverMs, p.gainMinQ8, p.gainMaxQ8, p.ampMin,
            p.weakMaxPm, p.missMaxPm, p.zoneStepMax, p.skewStepMax, p.warmOff, p.warmOn, p.hotOff, p.hotOn, p.decayQ8,
            p.holdCost, p.seekBase, p.seekDiv, p.jogCost, p.paceTicks, p.hotParkTicks].map (leBytes 2)).flatten ++
          (p.zoneTracks.map (leBytes 4)).flatten) ++
          [byteOf s.pst.state.code, byteOf s.pst.source.code,
            byteOf ((if s.pst.defaulted then 1 else 0) + if s.pst.unsaved then 2 else 0)] ++
          (match s.pst.startup with
            | .loaded => [0, 0, 0]
            | .read => [1, 0, 0]
            | .check => [2, 0, 0]
            | .value i => 3 :: leBytes 2 i) ++
          [s.pst.save.elim 255 fun v => byteOf v.stage.code] ++
          (match s.pst.lastSave with
            | .none => [0, 0]
            | .done => [1, 0]
            | .failed st => [2, byteOf st.code]
            | .abandoned => [3, 0])))) ∧
    exec (.jobList tag) s = .next (((s.reload .readReq).clearEvent .jobHeld).acks tag
      (byteOf s.jct.table.length ::
        (s.jct.table.map fun j =>
          [byteOf j.id, byteOf j.kind.code, byteOf j.state.code,
            byteOf ((if j.reasons.bench then 1 else 0) + (if j.reasons.thermal then 2 else 0) +
              if j.reasons.spindle then 4 else 0)] ++
          (j.cursor.elim [0] fun c =>
            [1, byteOf c.zone, byteOf c.head, byteOf c.phase.code, byteOf c.retries, byteOf c.failedZones]) ++
          leBytes 2 j.counts.ok ++ leBytes 2 j.counts.reference ++ leBytes 2 j.counts.fault ++
          leBytes 2 j.counts.skipped ++
          (j.first.elim [0] fun x => [1, byteOf x.head, byteOf x.zone, byteOf x.reason.code]) ++
          [byteOf ((if j.flags.duplicates then 1 else 0) + (if j.flags.window then 2 else 0) +
            (if j.flags.jog then 4 else 0) + (if j.flags.centre then 8 else 0) + if j.flags.skewRevs then 16 else 0)] ++
          (if j.state = .running ∧ (j.cursor.any fun c => c.phase == .prepare || c.phase == .zoneSeek) = true then
            s.jct.ctx.waits.elim [0] fun w => [1, byteOf w.code]
          else [0])).flatten ++
        (if s.jct.table.all fun j => j.state != .queued then [0]
          else if s.jct.table.any fun j => j.state != .queued then [1, 0]
          else if s.flc.selectBench then [1, 1]
          else if s.flc.spindleBench then [1, 2]
          else if s.chm.level = .hot then [1, 3]
          else [0]) ++
        byteOf s.jct.finished.length ::
        (s.jct.finished.map fun x =>
          [byteOf x.id, byteOf x.kind.code, byteOf x.final.code, if x.read then 1 else 0]).flatten)) ∧
    exec (.eventsRead tag) s =
      .next ((s.reload .readReq).acks tag [byteOf s.blk.events.bits, byteOf s.blk.mask.bits]) ∧
    (1 < copy.toNat → exec (.mapRead tag copy form head zone) s = .next ((s.reload .mapReq).refuses tag .badValue 0)) ∧
    (copy.toNat ≤ 1 → 1 < form.toNat →
      exec (.mapRead tag copy form head zone) s = .next ((s.reload .mapReq).refuses tag .badValue 1)) ∧
    (copy.toNat ≤ 1 → form.toNat ≤ 1 → s.prof.headCount ≤ head.toNat →
      exec (.mapRead tag copy form head zone) s = .next ((s.reload .mapReq).refuses tag .badValue 2)) ∧
    (copy.toNat ≤ 1 → head.toNat < s.prof.headCount → s.prof.zoneCount ≤ zone.toNat →
      exec (.mapRead tag copy 0 head zone) s = .next ((s.reload .mapReq).refuses tag .badValue 3)) ∧
    (copy.toNat ≤ 1 → head.toNat < s.prof.headCount →
      ∀ r, (if copy = 0 then s.hmp.working else s.hmp.published)[head.toNat]? = some r →
        r.zones.length = s.prof.zoneCount →
        (∀ z, r.zones[zone.toNat]? = some z →
          exec (.mapRead tag copy 0 head zone) s = .next ((s.reload .mapReq).acks tag
            (leBytes 2 s.hmp.gen ++ [if r.excluded then 1 else 0, byteOf r.derived.code] ++
              (match z.qualify with
                | none => List.replicate 10 0
                | some { result := .pass x, job := id } =>
                  [1, 0, 0] ++ leBytes 2 (x.amp.getD 65535) ++ leBytes 2 (x.weak.getD 65535) ++
                    leBytes 2 (x.miss.getD 65535) ++ [byteOf id]
                | some { result := .fail why x, job := id } =>
                  [1, 1, byteOf why.code] ++ leBytes 2 (x.amp.getD 65535) ++ leBytes 2 (x.weak.getD 65535) ++
                    leBytes 2 (x.miss.getD 65535) ++ [byteOf id]) ++
              (match z.span with
                | none => List.replicate 25 0
                | some { result := .ok x, job := id } =>
                  [1, 0, 0] ++ leSigned 4 x.d ++ leSigned 1 x.dt ++ leBytes 2 x.df ++ leSigned 2 x.g ++ leSigned 4 x.v1 ++
                    leSigned 4 x.v2 ++ leSigned 2 x.o1 ++ leSigned 2 x.o2 ++ [byteOf id]
                | some { result := .reference, job := id } =>
                  [1, 1, 0] ++ List.replicate 7 0 ++ leBytes 2 256 ++ List.replicate 12 0 ++ [byteOf id]
                | some { result := .fault why, job := id } =>
                  [1, 2, byteOf why.code] ++ List.replicate 21 0 ++ [byteOf id]) ++
              (match z.skew with
                | none => List.replicate 13 0
                | some { result := .ok x, job := id } =>
                  [1, 0, 0] ++ leSigned 2 x.skew ++ [byteOf x.ra, byteOf x.rh] ++ leBytes 4 x.nRev ++
                    [if x.saturated then 1 else 0, byteOf id]
                | some { result := .reference, job := id } => [1, 1, 0] ++ List.replicate 9 0 ++ [byteOf id]
                | some { result := .fault why, job := id } =>
                  [1, 2, byteOf why.code] ++ List.replicate 9 0 ++ [byteOf id])))) ∧
        exec (.mapRead tag copy 1 head zone) s = .next ((s.reload .mapReq).acks tag
          (leBytes 2 s.hmp.gen ++ [if r.excluded then 1 else 0, byteOf r.derived.code] ++
            (r.zones.map fun z =>
              ([match z.qualify with
                | none => 255
                | some { result := .pass _, job := _ } => 0
                | some { result := .fail _ _, job := _ } => 1,
                match z.span with
                | none => 255
                | some { result := .ok _, job := _ } => 0
                | some { result := .reference, job := _ } => 1
                | some { result := .fault _, job := _ } => 2,
                match z.skew with
                | none => 255
                | some { result := .ok _, job := _ } => 0
                | some { result := .reference, job := _ } => 1
                | some { result := .fault _, job := _ } => 2] : List Byte)).flatten)))

/-- With the link ready: EVENT_MASK_WRITE with bit 7 set refuses BAD_VALUE; otherwise the mask is the byte, the pending
set is unchanged, each kind that is pending and goes from off to on has its notice waiting, in ascending bit order,
behind the reply, and the ACK carries mask and pending set. COUNTERS_CLEAR sets one head's four counters or all to 0,
and refuses BAD_VALUE for a head of HEAD_COUNT or above. BENCH_RESET is acknowledged with an empty payload marked to
reset when it has been sent, and nothing else changes. (R14, R158, R187, R189, R192.) -/
def Obligations.MaskCountersAndResetRequests : Prop :=
  ∀ (s : State) (tag mask head : Byte), s.LinkReady →
    (128 ≤ mask.toNat → exec (.eventMaskWrite tag mask) s = .next ((s.reload .configReq).refuses tag .badValue 0)) ∧
    (mask.toNat < 128 →
      ∃ t, exec (.eventMaskWrite tag mask) s = .next t ∧ t.blk.events = s.blk.events ∧
        (∀ k, t.blk.mask.has k = mask.toNat.testBit k.code) ∧
        t.blk.waiting = (EventKind.inOrder.filter fun k =>
          mask.toNat.testBit k.code && !s.blk.mask.has k && s.blk.events.has k).map .notice ∧
        t.blk.sending = some
          { frame := { kind := 0x80, tag := tag, payload := [mask, byteOf s.blk.events.bits] }, isReply := true
            reset := false, due := s.now + 7000 } ∧
        t.rtm = (s.reload .configReq).rtm ∧ t.pos = s.pos ∧ t.jct = s.jct) ∧
    (s.prof.headCount ≤ head.toNat →
      exec (.countersClear tag 0 head) s = .next ((s.reload .configReq).refuses tag .badValue 1)) ∧
    (head.toNat < s.prof.headCount →
      exec (.countersClear tag 0 head) s = .next (((s.reload .configReq).setSdc
        { s.sdc with counters := s.sdc.counters.set head.toNat {} }).acks tag [])) ∧
    exec (.countersClear tag 1 head) s = .next (((s.reload .configReq).setSdc
      { s.sdc with counters := List.replicate 20 {} }).acks tag []) ∧
    exec (.benchReset tag) s = .next (s.setBlk
      { s.blk with
        sending := some
          { frame := { kind := 0x80, tag := tag, payload := [] }, isReply := true, reset := true, due := s.now + 5000 } })

/-- With no reports under way and a record in transmission that is not the ACK of a BENCH_RESET, TRANSMIT_COMPLETE
answers a next state at the tick of its last byte. The waiting record that began to wait first is then in transmission
and leaves the list, the others in their order behind it: a notice, also with a reply waiting behind it, with TAG 0, its
bit number and its two summary bytes formed now; a reply as it was formed, 1,000 ticks a byte. The summary bytes are:
for JOB_END id and final state of the newest finished record; for JOB_HELD id and reason set of the active job, 0 and 0
with none; for THERMAL the levels before and after of the last change; for MOTION spindle and actuator state; for PREAMP
engine view and live level; for LINK the fault kind of the last fault record and its counter; for PROFILE the source and
the last save outcome. While a reply waits the decoder takes no frame from the buffer. With no reply waiting it takes
the oldest frame, here one of an unknown kind with the store not STARTING, whose refusal joins the end of the waiting
records: with none waiting it is in transmission, behind a notice it waits. With nothing waiting and nothing buffered
nothing is in transmission. (R184, R185, R187, R194.) -/
def Obligations.TransmitterSendsInOrder : Prop :=
  ∀ (s : State) (x : Sending) (k : EventKind) (ws : List Waiting) (f g : Frame) (fs : List Frame)
      (reset : Bool),
    ((∀ r, s.jct.finished.getLast? = some r → s.summary .jobEnd = [byteOf r.id, byteOf r.final.code]) ∧
      (s.active = none → s.summary .jobHeld = [0, 0]) ∧
      (∀ j, s.active = some j → s.summary .jobHeld =
        [byteOf j.id, byteOf ((if j.reasons.bench then 1 else 0) + (if j.reasons.thermal then 2 else 0) +
          if j.reasons.spindle then 4 else 0)]) ∧
      (∀ r, s.chm.last = some r → s.summary .thermal = [byteOf r.before.code, byteOf r.after.code]) ∧
      s.summary .motion = [byteOf s.pos.spindle.code, byteOf s.pos.act.code] ∧
      s.summary .preamp =
        [if s.preampView = .active then 0 else 1, if s.flc.livePreamp = .active then 0 else 1] ∧
      (∀ r, s.blk.lastFault = some r → s.summary .link =
        [byteOf r.fault.code, byteOf (match r.fault with
          | .length => s.blk.counters.length
          | .gap => s.blk.counters.gap
          | .check => s.blk.counters.check
          | .overrun => s.blk.counters.overrun)]) ∧
      s.summary .profile = [byteOf s.pst.source.code, match s.pst.lastSave with
        | .none => 0
        | .done => 1
        | .failed _ => 2
        | .abandoned => 3]) ∧
    (s.inbox = [] → s.blk.sending = some x → x.reset = false →
    (s.blk.buffer = [] → s.blk.waiting = [] →
      exec .transmitComplete s = .next ((s.setNow (max s.now x.due)).setBlk { s.blk with sending := none })) ∧
    (s.blk.waiting = .notice k :: ws → s.blk.buffer = [] ∨ (∃ w ∈ ws, w.isReply = true) →
      ∃ t, exec .transmitComplete s = .next t ∧ t.now = max s.now x.due ∧ t.blk.waiting = ws ∧
        t.blk.sending = some
          { frame := { kind := 0x82, tag := 0, payload := byteOf k.code :: s.summary k }, isReply := false, reset := false
            due := max s.now x.due + 8000 } ∧
        t.blk.buffer = s.blk.buffer ∧ t.blk.events = s.blk.events ∧ t.pos = s.pos ∧ t.jct = s.jct) ∧
    (s.blk.waiting = .reply g reset :: ws →
      ∃ t, exec .transmitComplete s = .next t ∧ t.now = max s.now x.due ∧ t.blk.waiting = ws ∧
        t.blk.sending = some
          { frame := g, isReply := true, reset := reset, due := max s.now x.due + 1000 * (5 + g.payload.length) } ∧
        t.blk.buffer = s.blk.buffer ∧ t.blk.events = s.blk.events ∧ t.pos = s.pos ∧ t.jct = s.jct) ∧
    (s.blk.buffer = f :: fs → f.kind.toNat ∉ knownKinds → s.pst.state ≠ .starting →
      (s.blk.waiting = [] →
        ∃ t, exec .transmitComplete s = .next t ∧ t.now = max s.now x.due ∧ t.blk.buffer = fs ∧ t.blk.waiting = [] ∧
          t.blk.sending = some
            { frame := { kind := 0x81, tag := f.tag, payload := [1, 0] }, isReply := true, reset := false
              due := max s.now x.due + 7000 }) ∧
      (s.blk.waiting = .notice k :: ws → (∀ w ∈ ws, w.isReply = false) →
        ∃ t, exec .transmitComplete s = .next t ∧ t.now = max s.now x.due ∧ t.blk.buffer = fs ∧
          t.blk.waiting = ws ++ [.reply { kind := 0x81, tag := f.tag, payload := [1, 0] } false] ∧
          t.blk.sending = some
            { frame := { kind := 0x82, tag := 0, payload := byteOf k.code :: s.summary k }, isReply := false
              reset := false, due := max s.now x.due + 8000 })))
end

