-- ==== Sys2Proof/Laws/State.lean ====
section
/-! SUPPORT. One lemma per field per update of State, and the two collapses of each update. -/

namespace Sys2Proof.Machine

variable (s : State)

/-! ### setNow -/

@[simp] theorem State.setNow_now (x : Nat) : (s.setNow x).now = x := rfl
@[simp] theorem State.setNow_sdc (x : Nat) : (s.setNow x).sdc = s.sdc := rfl
@[simp] theorem State.setNow_pos (x : Nat) : (s.setNow x).pos = s.pos := rfl
@[simp] theorem State.setNow_window (x : Nat) : (s.setNow x).window = s.window := rfl
@[simp] theorem State.setNow_gcu (x : Nat) : (s.setNow x).gcu = s.gcu := rfl
@[simp] theorem State.setNow_jct (x : Nat) : (s.setNow x).jct = s.jct := rfl
@[simp] theorem State.setNow_hmp (x : Nat) : (s.setNow x).hmp = s.hmp := rfl
@[simp] theorem State.setNow_chm (x : Nat) : (s.setNow x).chm = s.chm := rfl
@[simp] theorem State.setNow_rtm (x : Nat) : (s.setNow x).rtm = s.rtm := rfl
@[simp] theorem State.setNow_flc (x : Nat) : (s.setNow x).flc = s.flc := rfl
@[simp] theorem State.setNow_pst (x : Nat) : (s.setNow x).pst = s.pst := rfl
@[simp] theorem State.setNow_blk (x : Nat) : (s.setNow x).blk = s.blk := rfl
@[simp] theorem State.setNow_free (x : Nat) : (s.setNow x).free = s.free := rfl
@[simp] theorem State.setNow_inbox (x : Nat) : (s.setNow x).inbox = s.inbox := rfl
@[simp] theorem State.setNow_pending (x : Nat) : (s.setNow x).pending = s.pending := rfl
@[simp] theorem State.setNow_prof (x : Nat) : (s.setNow x).prof = s.prof := rfl
@[simp] theorem State.setNow_self : s.setNow s.now = s := rfl
@[simp] theorem State.setNow_twice (x y : Nat) : (s.setNow x).setNow y = s.setNow y := rfl

/-! ### setSdc -/

@[simp] theorem State.setSdc_now (x : Sdc) : (s.setSdc x).now = s.now := rfl
@[simp] theorem State.setSdc_sdc (x : Sdc) : (s.setSdc x).sdc = x := rfl
@[simp] theorem State.setSdc_pos (x : Sdc) : (s.setSdc x).pos = s.pos := rfl
@[simp] theorem State.setSdc_window (x : Sdc) : (s.setSdc x).window = s.window := rfl
@[simp] theorem State.setSdc_gcu (x : Sdc) : (s.setSdc x).gcu = s.gcu := rfl
@[simp] theorem State.setSdc_jct (x : Sdc) : (s.setSdc x).jct = s.jct := rfl
@[simp] theorem State.setSdc_hmp (x : Sdc) : (s.setSdc x).hmp = s.hmp := rfl
@[simp] theorem State.setSdc_chm (x : Sdc) : (s.setSdc x).chm = s.chm := rfl
@[simp] theorem State.setSdc_rtm (x : Sdc) : (s.setSdc x).rtm = s.rtm := rfl
@[simp] theorem State.setSdc_flc (x : Sdc) : (s.setSdc x).flc = s.flc := rfl
@[simp] theorem State.setSdc_pst (x : Sdc) : (s.setSdc x).pst = s.pst := rfl
@[simp] theorem State.setSdc_blk (x : Sdc) : (s.setSdc x).blk = s.blk := rfl
@[simp] theorem State.setSdc_free (x : Sdc) : (s.setSdc x).free = s.free := rfl
@[simp] theorem State.setSdc_inbox (x : Sdc) : (s.setSdc x).inbox = s.inbox := rfl
@[simp] theorem State.setSdc_pending (x : Sdc) : (s.setSdc x).pending = s.pending := rfl
@[simp] theorem State.setSdc_prof (x : Sdc) : (s.setSdc x).prof = s.prof := rfl
@[simp] theorem State.setSdc_self : s.setSdc s.sdc = s := rfl
@[simp] theorem State.setSdc_twice (x y : Sdc) : (s.setSdc x).setSdc y = s.setSdc y := rfl

/-! ### setPos -/

@[simp] theorem State.setPos_now (x : Pos) : (s.setPos x).now = s.now := rfl
@[simp] theorem State.setPos_sdc (x : Pos) : (s.setPos x).sdc = s.sdc := rfl
@[simp] theorem State.setPos_pos (x : Pos) : (s.setPos x).pos = x := rfl
@[simp] theorem State.setPos_window (x : Pos) : (s.setPos x).window = s.window := rfl
@[simp] theorem State.setPos_gcu (x : Pos) : (s.setPos x).gcu = s.gcu := rfl
@[simp] theorem State.setPos_jct (x : Pos) : (s.setPos x).jct = s.jct := rfl
@[simp] theorem State.setPos_hmp (x : Pos) : (s.setPos x).hmp = s.hmp := rfl
@[simp] theorem State.setPos_chm (x : Pos) : (s.setPos x).chm = s.chm := rfl
@[simp] theorem State.setPos_rtm (x : Pos) : (s.setPos x).rtm = s.rtm := rfl
@[simp] theorem State.setPos_flc (x : Pos) : (s.setPos x).flc = s.flc := rfl
@[simp] theorem State.setPos_pst (x : Pos) : (s.setPos x).pst = s.pst := rfl
@[simp] theorem State.setPos_blk (x : Pos) : (s.setPos x).blk = s.blk := rfl
@[simp] theorem State.setPos_free (x : Pos) : (s.setPos x).free = s.free := rfl
@[simp] theorem State.setPos_inbox (x : Pos) : (s.setPos x).inbox = s.inbox := rfl
@[simp] theorem State.setPos_pending (x : Pos) : (s.setPos x).pending = s.pending := rfl
@[simp] theorem State.setPos_prof (x : Pos) : (s.setPos x).prof = s.prof := rfl
@[simp] theorem State.setPos_self : s.setPos s.pos = s := rfl
@[simp] theorem State.setPos_twice (x y : Pos) : (s.setPos x).setPos y = s.setPos y := rfl

/-! ### setWindow -/

@[simp] theorem State.setWindow_now (x : Option Window) : (s.setWindow x).now = s.now := rfl
@[simp] theorem State.setWindow_sdc (x : Option Window) : (s.setWindow x).sdc = s.sdc := rfl
@[simp] theorem State.setWindow_pos (x : Option Window) : (s.setWindow x).pos = s.pos := rfl
@[simp] theorem State.setWindow_window (x : Option Window) : (s.setWindow x).window = x := rfl
@[simp] theorem State.setWindow_gcu (x : Option Window) : (s.setWindow x).gcu = s.gcu := rfl
@[simp] theorem State.setWindow_jct (x : Option Window) : (s.setWindow x).jct = s.jct := rfl
@[simp] theorem State.setWindow_hmp (x : Option Window) : (s.setWindow x).hmp = s.hmp := rfl
@[simp] theorem State.setWindow_chm (x : Option Window) : (s.setWindow x).chm = s.chm := rfl
@[simp] theorem State.setWindow_rtm (x : Option Window) : (s.setWindow x).rtm = s.rtm := rfl
@[simp] theorem State.setWindow_flc (x : Option Window) : (s.setWindow x).flc = s.flc := rfl
@[simp] theorem State.setWindow_pst (x : Option Window) : (s.setWindow x).pst = s.pst := rfl
@[simp] theorem State.setWindow_blk (x : Option Window) : (s.setWindow x).blk = s.blk := rfl
@[simp] theorem State.setWindow_free (x : Option Window) : (s.setWindow x).free = s.free := rfl
@[simp] theorem State.setWindow_inbox (x : Option Window) : (s.setWindow x).inbox = s.inbox := rfl
@[simp] theorem State.setWindow_pending (x : Option Window) : (s.setWindow x).pending = s.pending := rfl
@[simp] theorem State.setWindow_prof (x : Option Window) : (s.setWindow x).prof = s.prof := rfl
@[simp] theorem State.setWindow_self : s.setWindow s.window = s := rfl
@[simp] theorem State.setWindow_twice (x y : Option Window) : (s.setWindow x).setWindow y = s.setWindow y := rfl

/-! ### setGcu -/

@[simp] theorem State.setGcu_now (x : Gcu) : (s.setGcu x).now = s.now := rfl
@[simp] theorem State.setGcu_sdc (x : Gcu) : (s.setGcu x).sdc = s.sdc := rfl
@[simp] theorem State.setGcu_pos (x : Gcu) : (s.setGcu x).pos = s.pos := rfl
@[simp] theorem State.setGcu_window (x : Gcu) : (s.setGcu x).window = s.window := rfl
@[simp] theorem State.setGcu_gcu (x : Gcu) : (s.setGcu x).gcu = x := rfl
@[simp] theorem State.setGcu_jct (x : Gcu) : (s.setGcu x).jct = s.jct := rfl
@[simp] theorem State.setGcu_hmp (x : Gcu) : (s.setGcu x).hmp = s.hmp := rfl
@[simp] theorem State.setGcu_chm (x : Gcu) : (s.setGcu x).chm = s.chm := rfl
@[simp] theorem State.setGcu_rtm (x : Gcu) : (s.setGcu x).rtm = s.rtm := rfl
@[simp] theorem State.setGcu_flc (x : Gcu) : (s.setGcu x).flc = s.flc := rfl
@[simp] theorem State.setGcu_pst (x : Gcu) : (s.setGcu x).pst = s.pst := rfl
@[simp] theorem State.setGcu_blk (x : Gcu) : (s.setGcu x).blk = s.blk := rfl
@[simp] theorem State.setGcu_free (x : Gcu) : (s.setGcu x).free = s.free := rfl
@[simp] theorem State.setGcu_inbox (x : Gcu) : (s.setGcu x).inbox = s.inbox := rfl
@[simp] theorem State.setGcu_pending (x : Gcu) : (s.setGcu x).pending = s.pending := rfl
@[simp] theorem State.setGcu_prof (x : Gcu) : (s.setGcu x).prof = s.prof := rfl
@[simp] theorem State.setGcu_self : s.setGcu s.gcu = s := rfl
@[simp] theorem State.setGcu_twice (x y : Gcu) : (s.setGcu x).setGcu y = s.setGcu y := rfl

/-! ### setJct -/

@[simp] theorem State.setJct_now (x : Jct) : (s.setJct x).now = s.now := rfl
@[simp] theorem State.setJct_sdc (x : Jct) : (s.setJct x).sdc = s.sdc := rfl
@[simp] theorem State.setJct_pos (x : Jct) : (s.setJct x).pos = s.pos := rfl
@[simp] theorem State.setJct_window (x : Jct) : (s.setJct x).window = s.window := rfl
@[simp] theorem State.setJct_gcu (x : Jct) : (s.setJct x).gcu = s.gcu := rfl
@[simp] theorem State.setJct_jct (x : Jct) : (s.setJct x).jct = x := rfl
@[simp] theorem State.setJct_hmp (x : Jct) : (s.setJct x).hmp = s.hmp := rfl
@[simp] theorem State.setJct_chm (x : Jct) : (s.setJct x).chm = s.chm := rfl
@[simp] theorem State.setJct_rtm (x : Jct) : (s.setJct x).rtm = s.rtm := rfl
@[simp] theorem State.setJct_flc (x : Jct) : (s.setJct x).flc = s.flc := rfl
@[simp] theorem State.setJct_pst (x : Jct) : (s.setJct x).pst = s.pst := rfl
@[simp] theorem State.setJct_blk (x : Jct) : (s.setJct x).blk = s.blk := rfl
@[simp] theorem State.setJct_free (x : Jct) : (s.setJct x).free = s.free := rfl
@[simp] theorem State.setJct_inbox (x : Jct) : (s.setJct x).inbox = s.inbox := rfl
@[simp] theorem State.setJct_pending (x : Jct) : (s.setJct x).pending = s.pending := rfl
@[simp] theorem State.setJct_prof (x : Jct) : (s.setJct x).prof = s.prof := rfl
@[simp] theorem State.setJct_self : s.setJct s.jct = s := rfl
@[simp] theorem State.setJct_twice (x y : Jct) : (s.setJct x).setJct y = s.setJct y := rfl

/-! ### setHmp -/

@[simp] theorem State.setHmp_now (x : Hmp) : (s.setHmp x).now = s.now := rfl
@[simp] theorem State.setHmp_sdc (x : Hmp) : (s.setHmp x).sdc = s.sdc := rfl
@[simp] theorem State.setHmp_pos (x : Hmp) : (s.setHmp x).pos = s.pos := rfl
@[simp] theorem State.setHmp_window (x : Hmp) : (s.setHmp x).window = s.window := rfl
@[simp] theorem State.setHmp_gcu (x : Hmp) : (s.setHmp x).gcu = s.gcu := rfl
@[simp] theorem State.setHmp_jct (x : Hmp) : (s.setHmp x).jct = s.jct := rfl
@[simp] theorem State.setHmp_hmp (x : Hmp) : (s.setHmp x).hmp = x := rfl
@[simp] theorem State.setHmp_chm (x : Hmp) : (s.setHmp x).chm = s.chm := rfl
@[simp] theorem State.setHmp_rtm (x : Hmp) : (s.setHmp x).rtm = s.rtm := rfl
@[simp] theorem State.setHmp_flc (x : Hmp) : (s.setHmp x).flc = s.flc := rfl
@[simp] theorem State.setHmp_pst (x : Hmp) : (s.setHmp x).pst = s.pst := rfl
@[simp] theorem State.setHmp_blk (x : Hmp) : (s.setHmp x).blk = s.blk := rfl
@[simp] theorem State.setHmp_free (x : Hmp) : (s.setHmp x).free = s.free := rfl
@[simp] theorem State.setHmp_inbox (x : Hmp) : (s.setHmp x).inbox = s.inbox := rfl
@[simp] theorem State.setHmp_pending (x : Hmp) : (s.setHmp x).pending = s.pending := rfl
@[simp] theorem State.setHmp_prof (x : Hmp) : (s.setHmp x).prof = s.prof := rfl
@[simp] theorem State.setHmp_self : s.setHmp s.hmp = s := rfl
@[simp] theorem State.setHmp_twice (x y : Hmp) : (s.setHmp x).setHmp y = s.setHmp y := rfl

/-! ### setChm -/

@[simp] theorem State.setChm_now (x : Chm) : (s.setChm x).now = s.now := rfl
@[simp] theorem State.setChm_sdc (x : Chm) : (s.setChm x).sdc = s.sdc := rfl
@[simp] theorem State.setChm_pos (x : Chm) : (s.setChm x).pos = s.pos := rfl
@[simp] theorem State.setChm_window (x : Chm) : (s.setChm x).window = s.window := rfl
@[simp] theorem State.setChm_gcu (x : Chm) : (s.setChm x).gcu = s.gcu := rfl
@[simp] theorem State.setChm_jct (x : Chm) : (s.setChm x).jct = s.jct := rfl
@[simp] theorem State.setChm_hmp (x : Chm) : (s.setChm x).hmp = s.hmp := rfl
@[simp] theorem State.setChm_chm (x : Chm) : (s.setChm x).chm = x := rfl
@[simp] theorem State.setChm_rtm (x : Chm) : (s.setChm x).rtm = s.rtm := rfl
@[simp] theorem State.setChm_flc (x : Chm) : (s.setChm x).flc = s.flc := rfl
@[simp] theorem State.setChm_pst (x : Chm) : (s.setChm x).pst = s.pst := rfl
@[simp] theorem State.setChm_blk (x : Chm) : (s.setChm x).blk = s.blk := rfl
@[simp] theorem State.setChm_free (x : Chm) : (s.setChm x).free = s.free := rfl
@[simp] theorem State.setChm_inbox (x : Chm) : (s.setChm x).inbox = s.inbox := rfl
@[simp] theorem State.setChm_pending (x : Chm) : (s.setChm x).pending = s.pending := rfl
@[simp] theorem State.setChm_prof (x : Chm) : (s.setChm x).prof = s.prof := rfl
@[simp] theorem State.setChm_self : s.setChm s.chm = s := rfl
@[simp] theorem State.setChm_twice (x y : Chm) : (s.setChm x).setChm y = s.setChm y := rfl

/-! ### setRtm -/

@[simp] theorem State.setRtm_now (x : Rtm) : (s.setRtm x).now = s.now := rfl
@[simp] theorem State.setRtm_sdc (x : Rtm) : (s.setRtm x).sdc = s.sdc := rfl
@[simp] theorem State.setRtm_pos (x : Rtm) : (s.setRtm x).pos = s.pos := rfl
@[simp] theorem State.setRtm_window (x : Rtm) : (s.setRtm x).window = s.window := rfl
@[simp] theorem State.setRtm_gcu (x : Rtm) : (s.setRtm x).gcu = s.gcu := rfl
@[simp] theorem State.setRtm_jct (x : Rtm) : (s.setRtm x).jct = s.jct := rfl
@[simp] theorem State.setRtm_hmp (x : Rtm) : (s.setRtm x).hmp = s.hmp := rfl
@[simp] theorem State.setRtm_chm (x : Rtm) : (s.setRtm x).chm = s.chm := rfl
@[simp] theorem State.setRtm_rtm (x : Rtm) : (s.setRtm x).rtm = x := rfl
@[simp] theorem State.setRtm_flc (x : Rtm) : (s.setRtm x).flc = s.flc := rfl
@[simp] theorem State.setRtm_pst (x : Rtm) : (s.setRtm x).pst = s.pst := rfl
@[simp] theorem State.setRtm_blk (x : Rtm) : (s.setRtm x).blk = s.blk := rfl
@[simp] theorem State.setRtm_free (x : Rtm) : (s.setRtm x).free = s.free := rfl
@[simp] theorem State.setRtm_inbox (x : Rtm) : (s.setRtm x).inbox = s.inbox := rfl
@[simp] theorem State.setRtm_pending (x : Rtm) : (s.setRtm x).pending = s.pending := rfl
@[simp] theorem State.setRtm_prof (x : Rtm) : (s.setRtm x).prof = s.prof := rfl
@[simp] theorem State.setRtm_self : s.setRtm s.rtm = s := rfl
@[simp] theorem State.setRtm_twice (x y : Rtm) : (s.setRtm x).setRtm y = s.setRtm y := rfl

/-! ### setFlc -/

@[simp] theorem State.setFlc_now (x : Flc) : (s.setFlc x).now = s.now := rfl
@[simp] theorem State.setFlc_sdc (x : Flc) : (s.setFlc x).sdc = s.sdc := rfl
@[simp] theorem State.setFlc_pos (x : Flc) : (s.setFlc x).pos = s.pos := rfl
@[simp] theorem State.setFlc_window (x : Flc) : (s.setFlc x).window = s.window := rfl
@[simp] theorem State.setFlc_gcu (x : Flc) : (s.setFlc x).gcu = s.gcu := rfl
@[simp] theorem State.setFlc_jct (x : Flc) : (s.setFlc x).jct = s.jct := rfl
@[simp] theorem State.setFlc_hmp (x : Flc) : (s.setFlc x).hmp = s.hmp := rfl
@[simp] theorem State.setFlc_chm (x : Flc) : (s.setFlc x).chm = s.chm := rfl
@[simp] theorem State.setFlc_rtm (x : Flc) : (s.setFlc x).rtm = s.rtm := rfl
@[simp] theorem State.setFlc_flc (x : Flc) : (s.setFlc x).flc = x := rfl
@[simp] theorem State.setFlc_pst (x : Flc) : (s.setFlc x).pst = s.pst := rfl
@[simp] theorem State.setFlc_blk (x : Flc) : (s.setFlc x).blk = s.blk := rfl
@[simp] theorem State.setFlc_free (x : Flc) : (s.setFlc x).free = s.free := rfl
@[simp] theorem State.setFlc_inbox (x : Flc) : (s.setFlc x).inbox = s.inbox := rfl
@[simp] theorem State.setFlc_pending (x : Flc) : (s.setFlc x).pending = s.pending := rfl
@[simp] theorem State.setFlc_prof (x : Flc) : (s.setFlc x).prof = s.prof := rfl
@[simp] theorem State.setFlc_self : s.setFlc s.flc = s := rfl
@[simp] theorem State.setFlc_twice (x y : Flc) : (s.setFlc x).setFlc y = s.setFlc y := rfl

/-! ### setPst -/

@[simp] theorem State.setPst_now (x : Pst) : (s.setPst x).now = s.now := rfl
@[simp] theorem State.setPst_sdc (x : Pst) : (s.setPst x).sdc = s.sdc := rfl
@[simp] theorem State.setPst_pos (x : Pst) : (s.setPst x).pos = s.pos := rfl
@[simp] theorem State.setPst_window (x : Pst) : (s.setPst x).window = s.window := rfl
@[simp] theorem State.setPst_gcu (x : Pst) : (s.setPst x).gcu = s.gcu := rfl
@[simp] theorem State.setPst_jct (x : Pst) : (s.setPst x).jct = s.jct := rfl
@[simp] theorem State.setPst_hmp (x : Pst) : (s.setPst x).hmp = s.hmp := rfl
@[simp] theorem State.setPst_chm (x : Pst) : (s.setPst x).chm = s.chm := rfl
@[simp] theorem State.setPst_rtm (x : Pst) : (s.setPst x).rtm = s.rtm := rfl
@[simp] theorem State.setPst_flc (x : Pst) : (s.setPst x).flc = s.flc := rfl
@[simp] theorem State.setPst_pst (x : Pst) : (s.setPst x).pst = x := rfl
@[simp] theorem State.setPst_blk (x : Pst) : (s.setPst x).blk = s.blk := rfl
@[simp] theorem State.setPst_free (x : Pst) : (s.setPst x).free = s.free := rfl
@[simp] theorem State.setPst_inbox (x : Pst) : (s.setPst x).inbox = s.inbox := rfl
@[simp] theorem State.setPst_pending (x : Pst) : (s.setPst x).pending = s.pending := rfl
@[simp] theorem State.setPst_prof (x : Pst) : (s.setPst x).prof = x.profile := rfl
@[simp] theorem State.setPst_self : s.setPst s.pst = s := rfl
@[simp] theorem State.setPst_twice (x y : Pst) : (s.setPst x).setPst y = s.setPst y := rfl

/-! ### setBlk -/

@[simp] theorem State.setBlk_now (x : Blk) : (s.setBlk x).now = s.now := rfl
@[simp] theorem State.setBlk_sdc (x : Blk) : (s.setBlk x).sdc = s.sdc := rfl
@[simp] theorem State.setBlk_pos (x : Blk) : (s.setBlk x).pos = s.pos := rfl
@[simp] theorem State.setBlk_window (x : Blk) : (s.setBlk x).window = s.window := rfl
@[simp] theorem State.setBlk_gcu (x : Blk) : (s.setBlk x).gcu = s.gcu := rfl
@[simp] theorem State.setBlk_jct (x : Blk) : (s.setBlk x).jct = s.jct := rfl
@[simp] theorem State.setBlk_hmp (x : Blk) : (s.setBlk x).hmp = s.hmp := rfl
@[simp] theorem State.setBlk_chm (x : Blk) : (s.setBlk x).chm = s.chm := rfl
@[simp] theorem State.setBlk_rtm (x : Blk) : (s.setBlk x).rtm = s.rtm := rfl
@[simp] theorem State.setBlk_flc (x : Blk) : (s.setBlk x).flc = s.flc := rfl
@[simp] theorem State.setBlk_pst (x : Blk) : (s.setBlk x).pst = s.pst := rfl
@[simp] theorem State.setBlk_blk (x : Blk) : (s.setBlk x).blk = x := rfl
@[simp] theorem State.setBlk_free (x : Blk) : (s.setBlk x).free = s.free := rfl
@[simp] theorem State.setBlk_inbox (x : Blk) : (s.setBlk x).inbox = s.inbox := rfl
@[simp] theorem State.setBlk_pending (x : Blk) : (s.setBlk x).pending = s.pending := rfl
@[simp] theorem State.setBlk_prof (x : Blk) : (s.setBlk x).prof = s.prof := rfl
@[simp] theorem State.setBlk_self : s.setBlk s.blk = s := rfl
@[simp] theorem State.setBlk_twice (x y : Blk) : (s.setBlk x).setBlk y = s.setBlk y := rfl

/-! ### setFree -/

@[simp] theorem State.setFree_now (x : Nat) : (s.setFree x).now = s.now := rfl
@[simp] theorem State.setFree_sdc (x : Nat) : (s.setFree x).sdc = s.sdc := rfl
@[simp] theorem State.setFree_pos (x : Nat) : (s.setFree x).pos = s.pos := rfl
@[simp] theorem State.setFree_window (x : Nat) : (s.setFree x).window = s.window := rfl
@[simp] theorem State.setFree_gcu (x : Nat) : (s.setFree x).gcu = s.gcu := rfl
@[simp] theorem State.setFree_jct (x : Nat) : (s.setFree x).jct = s.jct := rfl
@[simp] theorem State.setFree_hmp (x : Nat) : (s.setFree x).hmp = s.hmp := rfl
@[simp] theorem State.setFree_chm (x : Nat) : (s.setFree x).chm = s.chm := rfl
@[simp] theorem State.setFree_rtm (x : Nat) : (s.setFree x).rtm = s.rtm := rfl
@[simp] theorem State.setFree_flc (x : Nat) : (s.setFree x).flc = s.flc := rfl
@[simp] theorem State.setFree_pst (x : Nat) : (s.setFree x).pst = s.pst := rfl
@[simp] theorem State.setFree_blk (x : Nat) : (s.setFree x).blk = s.blk := rfl
@[simp] theorem State.setFree_free (x : Nat) : (s.setFree x).free = x := rfl
@[simp] theorem State.setFree_inbox (x : Nat) : (s.setFree x).inbox = s.inbox := rfl
@[simp] theorem State.setFree_pending (x : Nat) : (s.setFree x).pending = s.pending := rfl
@[simp] theorem State.setFree_prof (x : Nat) : (s.setFree x).prof = s.prof := rfl
@[simp] theorem State.setFree_self : s.setFree s.free = s := rfl
@[simp] theorem State.setFree_twice (x y : Nat) : (s.setFree x).setFree y = s.setFree y := rfl

/-! ### setInbox -/

@[simp] theorem State.setInbox_now (x : List JctMsg) : (s.setInbox x).now = s.now := rfl
@[simp] theorem State.setInbox_sdc (x : List JctMsg) : (s.setInbox x).sdc = s.sdc := rfl
@[simp] theorem State.setInbox_pos (x : List JctMsg) : (s.setInbox x).pos = s.pos := rfl
@[simp] theorem State.setInbox_window (x : List JctMsg) : (s.setInbox x).window = s.window := rfl
@[simp] theorem State.setInbox_gcu (x : List JctMsg) : (s.setInbox x).gcu = s.gcu := rfl
@[simp] theorem State.setInbox_jct (x : List JctMsg) : (s.setInbox x).jct = s.jct := rfl
@[simp] theorem State.setInbox_hmp (x : List JctMsg) : (s.setInbox x).hmp = s.hmp := rfl
@[simp] theorem State.setInbox_chm (x : List JctMsg) : (s.setInbox x).chm = s.chm := rfl
@[simp] theorem State.setInbox_rtm (x : List JctMsg) : (s.setInbox x).rtm = s.rtm := rfl
@[simp] theorem State.setInbox_flc (x : List JctMsg) : (s.setInbox x).flc = s.flc := rfl
@[simp] theorem State.setInbox_pst (x : List JctMsg) : (s.setInbox x).pst = s.pst := rfl
@[simp] theorem State.setInbox_blk (x : List JctMsg) : (s.setInbox x).blk = s.blk := rfl
@[simp] theorem State.setInbox_free (x : List JctMsg) : (s.setInbox x).free = s.free := rfl
@[simp] theorem State.setInbox_inbox (x : List JctMsg) : (s.setInbox x).inbox = x := rfl
@[simp] theorem State.setInbox_pending (x : List JctMsg) : (s.setInbox x).pending = s.pending := rfl
@[simp] theorem State.setInbox_prof (x : List JctMsg) : (s.setInbox x).prof = s.prof := rfl
@[simp] theorem State.setInbox_self : s.setInbox s.inbox = s := rfl
@[simp] theorem State.setInbox_twice (x y : List JctMsg) : (s.setInbox x).setInbox y = s.setInbox y := rfl

/-! ### setPending -/

@[simp] theorem State.setPending_now (x : List Instr) : (s.setPending x).now = s.now := rfl
@[simp] theorem State.setPending_sdc (x : List Instr) : (s.setPending x).sdc = s.sdc := rfl
@[simp] theorem State.setPending_pos (x : List Instr) : (s.setPending x).pos = s.pos := rfl
@[simp] theorem State.setPending_window (x : List Instr) : (s.setPending x).window = s.window := rfl
@[simp] theorem State.setPending_gcu (x : List Instr) : (s.setPending x).gcu = s.gcu := rfl
@[simp] theorem State.setPending_jct (x : List Instr) : (s.setPending x).jct = s.jct := rfl
@[simp] theorem State.setPending_hmp (x : List Instr) : (s.setPending x).hmp = s.hmp := rfl
@[simp] theorem State.setPending_chm (x : List Instr) : (s.setPending x).chm = s.chm := rfl
@[simp] theorem State.setPending_rtm (x : List Instr) : (s.setPending x).rtm = s.rtm := rfl
@[simp] theorem State.setPending_flc (x : List Instr) : (s.setPending x).flc = s.flc := rfl
@[simp] theorem State.setPending_pst (x : List Instr) : (s.setPending x).pst = s.pst := rfl
@[simp] theorem State.setPending_blk (x : List Instr) : (s.setPending x).blk = s.blk := rfl
@[simp] theorem State.setPending_free (x : List Instr) : (s.setPending x).free = s.free := rfl
@[simp] theorem State.setPending_inbox (x : List Instr) : (s.setPending x).inbox = s.inbox := rfl
@[simp] theorem State.setPending_pending (x : List Instr) : (s.setPending x).pending = x := rfl
@[simp] theorem State.setPending_prof (x : List Instr) : (s.setPending x).prof = s.prof := rfl
@[simp] theorem State.setPending_self : s.setPending s.pending = s := rfl
@[simp] theorem State.setPending_twice (x y : List Instr) : (s.setPending x).setPending y = s.setPending y := rfl

/-! ### The coil drive -/

/-- The coil drive follows from the Positioner alone (R23). -/
theorem State.coilDrive_of_pos {s t : State} (h : t.pos = s.pos) : t.coilDrive = s.coilDrive := by
  unfold State.coilDrive
  rw [h]

theorem State.coilDrive_unloading {s : State} (h : s.pos.act = .unloading) : s.coilDrive = .unloadPath := by
  simp [State.coilDrive, h]

theorem State.coilDrive_parked {s : State} (h : s.pos.act = .parked) : s.coilDrive = .holdOnRamp := by
  simp [State.coilDrive, h]

theorem State.coilDrive_loading {s : State} (h : s.pos.act = .loading) : s.coilDrive = .loadPath := by
  simp [State.coilDrive, h]

end Sys2Proof.Machine
end

