-- ==== Sys2Proof/Laws/Work.lean ====
section
/-! SUPPORT. What the Job Controller's work inside one arrival can do, said once: it is a chain of the elementary operations
that `Work` lists. A law that each of them keeps is kept by the whole work of an arrival, by induction on `Work`. -/

namespace Sys2Proof.Machine

/-- The state after some work of the Job Controller, from the state before it: the elementary operations it uses. -/
inductive Work : State → State → Prop where
  | refl (s : State) : Work s s
  | trans {s t u : State} (h : Work s t) (k : Work t u) : Work s u
  /-- Reports and continuations (log 15). -/
  | inbox (s : State) (x : List JctMsg) : Work s (s.setInbox x)
  /-- A change of its own state: the job table grows in no work, and the finished list keeps its bound (R98, R103). -/
  | jct (s : State) (x : Jct) (ht : x.table.length ≤ s.jct.table.length)
      (hf : x.finished = s.jct.finished ∨ x.finished.length ≤ 8) : Work s (s.setJct x)
  /-- A capture (R129). -/
  | capture (s : State) (head zone : Nat) (r : Result) (job : Nat) : Work s (s.capture head zone r job)
  /-- An event (R188). -/
  | raise (s : State) (k : EventKind) : Work s (s.raise k)
  /-- A rest-timer reload (R158). -/
  | reload (s : State) (src : Source) : Work s (s.reload src)
  /-- The unload of the rest condition (R160). -/
  | rest (s : State) (h : s.restHolds = true) : Work s (s.beginUnload .rest)
  /-- A head selection (R164). -/
  | select (s : State) (head : Nat) : Work s (s.selectHead head)
  /-- The end of an open window (R57). -/
  | endWindow (s : State) (e : WindowEnding) : Work s (s.endWindow e)
  /-- An opening order (R45). -/
  | openWindow (s : State) (k : WindowKind) (head size attempt : Nat) : Work s (s.openWindow k head size attempt)
  /-- An abort order (R84). -/
  | abortGate (s : State) (c : AbortCause) : Work s (s.abortGate c)
  /-- An arm order (R79). -/
  | armGate {s t : State} {m : GateMode} {head : Option Nat} {a : Nat} (h : s.armGate m head a = some t) : Work s t
  /-- A spin-up order (R20, R27). -/
  | spinUp {s t : State} {o : Owner} (h : s.takeSpinUp o = .ok t) : Work s t
  /-- A load order (R29). -/
  | load {s t : State} {o : Owner} (h : s.takeLoad o = .ok t) : Work s t
  /-- A seek order (R32). -/
  | seek {s t : State} {track : Nat} {offset : Int} {o : Owner} {k : SeekTaken} (h : s.takeSeek track offset o = .ok (k, t)) :
      Work s t
  /-- A jog order (R35). -/
  | jog {s t : State} {offset : Int} {o : Owner} (h : s.takeJog offset o = .ok t) : Work s t

/-- A change of the Job Controller's own state after some work. -/
theorem Work.setJct {s t : State} {x : Jct} (h : Work s t) (ht : x.table.length ≤ t.jct.table.length)
    (hf : x.finished = t.jct.finished ∨ x.finished.length ≤ 8) : Work s (t.setJct x) := h.trans (.jct t x ht hf)

/-- Work that follows other work. -/
theorem Work.andThen {s t u : State} (k : Work t u) (h : Work s t) : Work s u := h.trans k

variable (s : State)

theorem tell_work (m : JctMsg) : Work s (s.tell m) := .inbox s _

theorem goOn_work (m : JctMsg) : Work s (s.goOn m) := .inbox s _

theorem restTest_work : Work s s.restTest := by
  unfold State.restTest
  split
  · exact .rest s ‹_›
  · exact .refl s

/-! ## The Job Controller -/

theorem capture_work (h z : Nat) (r : Result) (j : Nat) : Work s (s.capture h z r j) := .capture _ _ _ _ _

theorem editActive_work (f : Job → Job) : Work s (s.editActive f) := .jct _ _ (by simp) (.inl rfl)

theorem setCtx_work (c : JobCtx) : Work s (s.setCtx c) := .jct _ _ (by simp) (.inl rfl)

theorem enterPhase_work (p : Phase) : Work s (s.enterPhase p) := .jct _ _ (by simp) (.inl rfl)

theorem await_work (a : Option Await) (w : Option WaitCond) : Work s (s.await a w) := .jct _ _ (by simp) (.inl rfl)

theorem newAttempt_work : Work s s.newAttempt := .jct _ _ (by simp) (.inl rfl)

theorem setTally_work (t : Tally) : Work s (s.setTally t) := .jct _ _ (by simp) (.inl rfl)

theorem stopSkew_work : Work s s.stopSkew := by
  unfold State.stopSkew
  refine Work.trans ?_ (setCtx_work _ _)
  split
  · exact (Work.abortGate s _).trans (Work.select _ _)
  · exact Work.abortGate s _

theorem endMeasurement_work : Work s s.endMeasurement := by
  unfold State.endMeasurement
  refine Work.trans ?_ (setCtx_work _ _)
  split
  · exact (Work.endWindow s _).trans (stopSkew_work _)
  · exact Work.endWindow s _

/-- At most 8 finished records are kept (R103). -/
theorem joinFinished_length (xs : List Finished) (x : Finished) : (joinFinished xs x).length ≤ 8 := by
  simp only [joinFinished, List.length_append, List.length_drop, List.length_singleton]
  omega

theorem finishJob_work (j : Job) (f : FinalState) (r : Option FailReason) : Work s (s.finishJob j f r) := by
  unfold State.finishJob
  refine .trans ?_ (goOn_work _ _)
  refine .trans ?_ (goOn_work _ _)
  refine .trans ?_ (.reload _ _)
  refine .trans ?_ (.raise _ _)
  refine .setJct ?_ (List.length_filter_le _ _) (.inr (joinFinished_length _ _))
  split
  · exact .setJct (endMeasurement_work s) (by simp) (.inl rfl)
  · exact .refl s

theorem finishActive_work (f : FinalState) (r : Option FailReason) : Work s (s.finishActive f r) := by
  unfold State.finishActive
  split
  · exact finishJob_work _ _ _ _
  · exact Work.refl s

theorem suspend_work : Work s s.suspend :=
  (((endMeasurement_work s).trans (editActive_work _ _)).trans (Work.raise _ _)).trans (restTest_work _)

theorem startRecovery_work : Work s s.startRecovery := by
  unfold State.startRecovery
  split
  · exact finishActive_work _ _ _
  · exact .jct _ _ (by simp) (.inl rfl)

theorem addReason_work (r : SuspendReason) : Work s (s.addReason r) := by
  unfold State.addReason
  split
  · exact Work.refl s
  · rename_i j _
    split
    · exact Work.refl s
    · dsimp only
      generalize hs : s.editActive _ = s1
      have h1 : Work s s1 := hs ▸ editActive_work s _
      have h2 : Work s (if j.state = .running then s1.suspend else s1) := by
        split
        · exact h1.trans (suspend_work _)
        · exact h1
      split
      · exact h2.trans (startRecovery_work _)
      · exact h2

theorem resume_work : Work s s.resume :=
  ((editActive_work s _).trans (newAttempt_work _)).trans (goOn_work _ _)

theorem dropReason_work (r : SuspendReason) : Work s (s.dropReason r) := by
  unfold State.dropReason
  split
  · exact Work.refl s
  · split
    · dsimp only
      generalize hs : s.editActive _ = s1
      have h1 : Work s s1 := hs ▸ editActive_work s _
      have h2 : Work s (if r = .spindle then s1.setJct { s1.jct with recoverDue := none } else s1) := by
        split
        · exact h1.trans (.jct _ _ (by simp) (.inl rfl))
        · exact h1
      split
      · exact h2.trans (resume_work _)
      · exact h2
    · exact Work.refl s

theorem startTest_work : Work s s.startTest := by
  unfold State.startTest
  split
  · refine .trans ?_ (goOn_work _ _)
    exact .jct _ _ (by simp) (.inl rfl)
  · exact .refl s

theorem nextZone_work (h : Here) (n : Nat) : Work s (s.nextZone h n) := by
  unfold State.nextZone
  split
  · refine .trans ?_ (goOn_work _ _)
    exact .setJct (editActive_work s _) (by simp) (.inl rfl)
  · exact finishActive_work _ _ _

theorem advance_work (h : Here) : Work s (s.advance h) := by
  unfold State.advance
  split
  · exact ((editActive_work s _).trans (setCtx_work _ _)).trans (goOn_work _ _)
  · split
    · split
      · exact finishActive_work _ _ _
      · exact nextZone_work _ _ _
    · exact nextZone_work _ _ _

theorem endWith_work (h : Here) (r : Result) : Work s (s.endWith h r) :=
  ((capture_work s _ _ _ _).trans (editActive_work _ _)).trans (advance_work _ _)

theorem skipHead_work (h : Here) : Work s (s.skipHead h) := (editActive_work s _).trans (advance_work _ _)

theorem takeUp_work : Work s s.takeUp := by
  unfold State.takeUp
  split
  · exact Work.refl s
  · split
    · exact skipHead_work _ _
    · split
      · exact endWith_work _ _ _
      · exact ((newAttempt_work s).trans (enterPhase_work _ _)).trans (goOn_work _ _)

theorem retry_work : Work s s.retry :=
  ((editActive_work s _).trans (newAttempt_work _)).trans (goOn_work _ _)

theorem failHead_work (h : Here) (r : Reason) : Work s (s.failHead h r) := by
  unfold State.failHead
  split
  · exact retry_work s
  · exact endWith_work _ _ _

theorem failZone_work (h : Here) : Work s (s.failZone h) := by
  unfold State.failZone
  split
  · exact retry_work s
  · exact .andThen (endWith_work _ _ _) (.setJct (.refl s) (by simp) (.inl rfl))

theorem collect_work (h : Here) (p : Phase) (k : WindowKind) : Work s (s.collect h p k) :=
  ((enterPhase_work s _).trans (await_work _ _ _)).trans (Work.openWindow _ _ _ _ _)

theorem jogTo_work (h : Here) (p : Phase) (x : Int) : Work s (s.jogTo h p x) := by
  unfold State.jogTo
  split
  · exact ((Work.jog ‹_›).trans (enterPhase_work _ _)).trans (await_work _ _ _)
  · exact failHead_work _ _ _

theorem jogFirst_work (h : Here) : Work s (s.jogFirst h) := by
  unfold State.jogFirst
  split
  · exact collect_work _ _ _ _
  · exact jogTo_work _ _ _ _

theorem arm_work (m : GateMode) (h : Option Nat) : Work s (s.arm m h) := by
  unfold State.arm
  dsimp only
  split
  · exact (await_work s _ _).trans (Work.armGate ‹_›)
  · cases e : (((s.await (some .gate) none).abortGate .job).armGate m h (s.await (some .gate) none).jct.attempt) with
    | none => exact await_work s _ _
    | some t => exact ((await_work s _ _).trans (Work.abortGate _ _)).trans (Work.armGate e)

theorem startPeriod_work : Work s s.startPeriod :=
  ((enterPhase_work s _).trans (setCtx_work _ _)).trans (arm_work _ _ _)

theorem startGateA_work : Work s s.startGateA := (enterPhase_work s _).trans (arm_work _ _ _)

theorem startGateP_work : Work s s.startGateP := (enterPhase_work s _).trans (await_work _ _ _)

theorem failSkew_work (h : Here) (r : Reason) : Work s (s.failSkew h r) :=
  (setTally_work s _).trans (failHead_work _ _ _)

theorem endSkew_work (h : Here) : Work s (s.endSkew h) := by
  unfold State.endSkew
  dsimp only
  split
  · exact failSkew_work _ _ _
  · exact ((enterPhase_work s _).trans (setTally_work _ _)).trans (endWith_work _ _ _)

theorem pairDone_work (h : Here) : Work s (s.pairDone h) := by
  unfold State.pairDone
  dsimp only
  split
  · exact (setTally_work s _).trans (startGateA_work _)
  · exact (setTally_work s _).trans (endSkew_work _ _)

theorem firstPhase_work (h : Here) : Work s (s.firstPhase h) := by
  unfold State.firstPhase
  split
  · exact collect_work _ _ _ _
  · exact jogFirst_work _ _
  · exact startPeriod_work _

theorem zoneReached_work (h : Here) : Work s (s.zoneReached h) :=
  ((editActive_work s _).trans (await_work _ _ _)).trans (firstPhase_work _ _)

theorem zoneSeek_work (h : Here) : Work s (s.zoneSeek h) := by
  unfold State.zoneSeek
  dsimp only
  refine (enterPhase_work s .zoneSeek).trans ?_
  split
  · exact zoneReached_work _ _
  · split
    · exact (Work.seek ‹_›).trans (zoneReached_work _ _)
    · exact (Work.seek ‹_›).trans (await_work _ _ _)
    · exact (Work.seek ‹_›).trans (await_work _ _ _)
    · exact ((enterPhase_work _ _).trans (await_work _ _ _)).trans (goOn_work _ _)

theorem prepareLoad_work : Work s s.prepareLoad := by
  unfold State.prepareLoad
  split
  · exact (Work.load ‹_›).trans (await_work _ _ _)
  · split
    · exact finishActive_work _ _ _
    · exact await_work _ _ _
    · exact (await_work s _ _).trans (goOn_work _ _)
    · exact await_work _ _ _

theorem prepareActuator_work (h : Here) : Work s (s.prepareActuator h) := by
  unfold State.prepareActuator
  split
  · exact zoneSeek_work _ _
  · exact prepareLoad_work _
  · split <;> exact await_work _ _ _
  · split <;> exact await_work _ _ _
  · exact await_work _ _ _
  · exact await_work _ _ _
  · exact await_work _ _ _

theorem prepareSpin_work : Work s s.prepareSpin := by
  unfold State.prepareSpin
  split
  · exact (Work.spinUp ‹_›).trans (await_work _ _ _)
  · exact await_work _ _ _

theorem prepare_work : Work s s.prepare := by
  unfold State.prepare
  split
  · exact Work.refl s
  · split
    · split
      · exact prepareSpin_work s
      · exact prepareSpin_work s
      · split
        · split
          · exact (Work.spinUp ‹_›).trans (prepareActuator_work _ _)
          · exact Work.refl s
        · exact prepareActuator_work _ _
      · exact addReason_work _ _
      · exact await_work _ _ _
      · exact await_work _ _ _
    · exact Work.refl s

theorem takeSpinOutcome_work (o : MoveOutcome) : Work s (s.takeSpinOutcome o) := by
  unfold State.takeSpinOutcome
  split
  · exact (await_work s _ _).trans (goOn_work _ _)
  · exact finishActive_work _ _ _
  · exact Work.refl s

theorem takeLoadOutcome_work (o : MoveOutcome) : Work s (s.takeLoadOutcome o) := by
  unfold State.takeLoadOutcome
  split
  · exact (await_work s _ _).trans (goOn_work _ _)
  · exact finishActive_work _ _ _
  · exact Work.refl s

theorem takeSeekOutcome_work (h : Here) (o : MoveOutcome) : Work s (s.takeSeekOutcome h o) := by
  unfold State.takeSeekOutcome
  split
  · exact zoneReached_work _ _
  iterate 4 · exact failZone_work _ _
  · exact Work.refl s

theorem takeJogOutcome_work (h : Here) (o : MoveOutcome) : Work s (s.takeJogOutcome h o) := by
  unfold State.takeJogOutcome
  split
  · exact collect_work _ _ _ _
  · exact failHead_work _ _ _
  · exact failHead_work _ _ _
  · exact Work.refl s

theorem takeMove_work (k : MoveKind) (o : MoveOutcome) (n : Nat) : Work s (s.takeMove k o n) := by
  unfold State.takeMove
  split
  · exact Work.refl s
  · split
    · split
      · exact takeSpinOutcome_work _ _
      · exact Work.refl s
    · split
      · exact takeLoadOutcome_work _ _
      · exact Work.refl s
    iterate 2
      · split
        · exact takeSeekOutcome_work _ _ _
        · split
          · exact takeJogOutcome_work _ _ _
          · exact Work.refl s
    · exact Work.refl s
    · exact Work.refl s

theorem takeQualify_work (h : Here) (r : WindowReport) : Work s (s.takeQualify h r) := by
  unfold State.takeQualify
  split
  · exact ((enterPhase_work s _).trans (await_work _ _ _)).trans (endWith_work _ _ _)
  · split
    · exact failHead_work _ _ _
    · exact Work.refl s

theorem takeSpan_work (h : Here) (r : WindowReport) : Work s (s.takeSpan h r) := by
  unfold State.takeSpan
  split
  · exact failHead_work _ _ _
  · split
    · split
      · exact (setCtx_work s _).trans (jogTo_work _ _ _ _)
      · split
        · exact ((enterPhase_work s _).trans (await_work _ _ _)).trans (endWith_work _ _ _)
        · exact Work.refl s
    · exact Work.refl s

theorem takeWindow_work (r : WindowReport) (n : Nat) : Work s (s.takeWindow r n) := by
  unfold State.takeWindow
  split
  · exact Work.refl s
  · split
    · split
      · exact takeQualify_work _ _ _
      · exact takeSpan_work _ _ _
    · exact Work.refl s

theorem takePeriod_work (h : Here) (r : GateRecord) : Work s (s.takePeriod h r) := by
  unfold State.takePeriod
  split
  · exact (setTally_work s _).trans (startGateA_work _)
  · exact failSkew_work _ _ _
  · exact Work.refl s
  · exact Work.refl s

theorem takeGateA_work (h : Here) (r : GateRecord) : Work s (s.takeGateA h r) := by
  unfold State.takeGateA
  dsimp only
  split
  · exact (setTally_work s _).trans (startGateP_work _)
  · exact startGateP_work _
  · exact failSkew_work _ _ _
  · exact Work.refl s

theorem takeGateP_work (h : Here) (r : GateRecord) : Work s (s.takeGateP h r) := by
  unfold State.takeGateP
  extract_lets c s0 t
  have h0 : Work s s0 := (Work.select s _).trans (setCtx_work _ _)
  split
  · exact (h0.trans (setTally_work _ _)).trans (pairDone_work _ _)
  · exact h0.trans (pairDone_work _ _)
  · exact h0.trans (failSkew_work _ _ _)
  · exact Work.refl s

theorem takeGate_work (r : GateRecord) (n : Nat) : Work s (s.takeGate r n) := by
  unfold State.takeGate
  split
  · exact Work.refl s
  · split
    · split
      · exact takePeriod_work _ _ _
      · exact takeGateA_work _ _ _
      · exact takeGateP_work _ _ _
      · exact Work.refl s
    · exact Work.refl s

theorem departSkew_work (h : Here) (a : ActState) : Work s (s.departSkew h a) := by
  unfold State.departSkew
  have h1 := (stopSkew_work s).trans (await_work s.stopSkew none none)
  dsimp only
  cases a
  all_goals first
    | exact h1.trans (failHead_work _ _ _)
    | exact h1

theorem takeDeparture_work (a : ActState) (n : Nat) : Work s (s.takeDeparture a n) := by
  unfold State.takeDeparture
  split
  · exact Work.refl s
  · split
    · exact departSkew_work _ _ _
    · exact Work.refl s

theorem takeSwitch_work (n : Nat) : Work s (s.takeSwitch n) := by
  unfold State.takeSwitch
  split
  · exact Work.refl s
  · split
    · split
      · extract_lets s1
        exact Work.trans ((arm_work s _ _).trans (Work.select _ _)) (setCtx_work _ _)
      · exact departSkew_work _ _ _
    · exact Work.refl s

theorem takeSwitchLost_work (n : Nat) : Work s (s.takeSwitchLost n) := by
  unfold State.takeSwitchLost
  split
  · exact Work.refl s
  · split
    · exact pairDone_work _ _
    · exact Work.refl s

theorem takePosChange_work : Work s s.takePosChange := by
  unfold State.takePosChange
  split
  · exact prepare_work s
  · split
    · exact await_work _ _ _
    · exact Work.refl s
  · exact Work.refl s

theorem takeAtSpeed_work : Work s s.takeAtSpeed := by
  unfold State.takeAtSpeed
  split
  · exact dropReason_work _ _
  · exact Work.refl s

theorem takeLeftHot_work : Work s s.takeLeftHot := by
  unfold State.takeLeftHot
  split
  · exact dropReason_work _ _
  · exact startTest_work _

theorem takeLines_work : Work s s.takeLines := by
  unfold State.takeLines
  split
  · exact prepare_work _
  · exact startTest_work _

/-- All that the Job Controller's taking of one report leaves as it is. -/
theorem jctTake_work (m : JctMsg) : Work s (s.jctTake m) := by
  cases m with
  | moveEnded k o n => exact takeMove_work s k o n
  | posChanged => exact takePosChange_work s
  | atSpeed => exact takeAtSpeed_work s
  | offSpeed => exact addReason_work s _
  | departed a n => exact takeDeparture_work s a n
  | windowEnded r n => exact takeWindow_work s r n
  | gateEnded r n => exact takeGate_work s r n
  | switchPoint n => exact takeSwitch_work s n
  | switchLost n => exact takeSwitchLost_work s n
  | hot => exact addReason_work s _
  | leftHot => exact takeLeftHot_work s
  | linesReturned => exact takeLines_work s
  | preampFault => exact finishActive_work s _ _
  | takeUp => exact takeUp_work s
  | prepare => exact prepare_work s
  | startTest => exact startTest_work s
  | restTest => exact restTest_work s

/-- All that the Job Controller's work of a whole arrival leaves as it is. -/
theorem drain_work (n : Nat) : Work s (s.drain n) := by
  induction n generalizing s with
  | zero => exact Work.inbox s _
  | succ n ih =>
    unfold State.drain
    split
    · exact Work.refl s
    · exact ((Work.inbox s _).trans (jctTake_work _ _)).trans (ih _)

end Sys2Proof.Machine
end

