-- ==== Sys2Proof/Laws/Frames.lean ====
section
/-! SUPPORT. What the work of the Positioner, the Window Collector, the Gate Counter Unit and the Job Controller inside one
arrival leaves as it is: one lemma per operation, so that a statement about one block never unfolds another. -/

namespace Sys2Proof.Machine

/-- Everything that motion, windows, gates and jobs leave as it is, and the events they leave pending. -/
structure Carries (s t : State) : Prop where
  now : t.now = s.now
  chm : t.chm = s.chm
  pst : t.pst = s.pst
  free : t.free = s.free
  pending : t.pending = s.pending
  period : t.pos.period = s.pos.period
  indexRef : t.pos.indexRef = s.pos.indexRef
  control : t.pos.control = s.pos.control
  counts : t.sdc.counters = s.sdc.counters
  flc : t.flc = { s.flc with engineHead := t.flc.engineHead }
  published : t.hmp.published = s.hmp.published
  gen : t.hmp.gen = s.hmp.gen
  table : t.rtm.table = s.rtm.table
  asm : t.blk.asm = s.blk.asm
  buffer : t.blk.buffer = s.blk.buffer
  counters : t.blk.counters = s.blk.counters
  lastFault : t.blk.lastFault = s.blk.lastFault
  mask : t.blk.mask = s.blk.mask
  sending : t.blk.sending = s.blk.sending
  replies : t.blk.waiting.filter Waiting.isReply = s.blk.waiting.filter Waiting.isReply
  expect : s.rampView = .offRamp → t.sdc.expect = s.sdc.expect
  raised : ∀ k, s.blk.events.has k = true → t.blk.events.has k = true

namespace Carries

theorem refl (s : State) : Carries s s :=
  ⟨rfl, rfl, rfl, rfl, rfl, rfl, rfl, rfl, rfl, rfl, rfl, rfl, rfl, rfl, rfl, rfl, rfl, rfl, rfl, rfl, fun _ => rfl, fun _ h => h⟩

theorem trans {s t u : State} (h : Carries s t) (k : Carries t u) : Carries s u where
  now := k.now.trans h.now
  chm := k.chm.trans h.chm
  pst := k.pst.trans h.pst
  free := k.free.trans h.free
  pending := k.pending.trans h.pending
  period := k.period.trans h.period
  indexRef := k.indexRef.trans h.indexRef
  control := k.control.trans h.control
  counts := k.counts.trans h.counts
  flc := by rw [k.flc, h.flc]
  published := k.published.trans h.published
  gen := k.gen.trans h.gen
  table := k.table.trans h.table
  asm := k.asm.trans h.asm
  buffer := k.buffer.trans h.buffer
  counters := k.counters.trans h.counters
  lastFault := k.lastFault.trans h.lastFault
  mask := k.mask.trans h.mask
  sending := k.sending.trans h.sending
  replies := k.replies.trans h.replies
  expect := fun e => (k.expect (by unfold State.rampView at *; rw [h.flc]; exact e)).trans (h.expect e)
  raised := fun e he => k.raised e (h.raised e he)

theorem andThen {s t u : State} (k : Carries t u) (h : Carries s t) : Carries s u := h.trans k

theorem rampView {s t : State} (h : Carries s t) : t.rampView = s.rampView := by
  unfold State.rampView; rw [h.flc]

theorem prof {s t : State} (h : Carries s t) : t.prof = s.prof := by simp [State.prof, h.pst]

end Carries

variable (s : State)

/-! ## Updates -/

theorem setInbox_carries (x : List JctMsg) : Carries s (s.setInbox x) :=
  ⟨rfl, rfl, rfl, rfl, rfl, rfl, rfl, rfl, rfl, rfl, rfl, rfl, rfl, rfl, rfl, rfl, rfl, rfl, rfl, rfl, fun _ => rfl, fun _ h => h⟩

theorem setWindow_carries (x : Option Window) : Carries s (s.setWindow x) :=
  ⟨rfl, rfl, rfl, rfl, rfl, rfl, rfl, rfl, rfl, rfl, rfl, rfl, rfl, rfl, rfl, rfl, rfl, rfl, rfl, rfl, fun _ => rfl, fun _ h => h⟩

theorem setGcu_carries (x : Gcu) : Carries s (s.setGcu x) :=
  ⟨rfl, rfl, rfl, rfl, rfl, rfl, rfl, rfl, rfl, rfl, rfl, rfl, rfl, rfl, rfl, rfl, rfl, rfl, rfl, rfl, fun _ => rfl, fun _ h => h⟩

theorem setJct_carries (x : Jct) : Carries s (s.setJct x) :=
  ⟨rfl, rfl, rfl, rfl, rfl, rfl, rfl, rfl, rfl, rfl, rfl, rfl, rfl, rfl, rfl, rfl, rfl, rfl, rfl, rfl, fun _ => rfl, fun _ h => h⟩

theorem setSdc_carries (x : Sdc) (h : x.counters = s.sdc.counters)
    (he : s.rampView = .offRamp → x.expect = s.sdc.expect) : Carries s (s.setSdc x) :=
  ⟨rfl, rfl, rfl, rfl, rfl, rfl, rfl, rfl, h, rfl, rfl, rfl, rfl, rfl, rfl, rfl, rfl, rfl, rfl, rfl, he, fun _ h => h⟩

theorem setPos_carries (x : Pos) (hp : x.period = s.pos.period) (hi : x.indexRef = s.pos.indexRef)
    (hc : x.control = s.pos.control) : Carries s (s.setPos x) :=
  ⟨rfl, rfl, rfl, rfl, rfl, hp, hi, hc, rfl, rfl, rfl, rfl, rfl, rfl, rfl, rfl, rfl, rfl, rfl, rfl, fun _ => rfl, fun _ h => h⟩

theorem Carries.setPos {s t : State} {x : Pos} (h : Carries s t) (hp : x.period = t.pos.period)
    (hi : x.indexRef = t.pos.indexRef) (hc : x.control = t.pos.control) : Carries s (t.setPos x) :=
  h.trans (setPos_carries t x hp hi hc)

theorem setFlc_carries (x : Flc) (h : x = { s.flc with engineHead := x.engineHead }) : Carries s (s.setFlc x) :=
  ⟨rfl, rfl, rfl, rfl, rfl, rfl, rfl, rfl, rfl, h, rfl, rfl, rfl, rfl, rfl, rfl, rfl, rfl, rfl, rfl, fun _ => rfl, fun _ h => h⟩

theorem setHmp_carries (x : Hmp) (hp : x.published = s.hmp.published) (hg : x.gen = s.hmp.gen) : Carries s (s.setHmp x) :=
  ⟨rfl, rfl, rfl, rfl, rfl, rfl, rfl, rfl, rfl, rfl, hp, hg, rfl, rfl, rfl, rfl, rfl, rfl, rfl, rfl, fun _ => rfl, fun _ h => h⟩

theorem setRtm_carries (x : Rtm) (h : x.table = s.rtm.table) : Carries s (s.setRtm x) :=
  ⟨rfl, rfl, rfl, rfl, rfl, rfl, rfl, rfl, rfl, rfl, rfl, rfl, h, rfl, rfl, rfl, rfl, rfl, rfl, rfl, fun _ => rfl, fun _ h => h⟩

theorem tell_carries (m : JctMsg) : Carries s (s.tell m) := setInbox_carries s _

theorem goOn_carries (m : JctMsg) : Carries s (s.goOn m) := setInbox_carries s _

/-! ## Events -/

@[simp] theorem EventSet.has_put (e : EventSet) (k k' : EventKind) (b : Bool) :
    (e.put k b).has k' = if k' = k then b else e.has k' := by cases k <;> cases k' <;> rfl

/-- All that raising an event does to the Bench Link (R188). -/
theorem Blk.raise_cases (b : Blk) (k : EventKind) :
    b.raise k = b ∨
      (b.events.has k = false ∧ b.raise k = { b with events := b.events.put k true }) ∨
      (b.events.has k = false ∧
        b.raise k = { b with events := b.events.put k true, waiting := b.waiting ++ [.notice k] }) := by
  unfold Blk.raise
  split
  · exact .inl rfl
  · split
    · exact .inr (.inr ⟨by simpa using ‹¬b.events.has k = true›, rfl⟩)
    · exact .inr (.inl ⟨by simpa using ‹¬b.events.has k = true›, rfl⟩)

theorem raise_carries (k : EventKind) : Carries s (s.raise k) := by
  unfold State.raise
  rcases s.blk.raise_cases k with h | ⟨-, h⟩ | ⟨-, h⟩ <;> rw [h]
  · exact Carries.refl s
  · exact ⟨rfl, rfl, rfl, rfl, rfl, rfl, rfl, rfl, rfl, rfl, rfl, rfl, rfl, rfl, rfl, rfl, rfl, rfl, rfl, rfl, fun _ => rfl,
      fun e h => by simp only [State.setBlk_blk, EventSet.has_put]; split <;> simp_all⟩
  · exact ⟨rfl, rfl, rfl, rfl, rfl, rfl, rfl, rfl, rfl, rfl, rfl, rfl, rfl, rfl, rfl, rfl, rfl, rfl, rfl,
      by simp [Waiting.isReply], fun _ => rfl,
      fun e h => by simp only [State.setBlk_blk, EventSet.has_put]; split <;> simp_all⟩

/-- A raised event is pending (R188). -/
theorem raise_has (k : EventKind) : (s.raise k).blk.events.has k = true := by
  unfold State.raise
  rcases s.blk.raise_cases k with h | ⟨-, h⟩ | ⟨-, h⟩
  · rw [h]
    unfold Blk.raise at h
    split at h
    · simpa
    · split at h <;> (have := congrArg (fun b => b.events.has k) h; simp [Blk.joinNotice] at this; simp_all)
  · rw [h]; simp
  · rw [h]; simp

/-! ## Heads, slots and windows -/

theorem takeHeadChange_carries (n : Nat) : Carries s (s.takeHeadChange n) := by
  unfold State.takeHeadChange
  split
  · exact Carries.refl s
  · exact setSdc_carries _ _ rfl fun _ => rfl

theorem selectHead_carries (h : Nat) : Carries s (s.selectHead h) :=
  (setFlc_carries s _ rfl).trans (takeHeadChange_carries _ _)

theorem startSlots_carries : Carries s s.startSlots := setSdc_carries _ _ rfl fun _ => rfl

/-- Slots stop with the engine view of RAMP_SENSE at ON_RAMP (R39). -/
theorem stopSlots_carries (h : s.rampView = .onRamp) : Carries s s.stopSlots :=
  setSdc_carries _ _ rfl fun e => by rw [h] at e; cases e

theorem closeWindow_carries (w : Window) (e : WindowEnding) : Carries s (s.closeWindow w e) := by
  unfold State.closeWindow
  extract_lets s1 s2
  have h1 : Carries s s1 := by
    show Carries s (if w.probing then s.selectHead s.prof.anchor else s)
    split
    · exact selectHead_carries s _
    · exact Carries.refl s
  refine Carries.trans (t := s2) ?_ (setWindow_carries _ _)
  show Carries s (if e.reported then s1.tell (.windowEnded (w.report e) w.attempt) else s1)
  split
  · exact h1.trans (tell_carries _ _)
  · exact h1

theorem endWindow_carries (e : WindowEnding) : Carries s (s.endWindow e) := by
  unfold State.endWindow
  split
  · exact closeWindow_carries _ _ _
  · exact Carries.refl s

theorem openWindow_carries (k : WindowKind) (h n a : Nat) : Carries s (s.openWindow k h n a) := by
  unfold State.openWindow
  extract_lets s1 w
  have h1 : Carries s s1 := endWindow_carries s _
  split
  · exact h1.trans (setWindow_carries _ _)
  · exact h1.trans (closeWindow_carries _ _ _)

/-! ## Moves and changes of state -/

theorem reportMove_carries (m : Move) (o : MoveOutcome) : Carries s (s.reportMove m o) := by
  unfold State.reportMove
  split
  · exact setPos_carries _ _ rfl rfl rfl
  · exact tell_carries _ _
  · exact Carries.refl s

theorem endActMove_carries (o : MoveOutcome) : Carries s (s.endActMove o) := by
  unfold State.endActMove
  split
  · exact Carries.andThen (reportMove_carries _ _ _) (.setPos (.refl s) rfl rfl rfl)
  · exact Carries.refl s

theorem endSpinMove_carries (o : MoveOutcome) : Carries s (s.endSpinMove o) := by
  unfold State.endSpinMove
  split
  · exact Carries.andThen (reportMove_carries _ _ _) (.setPos (.refl s) rfl rfl rfl)
  · exact Carries.refl s

theorem discardHeld_carries (c : StopCause) : Carries s (s.discardHeld c) := by
  unfold State.discardHeld
  split
  · exact Carries.andThen (reportMove_carries _ _ _) (.setPos (.refl s) rfl rfl rfl)
  · exact Carries.refl s

theorem departFollowing_carries (a : ActState) : Carries s (s.departFollowing a) := by
  unfold State.departFollowing
  extract_lets s1
  have h1 : Carries s s1 := endWindow_carries _ _
  split
  · exact h1.trans (tell_carries _ _)
  · exact h1

theorem setAct_carries (a : ActState) (d : Option ActDeadline) : Carries s (s.setAct a d) := by
  unfold State.setAct
  extract_lets was p1 s1 s2 s3
  have h1 : Carries s s1 := .setPos (.refl s) rfl rfl rfl
  have h2 : Carries s s2 := by
    show Carries s (if was = .parked ∧ a ≠ .parked then s1.startSlots else s1)
    split
    · exact h1.trans (startSlots_carries _)
    · exact h1
  refine Carries.trans (t := s3) ?_ (tell_carries _ _)
  show Carries s (if was = .following ∧ a ≠ .following then s2.departFollowing a else s2)
  split
  · exact h2.trans (departFollowing_carries _ _)
  · exact h2

theorem setSpindle_carries (x : SpindleState) : Carries s (s.setSpindle x) :=
  Carries.andThen (tell_carries _ _) (.setPos (.refl s) rfl rfl rfl)

theorem brake_carries : Carries s s.brake :=
  Carries.andThen (setSpindle_carries _ _) (.setPos (.refl s) rfl rfl rfl)

theorem arrivePark_carries (u : Bool) (h : s.rampView = .onRamp) : Carries s (s.arrivePark u) := by
  unfold State.arrivePark
  extract_lets p s1 s2 s3 s4
  have h1 : Carries s s1 := .setPos (.refl s) rfl rfl rfl
  have h2 : Carries s s2 := h1.trans (endActMove_carries _ _)
  have h3' : Carries s (s2.setAct .parked none) := h2.trans (setAct_carries _ _ _)
  have h3 : Carries s s3 := h3'.trans (stopSlots_carries _ (h3'.rampView.trans h))
  have h4 : Carries s s4 := by
    show Carries s (if u then s3.raise .motion else s3)
    split
    · exact h3.trans (raise_carries _ _)
    · exact h3
  split
  · exact h4.trans (brake_carries _)
  · exact h4

theorem beginUnload_carries (c : UnloadCause) : Carries s (s.beginUnload c) := by
  unfold State.beginUnload
  split
  · extract_lets s1 s2 p s3 s4
    have h1 : Carries s s1 := (discardHeld_carries s _).trans (endActMove_carries _ _)
    have h2 : Carries s s2 := h1.trans (setAct_carries _ _ _)
    have h3 : Carries s s3 := .setPos h2 rfl rfl rfl
    have h4 : Carries s s4 := by
      show Carries s (if c = .bench then s3 else s3.raise .motion)
      split
      · exact h3
      · exact h3.trans (raise_carries _ _)
    split
    · exact h4.trans (arrivePark_carries _ _ ‹_›)
    · exact h4
  · exact Carries.refl s

theorem newSpinDown_carries (o : Owner) : Carries s (s.newSpinDown o) := setPos_carries _ _ rfl rfl rfl

theorem takeSpinUp_carries {s t : State} {o : Owner} (h : s.takeSpinUp o = .ok t) : Carries s t := by
  unfold State.takeSpinUp at h
  split at h
  · cases h; exact Carries.andThen (setSpindle_carries _ _) (.setPos (.refl s) rfl rfl rfl)
  · cases h; exact .setPos (.refl s) rfl rfl rfl
  · split at h <;> cases h
    · exact Carries.andThen (endSpinMove_carries _ _) (.setPos (.refl s) rfl rfl rfl)
    · exact Carries.refl s
  · split at h <;> cases h
    · exact Carries.andThen (endSpinMove_carries _ _) (.setPos (.refl s) rfl rfl rfl)
    · exact Carries.refl s
  · cases h
  · cases h

theorem takeLoad_carries {s t : State} {o : Owner} (h : s.takeLoad o = .ok t) : Carries s t := by
  unfold State.takeLoad at h
  split at h
  iterate 2 · cases h
  iterate 4 · cases h; exact Carries.refl s
  split at h
  · cases h
  split at h
  · cases h
  split at h
  · cases h
  cases h
  exact .setPos ((selectHead_carries s _).trans (setAct_carries _ _ _)) rfl rfl rfl

theorem startSeek_carries (t : Nat) (x : Int) (o : Owner) : Carries s (s.startSeek t x o) := by
  unfold State.startSeek
  extract_lets s1 s2 s3
  exact .setPos (Carries.andThen (setAct_carries _ _ _) (.setPos (endActMove_carries s _) rfl rfl rfl)) rfl rfl rfl

theorem startJog_carries (x : Int) (o : Owner) : Carries s (s.startJog x o) := by
  unfold State.startJog
  extract_lets s1 s2 s3
  exact .setPos (Carries.andThen (setAct_carries _ _ _) (.setPos (endActMove_carries s _) rfl rfl rfl)) rfl rfl rfl

theorem restartSettle_carries (x : Int) (o : Owner) : Carries s (s.restartSettle x o) := by
  unfold State.restartSettle
  extract_lets s1
  exact .setPos (endActMove_carries s _) rfl rfl rfl

theorem redirectSeek_carries (t : Nat) (x : Int) (o : Owner) : Carries s (s.redirectSeek t x o) :=
  setPos_carries _ _ rfl rfl rfl

theorem seekOrHold_carries (t : Nat) (x : Int) (o : Owner) : Carries s (s.seekOrHold t x o).2 := by
  unfold State.seekOrHold
  extract_lets s1
  have h : Carries s s1 := discardHeld_carries s _
  split
  · exact h.trans (startSeek_carries _ _ _ _)
  · exact .setPos h rfl rfl rfl

theorem takeSeek_carries {s u : State} {t : Nat} {x : Int} {o : Owner} {k : SeekTaken}
    (h : s.takeSeek t x o = .ok (k, u)) : Carries s u := by
  unfold State.takeSeek at h
  split at h
  iterate 4 · cases h
  · split at h
    · split at h <;> cases h
      · exact discardHeld_carries s _
      · exact (discardHeld_carries s _).trans (startJog_carries _ _ _)
    · injection h with h; rw [show u = (s.seekOrHold t x o).2 by rw [h]]; exact seekOrHold_carries s t x o
  · cases h; exact redirectSeek_carries s _ _ _
  · split at h
    · split at h <;> cases h
      · exact discardHeld_carries s _
      · exact (discardHeld_carries s _).trans (restartSettle_carries _ _ _)
    · injection h with h; rw [show u = (s.seekOrHold t x o).2 by rw [h]]; exact seekOrHold_carries s t x o

theorem takeJog_carries {s t : State} {x : Int} {o : Owner} (h : s.takeJog x o = .ok t) : Carries s t := by
  unfold State.takeJog at h
  split at h <;> cases h
  exact startJog_carries s _ _

theorem releaseHeld_carries : Carries s s.releaseHeld := by
  unfold State.releaseHeld
  split
  · split
    · exact Carries.andThen (startSeek_carries _ _ _ _) (.setPos (.refl s) rfl rfl rfl)
    · exact Carries.refl s
  · exact Carries.refl s

/-! ## Gates and timers -/

theorem endGate_carries (e : GateEnding) (c : Option AbortCause) (v : Option Nat) (b : Option ClosedBy)
    (o : Option Stage) (l u : Nat) : Carries s (s.endGate e c v b o l u) := by
  unfold State.endGate
  dsimp only
  split
  · exact setGcu_carries _ _
  · exact (setGcu_carries s _).trans (tell_carries _ _)

theorem armGate_carries {s t : State} {m : GateMode} {h : Option Nat} {a : Nat} (e : s.armGate m h a = some t) :
    Carries s t := by
  unfold State.armGate at e
  split at e <;> cases e
  exact setGcu_carries _ _

theorem abortGate_carries (c : AbortCause) : Carries s (s.abortGate c) := by
  unfold State.abortGate
  split
  · exact Carries.refl s
  · exact endGate_carries _ _ _ _ _ _ _ _
  · exact endGate_carries _ _ _ _ _ _ _ _

theorem reload_carries (src : Source) : Carries s (s.reload src) := by
  unfold State.reload
  split
  · exact Carries.refl s
  · exact setRtm_carries _ _ rfl
  · exact setRtm_carries _ _ rfl

theorem restTest_carries : Carries s s.restTest := by
  unfold State.restTest
  split
  · exact beginUnload_carries s _
  · exact Carries.refl s

/-! ## The Job Controller -/

/-- All that the Job Controller's work leaves as it is. -/
theorem Work.carries {s t : State} (h : Work s t) : Carries s t := by
  induction h with
  | refl s => exact .refl s
  | trans _ _ h k => exact h.trans k
  | inbox s x => exact setInbox_carries s x
  | jct s x _ _ => exact setJct_carries s x
  | capture s h z r j => exact setHmp_carries _ _ rfl rfl
  | raise s k => exact raise_carries s k
  | reload s k => exact reload_carries s k
  | rest s _ => exact beginUnload_carries s _
  | select s h => exact selectHead_carries s h
  | endWindow s e => exact endWindow_carries s e
  | openWindow s k h n a => exact openWindow_carries s k h n a
  | abortGate s c => exact abortGate_carries s c
  | armGate h => exact armGate_carries h
  | spinUp h => exact takeSpinUp_carries h
  | load h => exact takeLoad_carries h
  | seek h => exact takeSeek_carries h
  | jog h => exact takeJog_carries h

/-- All that the Job Controller's work of a whole arrival leaves as it is. -/
theorem drain_carries (n : Nat) : Carries s (s.drain n) := (drain_work s n).carries

end Sys2Proof.Machine
end

