-- ==== Sys2Proof/Laws/Motion.lean ====
section
/-! SUPPORT. Each operation of the Positioner and its neighbours keeps the laws of motion (R1, R22, R23, R48, R56, R164), and so
does all the work of the Job Controller. -/

namespace Sys2Proof.Machine

variable {s t : State}

/-! ## What the laws depend on -/

/-- The laws of motion depend on the actuator, its deadline, the spindle, the running slot, the open window and the owners. -/
theorem MotionLaw.congr (h : MotionLaw s) (ha : t.pos.act = s.pos.act) (hd : t.pos.deadline = s.pos.deadline)
    (hs : t.pos.spindle = s.pos.spindle) (hl : t.sdc.slotDue.isSome = s.sdc.slotDue.isSome)
    (hw : t.window.isSome = true → s.window.isSome = true)
    (ho : t.flc.spindleBench = s.flc.spindleBench) (hc : t.flc.selectBench = s.flc.selectBench) : MotionLaw t where
  loaded := by rw [ha, hs]; exact h.loaded
  deadline := by rw [ha, hd]; exact h.deadline
  slots := by rw [ha, hl]; exact h.slots
  window := by rw [ha]; exact fun k => h.window (hw k)
  owned := by rw [ho, hs]; exact h.owned
  bench := by rw [ha, hs]; exact h.bench
  select := by rw [ha, hc]; exact h.select

theorem MotionLaw.setPos {x : Pos} (h : MotionLaw s) (ha : x.act = s.pos.act) (hd : x.deadline = s.pos.deadline)
    (hs : x.spindle = s.pos.spindle) : MotionLaw (s.setPos x) := h.congr ha hd hs rfl id rfl rfl

theorem MotionLaw.setInbox {x : List JctMsg} (h : MotionLaw s) : MotionLaw (s.setInbox x) := h.congr rfl rfl rfl rfl id rfl rfl

theorem MotionLaw.tell {m : JctMsg} (h : MotionLaw s) : MotionLaw (s.tell m) := h.setInbox

theorem MotionLaw.setJct {x : Jct} (h : MotionLaw s) : MotionLaw (s.setJct x) := h.congr rfl rfl rfl rfl id rfl rfl

theorem MotionLaw.setGcu {x : Gcu} (h : MotionLaw s) : MotionLaw (s.setGcu x) := h.congr rfl rfl rfl rfl id rfl rfl

theorem MotionLaw.setHmp {x : Hmp} (h : MotionLaw s) : MotionLaw (s.setHmp x) := h.congr rfl rfl rfl rfl id rfl rfl

theorem MotionLaw.setChm {x : Chm} (h : MotionLaw s) : MotionLaw (s.setChm x) := h.congr rfl rfl rfl rfl id rfl rfl

theorem MotionLaw.setRtm {x : Rtm} (h : MotionLaw s) : MotionLaw (s.setRtm x) := h.congr rfl rfl rfl rfl id rfl rfl

theorem MotionLaw.setPst {x : Pst} (h : MotionLaw s) : MotionLaw (s.setPst x) := h.congr rfl rfl rfl rfl id rfl rfl

theorem MotionLaw.setBlk {x : Blk} (h : MotionLaw s) : MotionLaw (s.setBlk x) := h.congr rfl rfl rfl rfl id rfl rfl

theorem MotionLaw.setFree {x : Nat} (h : MotionLaw s) : MotionLaw (s.setFree x) := h.congr rfl rfl rfl rfl id rfl rfl

theorem MotionLaw.setNow {x : Nat} (h : MotionLaw s) : MotionLaw (s.setNow x) := h.congr rfl rfl rfl rfl id rfl rfl

theorem MotionLaw.atTick {x : Nat} (h : MotionLaw s) : MotionLaw (s.atTick x) := h.setNow

theorem MotionLaw.raise {k : EventKind} (h : MotionLaw s) : MotionLaw (s.raise k) := h.setBlk

/-- A slot's end and begin leave a slot running (R1). -/
theorem MotionLaw.setSdc {x : Sdc} (h : MotionLaw s) (hx : x.slotDue.isSome = s.sdc.slotDue.isSome) : MotionLaw (s.setSdc x) :=
  h.congr rfl rfl rfl hx id rfl rfl

/-! ## Heads, windows and gates -/

@[simp] theorem takeHeadChange_pos (s : State) (n : Nat) : (s.takeHeadChange n).pos = s.pos := by
  unfold State.takeHeadChange; split <;> rfl

@[simp] theorem takeHeadChange_window (s : State) (n : Nat) : (s.takeHeadChange n).window = s.window := by
  unfold State.takeHeadChange; split <;> rfl

@[simp] theorem takeHeadChange_flc (s : State) (n : Nat) : (s.takeHeadChange n).flc = s.flc := by
  unfold State.takeHeadChange; split <;> rfl

@[simp] theorem takeHeadChange_slotDue (s : State) (n : Nat) : (s.takeHeadChange n).sdc.slotDue = s.sdc.slotDue := by
  unfold State.takeHeadChange; split <;> rfl

@[simp] theorem selectHead_pos (s : State) (n : Nat) : (s.selectHead n).pos = s.pos := by simp [State.selectHead]

@[simp] theorem selectHead_window (s : State) (n : Nat) : (s.selectHead n).window = s.window := by simp [State.selectHead]

@[simp] theorem selectHead_flc (s : State) (n : Nat) : (s.selectHead n).flc = { s.flc with engineHead := n } := by
  simp [State.selectHead]

@[simp] theorem selectHead_slotDue (s : State) (n : Nat) : (s.selectHead n).sdc.slotDue = s.sdc.slotDue := by
  simp [State.selectHead]

theorem MotionLaw.selectHead {n : Nat} (h : MotionLaw s) : MotionLaw (s.selectHead n) :=
  h.congr (by simp) (by simp) (by simp) (by simp) (by simp) (by simp) (by simp)

theorem MotionLaw.setWindow {w : Option Window} (h : MotionLaw s) (hw : w.isSome = true → s.pos.act = .following) :
    MotionLaw (s.setWindow w) := ⟨h.loaded, h.deadline, h.slots, hw, h.owned, h.bench, h.select⟩

/-- All that the end of a window does (R58). -/
theorem closeWindow_facts (s : State) (w : Window) (e : WindowEnding) :
    (s.closeWindow w e).pos = s.pos ∧ (s.closeWindow w e).window = none ∧
    (s.closeWindow w e).sdc.slotDue = s.sdc.slotDue ∧ (s.closeWindow w e).flc.spindleBench = s.flc.spindleBench ∧
    (s.closeWindow w e).flc.selectBench = s.flc.selectBench := by
  unfold State.closeWindow
  cases w.probing <;> cases e.reported <;> simp [State.tell]

@[simp] theorem closeWindow_pos (s : State) (w : Window) (e : WindowEnding) : (s.closeWindow w e).pos = s.pos :=
  (closeWindow_facts s w e).1

theorem MotionLaw.closeWindow {w : Window} {e : WindowEnding} (h : MotionLaw s) : MotionLaw (s.closeWindow w e) := by
  obtain ⟨hp, hw, hl, ho, hc⟩ := closeWindow_facts s w e
  exact h.congr (by rw [hp]) (by rw [hp]) (by rw [hp]) (by rw [hl]) (by rw [hw]; intro k; cases k) ho hc

@[simp] theorem endWindow_pos (s : State) (e : WindowEnding) : (s.endWindow e).pos = s.pos := by
  unfold State.endWindow; split <;> simp

@[simp] theorem endWindow_window (s : State) (e : WindowEnding) : (s.endWindow e).window = none := by
  unfold State.endWindow; split
  · exact (closeWindow_facts s _ e).2.1
  · assumption

theorem MotionLaw.endWindow {e : WindowEnding} (h : MotionLaw s) : MotionLaw (s.endWindow e) := by
  unfold State.endWindow; split
  · exact h.closeWindow
  · exact h

theorem MotionLaw.openWindow {k : WindowKind} {head n a : Nat} (h : MotionLaw s) : MotionLaw (s.openWindow k head n a) := by
  unfold State.openWindow
  extract_lets s1 w
  have h1 : MotionLaw s1 := h.endWindow
  split
  · exact h1.setWindow fun _ => ‹_›
  · exact h1.closeWindow

theorem MotionLaw.endGate {e : GateEnding} {c : Option AbortCause} {v : Option Nat} {b : Option ClosedBy} {o : Option Stage}
    {l u : Nat} (h : MotionLaw s) : MotionLaw (s.endGate e c v b o l u) := by
  unfold State.endGate
  dsimp only
  split
  · exact h.setGcu
  · exact h.setGcu.tell

theorem MotionLaw.abortGate {c : AbortCause} (h : MotionLaw s) : MotionLaw (s.abortGate c) := by
  unfold State.abortGate
  split
  · exact h
  · exact h.endGate
  · exact h.endGate

theorem MotionLaw.armGate {m : GateMode} {head : Option Nat} {a : Nat} (h : MotionLaw s) (e : s.armGate m head a = some t) :
    MotionLaw t := by
  unfold State.armGate at e
  split at e <;> cases e
  exact h.setGcu

theorem MotionLaw.reload {src : Source} (h : MotionLaw s) : MotionLaw (s.reload src) := by
  unfold State.reload
  split
  · exact h
  · exact h.setRtm
  · exact h.setRtm

/-! ## Moves -/

/-- Reporting a move touches no state of motion (R25). -/
theorem reportMove_facts (s : State) (m : Move) (o : MoveOutcome) :
    (s.reportMove m o).pos.act = s.pos.act ∧ (s.reportMove m o).pos.deadline = s.pos.deadline ∧
    (s.reportMove m o).pos.spindle = s.pos.spindle ∧ (s.reportMove m o).sdc = s.sdc ∧
    (s.reportMove m o).window = s.window ∧ (s.reportMove m o).flc = s.flc ∧
    (s.reportMove m o).pos.spinDownPending = s.pos.spinDownPending := by
  unfold State.reportMove
  split <;> simp [State.tell]

theorem MotionLaw.reportMove {m : Move} {o : MoveOutcome} (h : MotionLaw s) : MotionLaw (s.reportMove m o) := by
  obtain ⟨h1, h2, h3, h4, h5, h6, -⟩ := reportMove_facts s m o
  exact h.congr h1 h2 h3 (by rw [h4]) (by rw [h5]; exact id) (by rw [h6]) (by rw [h6])

/-- The end of the actuator move touches no state of motion. -/
theorem endActMove_facts (s : State) (o : MoveOutcome) :
    (s.endActMove o).pos.act = s.pos.act ∧ (s.endActMove o).pos.deadline = s.pos.deadline ∧
    (s.endActMove o).pos.spindle = s.pos.spindle ∧ (s.endActMove o).sdc = s.sdc ∧
    (s.endActMove o).window = s.window ∧ (s.endActMove o).flc = s.flc := by
  unfold State.endActMove
  split
  · obtain ⟨h1, h2, h3, h4, h5, h6, -⟩ := reportMove_facts (s.setPos { s.pos with actMove := none }) ‹_› o
    exact ⟨h1, h2, h3, h4, h5, h6⟩
  · simp

theorem MotionLaw.endActMove {o : MoveOutcome} (h : MotionLaw s) : MotionLaw (s.endActMove o) := by
  obtain ⟨h1, h2, h3, h4, h5, h6⟩ := endActMove_facts s o
  exact h.congr h1 h2 h3 (by rw [h4]) (by rw [h5]; exact id) (by rw [h6]) (by rw [h6])

/-- The end of the spindle move touches no state of motion. -/
theorem endSpinMove_facts (s : State) (o : MoveOutcome) :
    (s.endSpinMove o).pos.act = s.pos.act ∧ (s.endSpinMove o).pos.deadline = s.pos.deadline ∧
    (s.endSpinMove o).pos.spindle = s.pos.spindle ∧ (s.endSpinMove o).sdc = s.sdc ∧
    (s.endSpinMove o).window = s.window ∧ (s.endSpinMove o).flc = s.flc := by
  unfold State.endSpinMove
  split
  · obtain ⟨h1, h2, h3, h4, h5, h6, -⟩ := reportMove_facts (s.setPos { s.pos with spinMove := none }) ‹_› o
    exact ⟨h1, h2, h3, h4, h5, h6⟩
  · simp

theorem MotionLaw.endSpinMove {o : MoveOutcome} (h : MotionLaw s) : MotionLaw (s.endSpinMove o) := by
  obtain ⟨h1, h2, h3, h4, h5, h6⟩ := endSpinMove_facts s o
  exact h.congr h1 h2 h3 (by rw [h4]) (by rw [h5]; exact id) (by rw [h6]) (by rw [h6])

/-- Discarding a held seek touches no state of motion. -/
theorem discardHeld_facts (s : State) (c : StopCause) :
    (s.discardHeld c).pos.act = s.pos.act ∧ (s.discardHeld c).pos.deadline = s.pos.deadline ∧
    (s.discardHeld c).pos.spindle = s.pos.spindle ∧ (s.discardHeld c).sdc = s.sdc ∧
    (s.discardHeld c).window = s.window ∧ (s.discardHeld c).flc = s.flc := by
  unfold State.discardHeld
  split
  · rename_i x _
    obtain ⟨h1, h2, h3, h4, h5, h6, -⟩ :=
      reportMove_facts (s.setPos { s.pos with held := none }) { kind := .seek, owner := x.owner } (.interrupted c)
    exact ⟨h1, h2, h3, h4, h5, h6⟩
  · simp

theorem MotionLaw.discardHeld {c : StopCause} (h : MotionLaw s) : MotionLaw (s.discardHeld c) := by
  obtain ⟨h1, h2, h3, h4, h5, h6⟩ := discardHeld_facts s c
  exact h.congr h1 h2 h3 (by rw [h4]) (by rw [h5]; exact id) (by rw [h6]) (by rw [h6])

/-! ## Changes of state -/

/-- All that a change of actuator state does to the state of motion (R23, R24, R31): slots begin on leaving PARKED, and the
departure from FOLLOWING closes the window. -/
theorem setAct_facts (s : State) (a : ActState) (d : Option ActDeadline) :
    (s.setAct a d).pos = { s.pos with act := a, deadline := d, acqRun := 0, settleRun := 0, otRun := 0, lossRun := 0 } ∧
    ((s.setAct a d).sdc.slotDue.isSome = if s.pos.act = .parked ∧ a ≠ .parked then true else s.sdc.slotDue.isSome) ∧
    ((s.setAct a d).window = if s.pos.act = .following ∧ a ≠ .following then none else s.window) ∧
    (s.setAct a d).flc.spindleBench = s.flc.spindleBench ∧ (s.setAct a d).flc.selectBench = s.flc.selectBench := by
  have depart : ∀ u : State, (u.departFollowing a).pos = u.pos ∧ (u.departFollowing a).sdc.slotDue = u.sdc.slotDue ∧
      (u.departFollowing a).window = none ∧ (u.departFollowing a).flc.spindleBench = u.flc.spindleBench ∧
      (u.departFollowing a).flc.selectBench = u.flc.selectBench := by
    intro u
    have key : ∀ e, (u.endWindow e).pos = u.pos ∧ (u.endWindow e).sdc.slotDue = u.sdc.slotDue ∧
        (u.endWindow e).window = none ∧ (u.endWindow e).flc.spindleBench = u.flc.spindleBench ∧
        (u.endWindow e).flc.selectBench = u.flc.selectBench := by
      intro e
      unfold State.endWindow
      split
      · obtain ⟨k1, k2, k3, k4, k5⟩ := closeWindow_facts u ‹_› e
        exact ⟨k1, k3, k2, k4, k5⟩
      · exact ⟨rfl, rfl, ‹_›, rfl, rfl⟩
    unfold State.departFollowing
    dsimp only
    split
    · exact key _
    · exact key _
  unfold State.setAct
  dsimp only
  by_cases h1 : s.pos.act = .parked ∧ a ≠ .parked
  · have h2 : ¬(s.pos.act = .following ∧ a ≠ .following) := by rw [h1.1]; simp
    rw [if_pos h1, if_neg h2]
    simp [State.startSlots, State.tell, h1]
  · rw [if_neg h1]
    by_cases h2 : s.pos.act = .following ∧ a ≠ .following
    · rw [if_pos h2]
      obtain ⟨k1, k2, k3, k4, k5⟩ := depart (s.setPos
        { s.pos with act := a, deadline := d, acqRun := 0, settleRun := 0, otRun := 0, lossRun := 0 })
      simp [State.tell, k1, k2, k3, k4, k5, h2]
    · rw [if_neg h2]
      simp only [State.tell, State.setInbox_pos, State.setPos_pos, State.setInbox_sdc, State.setPos_sdc,
        State.setInbox_window, State.setPos_window, State.setInbox_flc, State.setPos_flc, h1, h2, if_false, and_self]

/-- A change between two actuator states outside PARKED keeps the laws. -/
theorem MotionLaw.setAct {a : ActState} {d : Option ActDeadline} (h : MotionLaw s) (hp : s.pos.act ≠ .parked)
    (ha : a ≠ .parked) (hl : a.isLoaded = true → s.pos.spindle = .atSpeed) (hd : deadlineFits a d = true) :
    MotionLaw (s.setAct a d) := by
  obtain ⟨k1, k2, k3, k4, k5⟩ := setAct_facts s a d
  have hs : (s.setAct a d).sdc.slotDue.isSome = true := by
    rw [k2, if_neg (by simp [hp])]; exact h.slots.mpr hp
  refine ⟨by rw [k1]; exact hl, by rw [k1]; exact hd, ⟨fun _ => by rw [k1]; exact ha, fun _ => hs⟩, ?_, ?_, ?_, ?_⟩
  · rw [k1, k3]
    intro hw
    by_cases h2 : s.pos.act = .following ∧ a ≠ .following
    · rw [if_pos h2] at hw; cases hw
    · rw [if_neg h2] at hw
      have := h.window hw
      by_contra hc
      exact h2 ⟨this, hc⟩
  · rw [k4, k1]; exact h.owned
  · rw [k1]; exact fun e => absurd (h.bench e) hp
  · rw [k5, k1]; exact fun e => absurd (h.select e) hp

/-- A spindle state other than BENCH, with no heads loaded. -/
theorem MotionLaw.setSpindle {x : SpindleState} (h : MotionLaw s) (hx : x ≠ .bench) (hb : s.flc.spindleBench = false)
    (hl : s.pos.act.isLoaded = true → x = .atSpeed) : MotionLaw (s.setSpindle x) :=
  ⟨hl, h.deadline, h.slots, h.window, fun k => by simp [State.setSpindle, State.tell, hb] at k, fun k => absurd k hx,
    h.select⟩

/-- Braking, with no heads loaded and the group engine-owned. -/
theorem MotionLaw.brake (h : MotionLaw s) (hb : s.flc.spindleBench = false) (hl : s.pos.act.isLoaded = false) :
    MotionLaw s.brake := by
  unfold State.brake
  refine MotionLaw.setSpindle ?_ (by decide) hb (by simp [hl])
  exact h.setPos rfl rfl rfl

/-- A spindle that is not BENCH is engine-owned. -/
theorem MotionLaw.engine (h : MotionLaw s) (hx : s.pos.spindle ≠ .bench) : s.flc.spindleBench = false := by
  cases e : s.flc.spindleBench with
  | false => rfl
  | true => exact absurd (h.owned e) hx

/-- The arrival at PARKED from UNLOADING (R39). -/
theorem MotionLaw.arrivePark {u : Bool} (h : MotionLaw s) (ha : s.pos.act = .unloading) : MotionLaw (s.arrivePark u) := by
  unfold State.arrivePark
  extract_lets p s1 s2 s3 s4
  have h1 : MotionLaw s1 := h.setPos rfl rfl rfl
  have h2 : MotionLaw s2 := h1.endActMove
  have a2 : s2.pos.act = .unloading := (endActMove_facts s1 _).1.trans ha
  have b2 : s2.pos.spindle ≠ .bench := fun e => by have := h2.bench e; rw [a2] at this; cases this
  have h3 : MotionLaw s3 := by
    obtain ⟨k1, -, k3, k4, k5⟩ := setAct_facts s2 .parked none
    have hs : s3 = (s2.setAct .parked none).stopSlots := rfl
    rw [hs]
    refine ⟨?_, ?_, ?_, ?_, ?_, ?_, ?_⟩
    · simp [State.stopSlots, k1, ActState.isLoaded]
    · simp [State.stopSlots, k1, deadlineFits]
    · simp [State.stopSlots, k1]
    · simp only [State.stopSlots, State.setSdc_window, State.setSdc_pos, k1, k3]
      rw [if_neg (by simp [a2])]
      intro hw
      have := h2.window hw
      rw [a2] at this; cases this
    · simp only [State.stopSlots, State.setSdc_flc, State.setSdc_pos, k1, k4]; exact h2.owned
    · simp [State.stopSlots, k1]
    · simp [State.stopSlots, k1]
  have a3 : s3.pos.act = .parked ∧ s3.pos.spindle ≠ .bench := by
    obtain ⟨k1, -⟩ := setAct_facts s2 .parked none
    exact ⟨by show ((s2.setAct .parked none).stopSlots).pos.act = _; simp [State.stopSlots, k1],
      by show ((s2.setAct .parked none).stopSlots).pos.spindle ≠ _; simpa [State.stopSlots, k1] using b2⟩
  have h4 : MotionLaw s4 ∧ s4.pos.act = .parked ∧ s4.pos.spindle ≠ .bench := by
    show MotionLaw (if u then s3.raise .motion else s3) ∧ (if u then s3.raise .motion else s3).pos.act = .parked ∧
      (if u then s3.raise .motion else s3).pos.spindle ≠ .bench
    split
    · exact ⟨h3.raise, a3⟩
    · exact ⟨h3, a3⟩
  split
  · exact h4.1.brake (h4.1.engine h4.2.2) (by rw [h4.2.1]; rfl)
  · exact h4.1

/-- The laws of motion but for that of the spindle with the heads loaded: what holds while an arrival at OFF_SPEED is under
way (R21). -/
structure Grounded (s : State) : Prop where
  deadline : deadlineFits s.pos.act s.pos.deadline = true
  slots : s.sdc.slotDue.isSome = true ↔ s.pos.act ≠ .parked
  window : s.window.isSome = true → s.pos.act = .following
  owned : s.flc.spindleBench = true → s.pos.spindle = .bench
  bench : s.pos.spindle = .bench → s.pos.act = .parked
  select : s.flc.selectBench = true → s.pos.act = .parked

theorem MotionLaw.grounded (h : MotionLaw s) : Grounded s := ⟨h.deadline, h.slots, h.window, h.owned, h.bench, h.select⟩

/-- With no heads loaded the laws of motion hold whole. -/
theorem Grounded.law (h : Grounded s) (hl : s.pos.act.isLoaded = false) : MotionLaw s where
  loaded k := by rw [hl] at k; cases k
  deadline := h.deadline
  slots := h.slots
  window := h.window
  owned := h.owned
  bench := h.bench
  select := h.select

theorem Grounded.congr (h : Grounded s) (ha : t.pos.act = s.pos.act) (hd : t.pos.deadline = s.pos.deadline)
    (hs : t.pos.spindle = s.pos.spindle) (hl : t.sdc = s.sdc) (hw : t.window = s.window) (hf : t.flc = s.flc) :
    Grounded t where
  deadline := by rw [ha, hd]; exact h.deadline
  slots := by rw [ha, hl]; exact h.slots
  window := by rw [ha, hw]; exact h.window
  owned := by rw [hf, hs]; exact h.owned
  bench := by rw [ha, hs]; exact h.bench
  select := by rw [ha, hf]; exact h.select

/-- The beginning of an unload (R38) from a loaded state makes the laws of motion hold whole. -/
theorem Grounded.beginUnload {c : UnloadCause} (h : Grounded s) (hl : s.pos.act.isLoaded = true) :
    MotionLaw (s.beginUnload c) := by
  unfold State.beginUnload
  rw [if_pos hl]
  extract_lets s1 s2 p s3 s4
  have h1 : Grounded s1 := by
    obtain ⟨k1, k2, k3, k4, k5, k6⟩ := discardHeld_facts s (.unload c)
    obtain ⟨m1, m2, m3, m4, m5, m6⟩ := endActMove_facts (s.discardHeld (.unload c)) (.interrupted (.unload c))
    exact h.congr (m1.trans k1) (m2.trans k2) (m3.trans k3) (m4.trans k4) (m5.trans k5) (m6.trans k6)
  have a1 : s1.pos.act = s.pos.act := (endActMove_facts _ _).1.trans (discardHeld_facts _ _).1
  have n1 : s1.pos.act ≠ .parked := by rw [a1]; intro e; rw [e] at hl; cases hl
  have a2 : s2.pos.act = .unloading := by show (s1.setAct _ _).pos.act = _; rw [(setAct_facts _ _ _).1]
  have h2 : MotionLaw s2 := by
    obtain ⟨k1, k2, k3, k4, k5⟩ := setAct_facts s1 .unloading (s1.deadlineIn .unload s1.prof.unloadMs)
    have e2 : s2 = s1.setAct .unloading (s1.deadlineIn .unload s1.prof.unloadMs) := rfl
    refine Grounded.law ⟨?_, ?_, ?_, ?_, ?_, ?_⟩ (by rw [a2]; rfl)
    · rw [e2, k1]; rfl
    · rw [a2, e2, k2, if_neg (by simp [n1])]; simpa using h1.slots.mpr n1
    · rw [e2, k3]
      intro hw
      by_cases hf : s1.pos.act = .following
      · rw [if_pos ⟨hf, by decide⟩] at hw; cases hw
      · rw [if_neg (by simp [hf])] at hw; exact absurd (h1.window hw) hf
    · rw [e2, k4, k1]; exact h1.owned
    · rw [e2, k1]; exact fun e => absurd (h1.bench e) n1
    · rw [e2, k5, k1]; exact fun e => absurd (h1.select e) n1
  have h3 : MotionLaw s3 := h2.setPos rfl rfl rfl
  have h4 : MotionLaw s4 ∧ s4.pos.act = .unloading := by
    show MotionLaw (if c = .bench then s3 else s3.raise .motion) ∧
      (if c = .bench then s3 else s3.raise .motion).pos.act = .unloading
    split
    · exact ⟨h3, a2⟩
    · exact ⟨h3.raise, a2⟩
  split
  · exact h4.1.arrivePark h4.2
  · exact h4.1

/-- The beginning of an unload keeps the laws of motion. -/
theorem MotionLaw.beginUnload {c : UnloadCause} (h : MotionLaw s) : MotionLaw (s.beginUnload c) := by
  cases hl : s.pos.act.isLoaded with
  | true => exact h.grounded.beginUnload hl
  | false => unfold State.beginUnload; simpa [hl] using h

/-! ## Orders -/

theorem MotionLaw.takeSpinUp {o : Owner} (h : MotionLaw s) (e : s.takeSpinUp o = .ok t) : MotionLaw t := by
  unfold State.takeSpinUp at e
  split at e
  · rename_i hs
    cases e
    refine MotionLaw.setSpindle (h.setPos rfl rfl rfl) (by decide) (h.engine (by rw [hs]; decide)) ?_
    intro hl
    have := h.loaded hl
    rw [hs] at this; cases this
  · cases e; exact h.setPos rfl rfl rfl
  · split at e <;> cases e
    · exact MotionLaw.endSpinMove (h.setPos rfl rfl rfl)
    · exact h
  · split at e <;> cases e
    · exact MotionLaw.endSpinMove (h.setPos rfl rfl rfl)
    · exact h
  · cases e
  · cases e

/-- A load from PARKED (R29). -/
theorem MotionLaw.takeLoad {o : Owner} (h : MotionLaw s) (e : s.takeLoad o = .ok t) : MotionLaw t := by
  unfold State.takeLoad at e
  split at e
  iterate 2 · cases e
  iterate 4 · cases e; exact h
  rename_i ha
  split at e
  · cases e
  rename_i hc
  split at e
  · cases e
  rename_i hv
  have hv : s.pos.spindle = .atSpeed := by simpa using hv
  split at e
  · cases e
  cases e
  refine MotionLaw.setPos ?_ rfl rfl rfl
  obtain ⟨k1, k2, k3, k4, k5⟩ := setAct_facts (s.selectHead s.prof.anchor) .loading
    ((s.selectHead s.prof.anchor).deadlineIn .load (s.selectHead s.prof.anchor).prof.loadMs)
  have hb := h.engine (by rw [hv]; decide)
  refine ⟨by rw [k1]; intro _; simpa using hv, by rw [k1]; rfl, ?_, ?_, ?_, ?_, ?_⟩
  · rw [k1, k2]; simp [ha]
  · rw [k1, k3]
    simp only [selectHead_pos, ha, selectHead_window]
    intro hw
    have := h.window hw
    rw [ha] at this; cases this
  · rw [k4]; simp [hb]
  · rw [k1]; simp [hv]
  · rw [k5]; simp [hc]

theorem MotionLaw.startSeek {n : Nat} {x : Int} {o : Owner} (h : MotionLaw s) (hl : s.pos.act.isLoaded = true) :
    MotionLaw (s.startSeek n x o) := by
  unfold State.startSeek
  extract_lets s1 p s2 s3
  have h1 : MotionLaw s1 := h.endActMove
  have h2 : MotionLaw s2 := h1.setPos rfl rfl rfl
  have a2 : s2.pos.act = s.pos.act := (endActMove_facts s _).1
  have v2 : s2.pos.spindle = s.pos.spindle := (endActMove_facts s _).2.2.1
  exact (h2.setAct (by rw [a2]; intro e; rw [e] at hl; cases hl) (by decide) (fun _ => v2.trans (h.loaded hl)) rfl).setPos
    rfl rfl rfl

theorem MotionLaw.startJog {x : Int} {o : Owner} (h : MotionLaw s) (hl : s.pos.act.isLoaded = true) :
    MotionLaw (s.startJog x o) := by
  unfold State.startJog
  extract_lets s1 p s2 s3
  have h1 : MotionLaw s1 := h.endActMove
  have h2 : MotionLaw s2 := h1.setPos rfl rfl rfl
  have a2 : s2.pos.act = s.pos.act := (endActMove_facts s _).1
  have v2 : s2.pos.spindle = s.pos.spindle := (endActMove_facts s _).2.2.1
  exact (h2.setAct (by rw [a2]; intro e; rw [e] at hl; cases hl) (by decide) (fun _ => v2.trans (h.loaded hl)) rfl).setPos
    rfl rfl rfl

/-- A new deadline of the state's own kind. -/
theorem MotionLaw.setDeadline {x : Pos} (h : MotionLaw s) (ha : x.act = s.pos.act) (hd : deadlineFits x.act x.deadline = true)
    (hs : x.spindle = s.pos.spindle) : MotionLaw (s.setPos x) where
  loaded := by simp only [State.setPos_pos, ha, hs]; exact h.loaded
  deadline := hd
  slots := by simp only [State.setPos_pos, State.setPos_sdc, ha]; exact h.slots
  window := by simp only [State.setPos_pos, State.setPos_window, ha]; exact h.window
  owned := by simp only [State.setPos_pos, State.setPos_flc, hs]; exact h.owned
  bench := by simp only [State.setPos_pos, ha, hs]; exact h.bench
  select := by simp only [State.setPos_pos, State.setPos_flc, ha]; exact h.select

theorem MotionLaw.restartSettle {x : Int} {o : Owner} (h : MotionLaw s) (ha : s.pos.act = .settling) :
    MotionLaw (s.restartSettle x o) := by
  unfold State.restartSettle
  extract_lets s1
  have h1 : MotionLaw s1 := h.endActMove
  have a1 : s1.pos.act = .settling := (endActMove_facts s _).1.trans ha
  exact h1.setDeadline rfl (by show deadlineFits s1.pos.act _ = true; rw [a1]; rfl) rfl

theorem MotionLaw.redirectSeek {n : Nat} {x : Int} {o : Owner} (h : MotionLaw s) (ha : s.pos.act = .seeking) :
    MotionLaw (s.redirectSeek n x o) :=
  h.setDeadline rfl (by show deadlineFits s.pos.act _ = true; rw [ha]; rfl) rfl

theorem MotionLaw.seekOrHold {n : Nat} {x : Int} {o : Owner} (h : MotionLaw s) (hl : s.pos.act.isLoaded = true) :
    MotionLaw (s.seekOrHold n x o).2 := by
  unfold State.seekOrHold
  extract_lets s1
  have h1 : MotionLaw s1 := h.discardHeld
  split
  · exact h1.startSeek (by rw [(discardHeld_facts s _).1]; exact hl)
  · exact h1.setPos rfl rfl rfl

theorem MotionLaw.takeSeek {n : Nat} {x : Int} {o : Owner} {k : SeekTaken} (h : MotionLaw s)
    (e : s.takeSeek n x o = .ok (k, t)) : MotionLaw t := by
  unfold State.takeSeek at e
  split at e
  iterate 4 · cases e
  · rename_i ha
    have hl : (s.discardHeld .replaced).pos.act.isLoaded = true := by rw [(discardHeld_facts s _).1, ha]; rfl
    split at e
    · split at e <;> cases e
      · exact h.discardHeld
      · exact h.discardHeld.startJog hl
    · injection e with e
      rw [show t = (s.seekOrHold n x o).2 by rw [e]]
      exact h.seekOrHold (by rw [ha]; rfl)
  · rename_i ha
    cases e; exact h.redirectSeek ha
  · rename_i ha
    split at e
    · split at e <;> cases e
      · exact h.discardHeld
      · exact h.discardHeld.restartSettle ((discardHeld_facts s _).1.trans ha)
    · injection e with e
      rw [show t = (s.seekOrHold n x o).2 by rw [e]]
      exact h.seekOrHold (by rw [ha]; rfl)

theorem MotionLaw.takeJog {x : Int} {o : Owner} (h : MotionLaw s) (e : s.takeJog x o = .ok t) : MotionLaw t := by
  unfold State.takeJog at e
  split at e <;> cases e
  rename_i ha
  exact h.startJog (by rw [ha]; rfl)

theorem MotionLaw.releaseHeld (h : MotionLaw s) : MotionLaw s.releaseHeld := by
  unfold State.releaseHeld
  split
  · split
    · rename_i ha
      refine MotionLaw.startSeek (h.setPos rfl rfl rfl) ?_
      rcases ha with ha | ha <;> simp [ha, ActState.isLoaded]
    · exact h
  · exact h

/-! ## The Coil Heat Monitor -/

theorem MotionLaw.changeLevel {a : HeatLevel} {c : LevelCause} (h : MotionLaw s) : MotionLaw (s.changeLevel a c) := by
  have h1 : MotionLaw (s.recordLevel a c) := MotionLaw.raise h.setChm
  unfold State.changeLevel
  dsimp only
  split
  · exact h
  · split
    · exact h1.setInbox.discardHeld
    · exact h1.tell
    · exact h1.releaseHeld
    · exact h1

theorem MotionLaw.recompute {c : LevelCause} (h : MotionLaw s) : MotionLaw (s.recompute c) := h.changeLevel

theorem MotionLaw.addHeat {n : Nat} (h : MotionLaw s) : MotionLaw (s.addHeat n) := h.setChm

theorem MotionLaw.seekCost {d : Nat} (h : MotionLaw s) : MotionLaw (s.seekCost d) := by
  unfold State.seekCost
  exact h.addHeat.recompute.setChm

theorem MotionLaw.jogCost (h : MotionLaw s) : MotionLaw s.jogCost := h.addHeat.recompute

theorem MotionLaw.tickHeat (h : MotionLaw s) : MotionLaw s.tickHeat := by
  unfold State.tickHeat
  dsimp only
  split
  · exact MotionLaw.addHeat h.setChm
  · exact h.setChm

theorem MotionLaw.tickPace (h : MotionLaw s) : MotionLaw s.tickPace := by
  unfold State.tickPace
  dsimp only
  split
  · exact MotionLaw.releaseHeld h.setChm
  · exact h.setChm

theorem MotionLaw.tickHot (h : MotionLaw s) : MotionLaw s.tickHot := by
  unfold State.tickHot
  split
  · split
    · exact MotionLaw.beginUnload h.setChm
    · exact h.setChm
  · exact h.setChm

theorem MotionLaw.takeHeatTick (h : MotionLaw s) : MotionLaw s.takeHeatTick := h.tickHeat.recompute.tickPace.tickHot

theorem MotionLaw.resetHeat (h : MotionLaw s) : MotionLaw s.resetHeat := by
  unfold State.resetHeat
  dsimp only
  split
  · exact h.setChm
  · exact MotionLaw.raise (MotionLaw.setChm h.setChm)

/-! ## The Rest Timers -/

theorem MotionLaw.restTest (h : MotionLaw s) : MotionLaw s.restTest := by
  unfold State.restTest
  split
  · exact h.beginUnload
  · exact h

theorem MotionLaw.expireTimer {w : RestTimer} (h : MotionLaw s) : MotionLaw (s.expireTimer w) := by
  unfold State.expireTimer
  split
  · split
    · exact MotionLaw.restTest (MotionLaw.setRtm h.atTick)
    · exact h
  · split
    · exact MotionLaw.restTest (MotionLaw.setRtm h.atTick)
    · exact h

/-! ## The Job Controller -/

/-- All the work of the Job Controller keeps the laws of motion. -/
theorem Work.motionLaw (h : Work s t) (k : MotionLaw s) : MotionLaw t := by
  induction h with
  | refl s => exact k
  | trans _ _ h1 h2 => exact h2 (h1 k)
  | inbox s x => exact k.setInbox
  | jct s x _ _ => exact k.setJct
  | capture s h z r j => exact k.setHmp
  | raise s e => exact k.raise
  | reload s e => exact k.reload
  | rest s _ => exact k.beginUnload
  | select s n => exact k.selectHead
  | endWindow s e => exact k.endWindow
  | openWindow s w h n a => exact k.openWindow
  | abortGate s c => exact k.abortGate
  | armGate h => exact k.armGate h
  | spinUp h => exact k.takeSpinUp h
  | load h => exact k.takeLoad h
  | seek h => exact k.takeSeek h
  | jog h => exact k.takeJog h

/-- The Job Controller's work of a whole arrival keeps the laws of motion. -/
theorem MotionLaw.drain {n : Nat} (h : MotionLaw s) : MotionLaw (s.drain n) := (drain_work s n).motionLaw h

end Sys2Proof.Machine
end

