-- ==== Sys2Proof/Laws/MotionKept.lean ====
section
/-! SUPPORT. Servo records, index arrivals, deadlines, line changes, the Profile Store, the requests and the resets keep the
laws of motion. -/

namespace Sys2Proof.Machine

variable {s t : State}

/-! ## Servo records (R24, R30 to R37) -/

theorem MotionLaw.drive {e : Int} (h : MotionLaw s) : MotionLaw (s.drive e) := h.setPos rfl rfl rfl

theorem MotionLaw.notParked (_ : MotionLaw s) (hl : s.pos.act.isLoaded = true) : s.pos.act ≠ .parked := by
  intro e; rw [e] at hl; cases hl

theorem MotionLaw.arriveFollowing (h : MotionLaw s) (hl : s.pos.act.isLoaded = true) : MotionLaw s.arriveFollowing :=
  (h.setAct (h.notParked hl) (by decide) (fun _ => h.loaded hl) rfl).restTest

theorem MotionLaw.offTrack (h : MotionLaw s) (hl : s.pos.act.isLoaded = true) : MotionLaw s.offTrack := by
  have h1 := h.discardHeld (c := .offTrack)
  have hl1 : (s.discardHeld .offTrack).pos.act.isLoaded = true := by rw [(discardHeld_facts s _).1]; exact hl
  exact h1.setAct (h1.notParked hl1) (by decide) (fun _ => h1.loaded hl1) rfl

theorem MotionLaw.loseServo (h : MotionLaw s) (hl : s.pos.act.isLoaded = true) : MotionLaw s.loseServo := by
  have h1 : MotionLaw ((s.discardHeld .servoLost).endActMove (.interrupted .servoLost)) := h.discardHeld.endActMove
  have hl1 : ((s.discardHeld .servoLost).endActMove (.interrupted .servoLost)).pos.act.isLoaded = true := by
    rw [(endActMove_facts _ _).1, (discardHeld_facts s _).1]; exact hl
  exact h1.setAct (h1.notParked hl1) (by decide) (fun _ => h1.loaded hl1) rfl

theorem MotionLaw.acquired {n : Nat} (h : MotionLaw s) (hl : s.pos.act.isLoaded = true) : MotionLaw (s.acquired n) := by
  unfold State.acquired
  extract_lets p s1
  have h1 : MotionLaw s1 := h.setPos rfl rfl rfl
  exact h1.endActMove.arriveFollowing (by rw [(endActMove_facts s1 _).1]; exact hl)

theorem MotionLaw.settled (h : MotionLaw s) (hl : s.pos.act.isLoaded = true) : MotionLaw s.settled := by
  unfold State.settled
  extract_lets jog s1
  have h1 : MotionLaw s1 := by
    have h0 : MotionLaw (s.endActMove .settled) := h.endActMove
    have hl0 : (s.endActMove .settled).pos.act.isLoaded = true := by rw [(endActMove_facts s _).1]; exact hl
    exact h0.setAct (h0.notParked hl0) (by decide) (fun _ => h0.loaded hl0) rfl
  refine MotionLaw.restTest ?_
  split
  · exact h1.jogCost
  · exact h1

theorem MotionLaw.countLoss (h : MotionLaw s) (hl : s.pos.act.isLoaded = true) : MotionLaw s.countLoss := by
  unfold State.countLoss
  split
  · exact h.setPos rfl rfl rfl
  · exact h.loseServo hl

theorem MotionLaw.acquireRecord {r : SectorRecord} (h : MotionLaw s) (hl : s.pos.act.isLoaded = true) :
    MotionLaw (s.acquireRecord r) := by
  unfold State.acquireRecord
  split
  · extract_lets s1
    have h1 : MotionLaw s1 := h.drive
    split
    · exact h1.acquired hl
    · exact h1.setPos rfl rfl rfl
  · exact h.setPos rfl rfl rfl

theorem MotionLaw.followingRecord {r : SectorRecord} (h : MotionLaw s) (hl : s.pos.act.isLoaded = true) :
    MotionLaw (s.followingRecord r) := by
  unfold State.followingRecord
  split
  · extract_lets e s1 p s2
    have h2 : MotionLaw s2 := MotionLaw.setPos h.drive rfl rfl rfl
    split
    · split
      · exact h2.offTrack hl
      · exact h2.setPos rfl rfl rfl
    · exact h2.setPos rfl rfl rfl
  · exact MotionLaw.countLoss (h.setPos rfl rfl rfl) hl
  · exact h.setPos rfl rfl rfl

theorem MotionLaw.settlingRecord {r : SectorRecord} (h : MotionLaw s) (hl : s.pos.act.isLoaded = true) :
    MotionLaw (s.settlingRecord r) := by
  unfold State.settlingRecord
  split
  · extract_lets e s1 p s2
    have h2 : MotionLaw s2 := MotionLaw.setPos h.drive rfl rfl rfl
    split
    · split
      · exact h2.settled hl
      · exact h2.setPos rfl rfl rfl
    · exact h2.setPos rfl rfl rfl
  · exact MotionLaw.countLoss (h.setPos rfl rfl rfl) hl
  · exact h.setPos rfl rfl rfl

theorem MotionLaw.firstSettleRecord {e : Int} (h : MotionLaw s) (hl : s.pos.act.isLoaded = true) :
    MotionLaw (s.firstSettleRecord e) := by
  unfold State.firstSettleRecord
  split
  · split
    · exact h.settled hl
    · exact h.setPos rfl rfl rfl
  · exact h.setPos rfl rfl rfl

/-- A held seek's release and discard keep a loaded state loaded. -/
theorem releaseHeld_loaded (s : State) (hl : s.pos.act.isLoaded = true) : s.releaseHeld.pos.act.isLoaded = true := by
  unfold State.releaseHeld
  split
  · split
    · unfold State.startSeek
      dsimp only
      simp [(setAct_facts _ _ _).1, ActState.isLoaded]
    · exact hl
  · exact hl

/-- A change of level keeps a loaded state loaded. -/
theorem changeLevel_loaded (s : State) (a : HeatLevel) (c : LevelCause) (hl : s.pos.act.isLoaded = true) :
    (s.changeLevel a c).pos.act.isLoaded = true := by
  have h1 : (s.recordLevel a c).pos.act.isLoaded = true := hl
  unfold State.changeLevel
  dsimp only
  split
  · exact hl
  · split
    · rw [(discardHeld_facts _ _).1]; exact h1
    · exact h1
    · exact releaseHeld_loaded _ h1
    · exact h1

theorem MotionLaw.seekingRecord {r : SectorRecord} (h : MotionLaw s) (hl : s.pos.act.isLoaded = true) :
    MotionLaw (s.seekingRecord r) := by
  unfold State.seekingRecord
  split
  · extract_lets e s1 d s2
    have h1 : MotionLaw s1 := h.drive
    split
    · have h2 : MotionLaw s2 := h1.setAct (h1.notParked hl) (by decide) (fun _ => h1.loaded hl) rfl
      have l2 : s2.pos.act.isLoaded = true := by show (s1.setAct _ _).pos.act.isLoaded = true; rw [(setAct_facts _ _ _).1]; rfl
      exact h2.seekCost.firstSettleRecord (changeLevel_loaded (s2.addHeat _) _ _ l2)
    · exact h1
  · exact h

theorem MotionLaw.loadingRecord {r : SectorRecord} (h : MotionLaw s) (ha : s.pos.act = .loading) :
    MotionLaw (s.loadingRecord r) := by
  have hl : s.pos.act.isLoaded = true := by rw [ha]; rfl
  unfold State.loadingRecord
  split
  · extract_lets s1
    have h1 : MotionLaw s1 := by
      refine h.setAct (h.notParked hl) (by decide) (fun _ => h.loaded hl) ?_
      have := h.deadline
      rw [ha] at this
      cases hd : s.pos.deadline with
      | none => rw [hd] at this; cases this
      | some d => rw [hd] at this; simp_all [deadlineFits]
    have l1 : s1.pos.act.isLoaded = true := by show (s.setAct _ _).pos.act.isLoaded = true; rw [(setAct_facts _ _ _).1]; rfl
    split
    · exact h1
    · exact h1.acquireRecord l1
  · exact h

theorem MotionLaw.servoRecord {r : SectorRecord} (h : MotionLaw s) : MotionLaw (s.servoRecord r) := by
  unfold State.servoRecord
  split
  · cases ha : s.pos.act <;> dsimp only
    · exact h
    · exact h.loadingRecord ha
    all_goals first
      | exact h
      | (split
         · exact h
         · first
           | exact h.acquireRecord (by rw [ha]; rfl)
           | exact h.followingRecord (by rw [ha]; rfl)
           | exact h.seekingRecord (by rw [ha]; rfl)
           | exact h.settlingRecord (by rw [ha]; rfl))
  · exact h

/-! ## The speed monitor (R19 to R22) -/

/-- An arrival at OFF_SPEED unloads loaded heads within itself (R21). -/
theorem MotionLaw.arriveOffSpeed (h : MotionLaw s) (hb : s.pos.spindle ≠ .bench) : MotionLaw s.arriveOffSpeed := by
  unfold State.arriveOffSpeed
  extract_lets p s1
  have key : ∀ u : State, u.pos.act = s.pos.act → u.pos.deadline = s.pos.deadline → u.pos.spindle = .offSpeed →
      u.sdc = s.sdc → u.window = s.window → u.flc = s.flc → MotionLaw (u.beginUnload .spindle) := by
    intro u ha hd hs hl hw hf
    have hg : Grounded u := by
      refine ⟨by rw [ha, hd]; exact h.deadline, by rw [ha, hl]; exact h.slots, by rw [ha, hw]; exact h.window, ?_, ?_, ?_⟩
      · intro k; rw [hf, h.engine hb] at k; cases k
      · intro k; rw [hs] at k; cases k
      · rw [ha, hf]; exact h.select
    cases e : u.pos.act.isLoaded with
    | true => exact hg.beginUnload e
    | false => exact (hg.law e).beginUnload
  exact key _ rfl rfl rfl rfl rfl rfl

theorem MotionLaw.arriveAtSpeed (h : MotionLaw s) (hb : s.pos.spindle ≠ .bench) : MotionLaw s.arriveAtSpeed := by
  unfold State.arriveAtSpeed
  exact MotionLaw.tell (MotionLaw.setSpindle (MotionLaw.setPos h rfl rfl rfl) (by decide) (h.engine hb) (fun _ => rfl))

theorem MotionLaw.judgeRevolution {good : Bool} (h : MotionLaw s) : MotionLaw (s.judgeRevolution good) := by
  unfold State.judgeRevolution
  split
  · rename_i hs
    have h1 : MotionLaw (s.runInTol good) := h.setPos rfl rfl rfl
    dsimp only
    split
    · exact h1.endSpinMove.arriveAtSpeed
        (by rw [(endSpinMove_facts _ _).2.2.1, show (s.runInTol good).pos.spindle = _ from hs]; decide)
    · exact h1
  · rename_i hs
    have h1 : MotionLaw (s.runInTol good) := h.setPos rfl rfl rfl
    dsimp only
    split
    · exact h1.arriveAtSpeed (by rw [show (s.runInTol good).pos.spindle = _ from hs]; decide)
    · exact h1
  · rename_i hs
    have h1 : MotionLaw (s.runOutTol good) := h.setPos rfl rfl rfl
    dsimp only
    split
    · exact h1.arriveOffSpeed (by rw [show (s.runOutTol good).pos.spindle = _ from hs]; decide)
    · exact h1
  all_goals exact h

theorem MotionLaw.restartIndexLimits (h : MotionLaw s) : MotionLaw s.restartIndexLimits := by
  unfold State.restartIndexLimits
  split
  · exact h.setPos rfl rfl rfl
  · exact h.setPos rfl rfl rfl
  all_goals exact h

theorem MotionLaw.speedMonitor {n : Nat} (h : MotionLaw s) : MotionLaw (s.speedMonitor n) := by
  unfold State.speedMonitor
  extract_lets p s1 q
  have h1 : MotionLaw s1 := MotionLaw.restartIndexLimits (h.setPos rfl rfl rfl)
  split
  · exact h1
  · dsimp only
    split
    · exact h1.judgeRevolution
    · exact MotionLaw.judgeRevolution (h1.setPos rfl rfl rfl)

theorem MotionLaw.gateIndex {n : Nat} (h : MotionLaw s) : MotionLaw (s.gateIndex n) := by
  unfold State.gateIndex
  split
  · exact h
  · exact h.setGcu
  · split
    · exact h
    · exact h.endGate

theorem MotionLaw.windowIndex (h : MotionLaw s) : MotionLaw s.windowIndex := by
  unfold State.windowIndex
  split
  · exact h
  · rename_i w hw
    dsimp only
    split
    · exact h.closeWindow
    · exact h.setWindow fun _ => h.window (by rw [hw]; rfl)

/-! ## Deadlines -/

theorem MotionLaw.expireSpinup (h : MotionLaw s) : MotionLaw s.expireSpinup := by
  unfold State.expireSpinup
  split
  · rename_i d hs _
    extract_lets s1
    have h1 : MotionLaw s1 := h.atTick
    have h2 : MotionLaw (s1.endSpinMove .spinupFail) := h1.endSpinMove
    obtain ⟨k1, -, k3, -, -, k6⟩ := endSpinMove_facts s1 .spinupFail
    have hb : s.flc.spindleBench = false := h.engine (by rw [hs]; decide)
    refine MotionLaw.raise (h2.brake (by rw [k6]; exact hb) ?_)
    rw [k1]
    cases e : s1.pos.act.isLoaded with
    | false => rfl
    | true => have := h1.loaded e; rw [show s1.pos.spindle = s.pos.spindle from rfl, hs] at this; cases this
  · exact h

theorem MotionLaw.expireSilence (h : MotionLaw s) : MotionLaw s.expireSilence := by
  unfold State.expireSilence
  split
  · rename_i d hs _
    exact MotionLaw.arriveOffSpeed h.atTick (by show s.pos.spindle ≠ _; rw [hs]; decide)
  · exact h

theorem MotionLaw.expireQuiet (h : MotionLaw s) : MotionLaw s.expireQuiet := by
  unfold State.expireQuiet
  split
  · rename_i d hs _
    extract_lets s1 p s2
    have h2 : MotionLaw s2 := MotionLaw.setPos h.atTick rfl rfl rfl
    obtain ⟨k1, -, k3, -, -, k6⟩ := endSpinMove_facts s2 .stopped
    refine MotionLaw.setSpindle h2.endSpinMove (by decide) (by rw [k6]; exact h.engine (by rw [hs]; decide)) ?_
    rw [k1]
    intro e
    have := h.loaded e
    rw [hs] at this; cases this
  · exact h

/-- A deadline that runs tells the actuator state (R23). -/
theorem deadlineOf_act {k : DeadlineKind} {d : Nat} (h : s.deadlineOf k = some d) : k.runsIn s.pos.act = true := by
  unfold State.deadlineOf at h
  split at h
  · split at h
    · rename_i hk; exact hk.2
    · cases h
  · cases h

theorem MotionLaw.expireLoad (h : MotionLaw s) : MotionLaw s.expireLoad := by
  unfold State.expireLoad
  split
  · exact (MotionLaw.endActMove h.atTick).beginUnload
  · exact h

theorem MotionLaw.expireAcq (h : MotionLaw s) : MotionLaw s.expireAcq := by
  unfold State.expireAcq
  split
  · exact MotionLaw.beginUnload h.atTick
  · exact h

theorem MotionLaw.expireSeek (h : MotionLaw s) : MotionLaw s.expireSeek := by
  unfold State.expireSeek
  split
  · exact (MotionLaw.endActMove h.atTick).beginUnload
  · exact h

theorem MotionLaw.expireSettle (h : MotionLaw s) : MotionLaw s.expireSettle := by
  unfold State.expireSettle
  split
  · rename_i d hd
    refine (MotionLaw.endActMove h.atTick).arriveFollowing ?_
    rw [(endActMove_facts _ _).1]
    have := deadlineOf_act hd
    show s.pos.act.isLoaded = true
    cases e : s.pos.act <;> rw [e] at this <;> first | rfl | cases this
  · exact h

theorem MotionLaw.expireUnload (h : MotionLaw s) : MotionLaw s.expireUnload := by
  unfold State.expireUnload
  split
  · rename_i d hd
    refine MotionLaw.arrivePark h.atTick ?_
    have := deadlineOf_act hd
    show s.pos.act = .unloading
    cases e : s.pos.act <;> rw [e] at this <;> first | rfl | cases this
  · exact h

/-! ## Windows and gates on a record -/

theorem MotionLaw.countWild {n : Nat} (h : MotionLaw s) : MotionLaw (s.countWild n) := h.setSdc rfl

theorem MotionLaw.enterRecord {w : Window} {r : SectorRecord} (h : MotionLaw s) (hf : s.pos.act = .following) :
    MotionLaw (s.enterRecord w r).1 ∧ (s.enterRecord w r).1.pos.act = .following := by
  unfold State.enterRecord
  extract_lets w' s1
  have h1 : MotionLaw s1 ∧ s1.pos.act = .following := by
    show MotionLaw ((if w.reclassifies r then s.countWild r.head else s).setWindow (some w')) ∧
      ((if w.reclassifies r then s.countWild r.head else s).setWindow (some w')).pos.act = .following
    split
    · exact ⟨MotionLaw.setWindow h.countWild fun _ => hf, hf⟩
    · exact ⟨h.setWindow fun _ => hf, hf⟩
  split
  · exact h1
  · split
    · exact ⟨h1.1.closeWindow, by rw [closeWindow_pos]; exact h1.2⟩
    · exact h1

theorem MotionLaw.visitStep {w : Window} (h : MotionLaw s) (hf : s.pos.act = .following) : MotionLaw (s.visitStep w) := by
  unfold State.visitStep
  split
  · exact h.setWindow fun _ => hf
  · exact MotionLaw.setWindow h.selectHead fun _ => by rw [selectHead_pos]; exact hf

theorem MotionLaw.windowRecord {r : SectorRecord} (h : MotionLaw s) : MotionLaw (s.windowRecord r) := by
  unfold State.windowRecord
  split
  · exact h
  · rename_i w hw
    have hf : s.pos.act = .following := h.window (by rw [hw]; rfl)
    split
    · split
      · exact (h.enterRecord hf).1
      · exact h
    · split
      · unfold State.visitRecord
        dsimp only
        split
        · have hk := h.enterRecord (w := { w with pos := w.pos + 1 }) (r := r) hf
          split
          · rename_i s1 e
            rw [e] at hk
            exact hk.1.visitStep hk.2
          · rename_i s1 e
            rw [e] at hk
            exact hk.1
        · exact h.visitStep hf
      · unfold State.followRecord
        split
        · exact h.setWindow fun _ => hf
        · exact MotionLaw.setWindow h.selectHead fun _ => by rw [selectHead_pos]; exact hf

theorem MotionLaw.gateRecord {r : SectorRecord} {n : Nat} (h : MotionLaw s) : MotionLaw (s.gateRecord r n) := by
  unfold State.gateRecord
  split
  · extract_lets l
    split
    · exact h.endGate
    · split
      · exact h.setGcu
      · exact h.endGate
  · exact h

/-! ## Lines (R163 to R170) -/

theorem MotionLaw.rampArrives (h : MotionLaw s) : MotionLaw s.rampArrives := by
  unfold State.rampArrives
  split
  · exact h.arrivePark ‹_›
  · exact h

theorem MotionLaw.preampArrives (h : MotionLaw s) : MotionLaw s.preampArrives := by
  unfold State.preampArrives
  dsimp only
  split
  · exact h.raise.beginUnload.tell
  · exact h.raise

/-- Changes of the fixture lines that keep both owners. -/
theorem MotionLaw.setFlc {x : Flc} (h : MotionLaw s) (hs : x.spindleBench = s.flc.spindleBench)
    (hc : x.selectBench = s.flc.selectBench) : MotionLaw (s.setFlc x) := h.congr rfl rfl rfl rfl id hs hc

theorem MotionLaw.rampLine {l : Ramp} (h : MotionLaw s) : MotionLaw (s.rampLine l) := by
  unfold State.rampLine
  split
  · exact h
  · dsimp only
    split
    · exact MotionLaw.rampArrives (h.setFlc rfl rfl)
    · exact h.setFlc rfl rfl

theorem MotionLaw.preampLine {l : PreampLine} (h : MotionLaw s) : MotionLaw (s.preampLine l) := by
  unfold State.preampLine
  split
  · exact h
  · dsimp only
    split
    · exact MotionLaw.preampArrives (h.setFlc rfl rfl)
    · exact h.setFlc rfl rfl

theorem MotionLaw.headChange {n : Nat} (h : MotionLaw s) : MotionLaw (s.takeHeadChange n) := by
  unfold State.takeHeadChange
  split
  · exact h
  · exact h.setSdc rfl

/-- The SELECT group engine-owned. -/
theorem MotionLaw.selectToEngine (h : MotionLaw s) : MotionLaw s.selectToEngine := by
  unfold State.selectToEngine
  refine MotionLaw.headChange ?_
  exact ⟨h.loaded, h.deadline, h.slots, h.window, h.owned, h.bench, (by intro k; cases k)⟩

theorem MotionLaw.selectToBench {n : Nat} {m : PreampMode} (h : MotionLaw s) (hp : s.pos.act = .parked) :
    MotionLaw (s.selectToBench n m) := by
  unfold State.selectToBench
  refine MotionLaw.headChange ?_
  exact ⟨h.loaded, h.deadline, h.slots, h.window, h.owned, h.bench, fun _ => hp⟩

theorem MotionLaw.spindleToBench {on : Bool} (h : MotionLaw s) (hp : s.pos.act = .parked) : MotionLaw (s.spindleToBench on) := by
  have hl : s.pos.act.isLoaded ≠ true := by rw [hp]; decide
  exact ⟨fun k => absurd k hl, h.deadline, h.slots, h.window, fun _ => rfl, fun _ => hp, h.select⟩

theorem MotionLaw.spindleToEngine (h : MotionLaw s) (hb : s.pos.spindle = .bench) : MotionLaw s.spindleToEngine := by
  unfold State.spindleToEngine
  have h1 : MotionLaw (s.setFlc { s.flc with spindleBench := false }) :=
    ⟨h.loaded, h.deadline, h.slots, h.window, (by intro k; cases k), h.bench, h.select⟩
  exact h1.brake rfl (by show s.pos.act.isLoaded = false; rw [h.bench hb]; rfl)

theorem MotionLaw.senseToEngine (h : MotionLaw s) : MotionLaw s.senseToEngine := by
  unfold State.senseToEngine
  extract_lets f s1 s2
  have h1 : MotionLaw s1 := h.setFlc rfl rfl
  have h2 : MotionLaw s2 := by
    show MotionLaw (if s.flc.liveRamp ≠ s.flc.heldRamp ∧ s.flc.liveRamp = .onRamp then s1.rampArrives else s1)
    split
    · exact h1.rampArrives
    · exact h1
  split
  · exact h2.preampArrives
  · exact h2

theorem MotionLaw.toEngine {g : Group} (h : MotionLaw s) : MotionLaw (s.toEngine g) := by
  unfold State.toEngine
  split
  · rename_i ho
    cases g
    · exact h.selectToEngine.tell
    · exact (h.spindleToEngine (h.owned ho)).tell
    · exact h.senseToEngine
  · exact h

theorem MotionLaw.toBench {g : Group} {head mode level : Nat} (h : MotionLaw s) (hc : s.benchCheck g head mode level = none) :
    MotionLaw (s.toBench g head mode level) := by
  unfold State.toBench
  cases g
  · refine h.selectToBench ?_
    unfold State.benchCheck at hc
    dsimp only at hc
    by_cases hb : s.flc.selectBench = true
    · exact h.select hb
    · by_contra hp
      simp only [hb] at hc
      split at hc
      · cases hc
      · split at hc <;> simp at hc
        exact hp hc
  · dsimp only
    split
    · exact h.setFlc rfl rfl
    · rename_i hb
      refine h.spindleToBench ?_
      unfold State.benchCheck at hc
      by_contra hp
      simp only [hb] at hc
      split at hc
      · cases hc
      · split at hc
        · rename_i e; cases e
        · split at hc <;> simp at hc
  · dsimp only
    split
    · exact h
    · exact h.setFlc rfl rfl

theorem MotionLaw.takeLinesWrite {a b c d e : Nat} {g : Group} (h : MotionLaw s)
    (k : s.takeLinesWrite a b c d e = .ok (g, t)) : MotionLaw t := by
  unfold State.takeLinesWrite at k
  split at k
  · cases k
  · split at k
    · cases k; exact h.toEngine
    · split at k
      · split at k
        · cases k
        · cases k; exact h.toBench ‹_›
      · cases k

/-! ## The Profile Store -/

theorem MotionLaw.endStartup {p : Profile} {r : StartupRecord} (h : MotionLaw s) : MotionLaw (s.endStartup p r) := by
  unfold State.endStartup
  dsimp only
  split
  · exact MotionLaw.selectHead (MotionLaw.setHmp h.setPst)
  · exact MotionLaw.raise (MotionLaw.selectHead (MotionLaw.setHmp h.setPst))

theorem MotionLaw.takeRecord {m : ProfileMemory} (h : MotionLaw s) : MotionLaw (s.takeRecord m) := by
  unfold State.takeRecord
  repeat' split
  all_goals exact h.endStartup

theorem MotionLaw.endRead {a : MemRead} (h : MotionLaw s) : MotionLaw (s.endRead a) := by
  unfold State.endRead
  split
  · split
    · exact h.endStartup
    · exact h.takeRecord
    · exact MotionLaw.takeRecord h.setPst
  · exact h

theorem MotionLaw.expireRead (h : MotionLaw s) : MotionLaw s.expireRead := by
  unfold State.expireRead
  split
  · exact MotionLaw.endStartup h.atTick
  · exact h

theorem MotionLaw.acceptProfile {p : Profile} (h : MotionLaw s) : MotionLaw (s.acceptProfile p) := by
  unfold State.acceptProfile
  extract_lets q s1
  have h1 : MotionLaw s1 := h.setPst
  have h2 : MotionLaw s1.clearDecoder := h1.setSdc rfl
  have h3 : MotionLaw s1.clearDecoder.acceptPos := h2.setPos rfl rfl rfl
  exact MotionLaw.selectHead (MotionLaw.recompute h3.setHmp)

theorem MotionLaw.takeProfile {b : List Byte} (h : MotionLaw s) (k : s.takeProfile b = .ok t) : MotionLaw t := by
  unfold State.takeProfile at k
  split at k
  · cases k
  · split at k
    · cases k
    · split at k
      · cases k
      · split at k
        · cases k
        · cases k
        · cases k; exact h.acceptProfile

theorem MotionLaw.setMemory {m : ProfileMemory} (h : MotionLaw s) : MotionLaw (s.setMemory m) := h.setPst

theorem MotionLaw.spoilRecord (h : MotionLaw s) : MotionLaw s.spoilRecord := MotionLaw.setFree h.setMemory

theorem MotionLaw.spoilCheck (h : MotionLaw s) : MotionLaw s.spoilCheck := MotionLaw.setFree h.setMemory

/-- An answer of the memory keeps the laws when its taking does. -/
theorem MotionLaw.memoryAnswer {take : Save → State → State} (h : MotionLaw s)
    (k : ∀ (v : Save) {r : State}, MotionLaw r → MotionLaw (take v r)) : MotionLaw (s.memoryAnswer take) := by
  unfold State.memoryAnswer
  split
  · exact h
  · exact k _ h
  · exact h.setPst
  · have h1 : MotionLaw (s.setFree (s.free + 1)) := h.setFree
    dsimp only
    split
    · exact h1.setPst
    · exact k _ h1

theorem MotionLaw.stageDone {v : Save} (h : MotionLaw s) : MotionLaw (State.stageDone v s) := by
  unfold State.stageDone
  split
  · exact h.setPst
  · exact MotionLaw.setPst h.setMemory
  · exact MotionLaw.raise (MotionLaw.setPst (MotionLaw.setPst h.setMemory))

theorem MotionLaw.confirmWrite (h : MotionLaw s) : MotionLaw s.confirmWrite := h.memoryAnswer fun _ _ k => k.stageDone

theorem MotionLaw.failedWrite {st : SaveStage} (h : MotionLaw s) : MotionLaw (s.failedWrite st) := by
  cases st
  · exact h
  · exact h.spoilRecord
  · exact h.spoilCheck

theorem MotionLaw.failSave {v : Save} (h : MotionLaw s) : MotionLaw (State.failSave v s) :=
  MotionLaw.raise (MotionLaw.setPst (MotionLaw.setPst h.failedWrite))

theorem MotionLaw.reportFault (h : MotionLaw s) : MotionLaw s.reportFault := h.memoryAnswer fun _ _ k => k.failSave

theorem MotionLaw.expireWrite (h : MotionLaw s) : MotionLaw s.expireWrite := by
  unfold State.expireWrite
  split
  · exact h
  · exact MotionLaw.failSave (MotionLaw.setPst h.atTick)

theorem MotionLaw.resetStore (h : MotionLaw s) : MotionLaw s.resetStore := by
  unfold State.resetStore
  split
  · exact h
  · rename_i v _
    refine MotionLaw.setPst (MotionLaw.setPst ?_)
    cases v.stage
    · exact h
    · exact h.spoilRecord
    · exact h.setMemory

/-! ## The resets -/

theorem MotionLaw.resetGate (h : MotionLaw s) : MotionLaw s.resetGate := MotionLaw.setGcu h.abortGate

theorem MotionLaw.resetSpindle (h : MotionLaw s) : MotionLaw s.resetSpindle := by
  unfold State.resetSpindle
  split
  · rename_i hs
    refine MotionLaw.brake (h.setPos rfl rfl rfl) (h.engine (by rw [hs]; decide)) ?_
    show s.pos.act.isLoaded = false
    cases e : s.pos.act.isLoaded with
    | false => rfl
    | true => have := h.loaded e; rw [hs] at this; cases this
  · rename_i hs
    dsimp only
    split
    · rename_i hp
      exact MotionLaw.brake (h.setPos rfl rfl rfl) (h.engine (by rw [hs]; decide)) (by rw [hp]; rfl)
    · exact MotionLaw.setPos (h.setPos rfl rfl rfl) rfl rfl rfl
  · rename_i hs
    dsimp only
    split
    · rename_i hp
      exact MotionLaw.brake (h.setPos rfl rfl rfl) (h.engine (by rw [hs]; decide)) (by rw [hp]; rfl)
    · exact MotionLaw.setPos (h.setPos rfl rfl rfl) rfl rfl rfl
  all_goals exact h

theorem MotionLaw.resetMotion (h : MotionLaw s) : MotionLaw s.resetMotion := by
  unfold State.resetMotion
  have h1 : MotionLaw s.clearMotion := h.setPos rfl rfl rfl
  exact h1.resetSpindle.beginUnload

theorem MotionLaw.resetLines (h : MotionLaw s) : MotionLaw s.resetLines := by
  unfold State.resetLines
  extract_lets s1 s2 s3
  have h1 : MotionLaw s1 := by
    show MotionLaw (if s.flc.selectBench then s.selectToEngine else s)
    split
    · exact h.selectToEngine
    · exact h
  have h2 : MotionLaw s2 := by
    show MotionLaw (if s1.flc.spindleBench then (s1.newSpinDown .bench).spindleToEngine else s1)
    split
    · rename_i ho
      exact MotionLaw.spindleToEngine (h1.setPos rfl rfl rfl) (h1.owned ho)
    · exact h1
  have h3 : MotionLaw s3 := by
    show MotionLaw (if s2.flc.senseBench then s2.senseToEngine else s2)
    split
    · exact h2.senseToEngine
    · exact h2
  exact h3.setFlc rfl rfl

theorem MotionLaw.benchReset (h : MotionLaw s) : MotionLaw s.benchReset := by
  unfold State.benchReset
  have h1 : MotionLaw ((s.resetLink.resetJobs).resetWindow.resetGate) :=
    MotionLaw.resetGate (MotionLaw.endWindow (MotionLaw.setJct h.setBlk))
  exact MotionLaw.setSdc (MotionLaw.resetStore (MotionLaw.setHmp (MotionLaw.setRtm h1.resetMotion.resetLines.resetHeat))) rfl

theorem MotionLaw.powerOn (s : State) : MotionLaw s.powerOn where
  loaded k := by cases k
  deadline := rfl
  slots := by constructor <;> intro k <;> first | cases k | exact absurd rfl k
  window k := by cases k
  owned k := by cases k
  bench k := by cases k
  select k := by cases k

end Sys2Proof.Machine
end

