-- ==== Sys2Proof/Laws/PerInstr.lean ====
section
/-! SUPPORT. Statements for all commands, one lemma per constructor. Family `Sendable`: a command that can be sent
carries at most 240 bytes of payload, the LEN of one frame (R181, R194). -/

namespace Sys2Proof.Laws

open Sys2Proof.Machine

/-- The payload that a request command's frame carries (R186, R194); the other commands carry none. -/
def payloadOf : Instr → List Byte
  | .powerOnReset => []
  | .slotEndMark _ _ _ _ _ => []
  | .slotEndMiss => []
  | .indexArrival _ => []
  | .rampSenseChange _ => []
  | .preampFaultChange _ => []
  | .heatTick => []
  | .seekPaceRelease => []
  | .hotParkCountExpiry => []
  | .spinupMsExpiry => []
  | .indexSilenceExpiry => []
  | .brakingQuietExpiry => []
  | .loadMsExpiry => []
  | .acqMsExpiry => []
  | .seekMsExpiry => []
  | .settleMsExpiry => []
  | .unloadMsExpiry => []
  | .windowTimeout => []
  | .gateUOverflow => []
  | .gateLOverflow => []
  | .restTimerExpiry _ => []
  | .spindleRecoveryExpiry => []
  | .profileMemoryReadDone _ => []
  | .profileLoadLimitExpiry => []
  | .profileMemoryWriteDone => []
  | .profileMemoryFault => []
  | .saveWriteLimitExpiry => []
  | .byteReceived _ => []
  | .gapLimitExpiry => []
  | .transmitComplete => []
  | .requestUnknownKind _ _ payload => payload
  | .statusRead _ => []
  | .motionRead _ => []
  | .thermalRead _ => []
  | .linesRead _ => []
  | .linkRead _ clear => [clear]
  | .countersRead _ => []
  | .profileRead _ => []
  | .jobList _ => []
  | .resultRead _ selector id => [selector, id]
  | .mapRead _ copy form head zone => [copy, form, head, zone]
  | .eventsRead _ => []
  | .jobSubmit _ kind heads zones options => submitPayload kind heads zones options
  | .jobCancel _ id => [id]
  | .jobSuspend _ id => [id]
  | .jobResume _ id => [id]
  | .mapPublish _ => []
  | .mapExclude _ head => [head]
  | .mapInclude _ head => [head]
  | .mapClear _ selector head => [selector, head]
  | .spinUp _ => []
  | .spinDown _ => []
  | .headsLoad _ => []
  | .headsUnload _ => []
  | .seek _ track offset => seekPayload track offset
  | .profileWrite _ payload => payload
  | .profileSave _ => []
  | .restWrite _ presetA presetB table => restPayload presetA presetB table
  | .eventMaskWrite _ mask => [mask]
  | .linesWrite _ group owner head mode level => [group, owner, head, mode, level]
  | .countersClear _ selector head => [selector, head]
  | .benchReset _ => []
  | .benchResetEffect => []

/-- A field of `w` bytes has `w` bytes. -/
theorem leBytes_length (w n : Nat) : (leBytes w n).length = w := by
  induction w generalizing n with
  | zero => rfl
  | succ w ih => simp [leBytes, ih]

/-- The option entries of a JOB_SUBMIT take three bytes each (R194). -/
theorem options_length (o : List (Byte × Half)) : (o.map optionBytes).flatten.length = 3 * o.length := by
  induction o with
  | nil => rfl
  | cons x xs ih =>
    simp only [List.map_cons, List.flatten_cons, List.length_append, ih, optionBytes, List.length_cons, leBytes_length]
    omega

/-- A JOB_SUBMIT payload has 4 + n + m + 3k bytes (R186). -/
theorem submitPayload_length (kind : Byte) (heads zones : List Byte) (o : List (Byte × Half)) :
    (submitPayload kind heads zones o).length = 4 + heads.length + zones.length + 3 * o.length := by
  have h := options_length o
  simp only [submitPayload, List.length_append, List.length_cons, List.length_nil, h]
  omega

/-- A command that can be sent carries at most 240 bytes of payload (R181). -/
def Sendable.Statement (c : Instr) : Prop := c.wellFormed = true → (payloadOf c).length ≤ 240

theorem Sendable.powerOnReset : Sendable.Statement .powerOnReset := fun _ => Nat.le_of_ble_eq_true rfl

theorem Sendable.slotEndMark (sector : BitVec 10) (code : BitVec 18) (e o : BitVec 12) (ticks : Nat) :
    Sendable.Statement (.slotEndMark sector code e o ticks) :=
  fun _ => Nat.le_of_ble_eq_true rfl

theorem Sendable.slotEndMiss : Sendable.Statement .slotEndMiss := fun _ => Nat.le_of_ble_eq_true rfl

theorem Sendable.indexArrival (ticks : Nat) : Sendable.Statement (.indexArrival ticks) :=
  fun _ => Nat.le_of_ble_eq_true rfl

theorem Sendable.rampSenseChange (level : Ramp) : Sendable.Statement (.rampSenseChange level) :=
  fun _ => Nat.le_of_ble_eq_true rfl

theorem Sendable.preampFaultChange (level : PreampLine) : Sendable.Statement (.preampFaultChange level) :=
  fun _ => Nat.le_of_ble_eq_true rfl

theorem Sendable.heatTick : Sendable.Statement .heatTick := fun _ => Nat.le_of_ble_eq_true rfl

theorem Sendable.seekPaceRelease : Sendable.Statement .seekPaceRelease := fun _ => Nat.le_of_ble_eq_true rfl

theorem Sendable.hotParkCountExpiry : Sendable.Statement .hotParkCountExpiry := fun _ => Nat.le_of_ble_eq_true rfl

theorem Sendable.spinupMsExpiry : Sendable.Statement .spinupMsExpiry := fun _ => Nat.le_of_ble_eq_true rfl

theorem Sendable.indexSilenceExpiry : Sendable.Statement .indexSilenceExpiry := fun _ => Nat.le_of_ble_eq_true rfl

theorem Sendable.brakingQuietExpiry : Sendable.Statement .brakingQuietExpiry := fun _ => Nat.le_of_ble_eq_true rfl

theorem Sendable.loadMsExpiry : Sendable.Statement .loadMsExpiry := fun _ => Nat.le_of_ble_eq_true rfl

theorem Sendable.acqMsExpiry : Sendable.Statement .acqMsExpiry := fun _ => Nat.le_of_ble_eq_true rfl

theorem Sendable.seekMsExpiry : Sendable.Statement .seekMsExpiry := fun _ => Nat.le_of_ble_eq_true rfl

theorem Sendable.settleMsExpiry : Sendable.Statement .settleMsExpiry := fun _ => Nat.le_of_ble_eq_true rfl

theorem Sendable.unloadMsExpiry : Sendable.Statement .unloadMsExpiry := fun _ => Nat.le_of_ble_eq_true rfl

theorem Sendable.windowTimeout : Sendable.Statement .windowTimeout := fun _ => Nat.le_of_ble_eq_true rfl

theorem Sendable.gateUOverflow : Sendable.Statement .gateUOverflow := fun _ => Nat.le_of_ble_eq_true rfl

theorem Sendable.gateLOverflow : Sendable.Statement .gateLOverflow := fun _ => Nat.le_of_ble_eq_true rfl

theorem Sendable.restTimerExpiry (timer : RestTimer) : Sendable.Statement (.restTimerExpiry timer) :=
  fun _ => Nat.le_of_ble_eq_true rfl

theorem Sendable.spindleRecoveryExpiry : Sendable.Statement .spindleRecoveryExpiry :=
  fun _ => Nat.le_of_ble_eq_true rfl

theorem Sendable.profileMemoryReadDone (answer : MemRead) : Sendable.Statement (.profileMemoryReadDone answer) :=
  fun _ => Nat.le_of_ble_eq_true rfl

theorem Sendable.profileLoadLimitExpiry : Sendable.Statement .profileLoadLimitExpiry :=
  fun _ => Nat.le_of_ble_eq_true rfl

theorem Sendable.profileMemoryWriteDone : Sendable.Statement .profileMemoryWriteDone :=
  fun _ => Nat.le_of_ble_eq_true rfl

theorem Sendable.profileMemoryFault : Sendable.Statement .profileMemoryFault := fun _ => Nat.le_of_ble_eq_true rfl

theorem Sendable.saveWriteLimitExpiry : Sendable.Statement .saveWriteLimitExpiry := fun _ => Nat.le_of_ble_eq_true rfl

theorem Sendable.byteReceived (byte : Byte) : Sendable.Statement (.byteReceived byte) :=
  fun _ => Nat.le_of_ble_eq_true rfl

theorem Sendable.gapLimitExpiry : Sendable.Statement .gapLimitExpiry := fun _ => Nat.le_of_ble_eq_true rfl

theorem Sendable.transmitComplete : Sendable.Statement .transmitComplete := fun _ => Nat.le_of_ble_eq_true rfl

theorem Sendable.requestUnknownKind (kind tag : Byte) (payload : List Byte) :
    Sendable.Statement (.requestUnknownKind kind tag payload) := by
  intro h
  simp only [Instr.wellFormed, unknownOk, Bool.and_eq_true, decide_eq_true_eq] at h
  exact h.2

theorem Sendable.statusRead (tag : Byte) : Sendable.Statement (.statusRead tag) := fun _ => Nat.le_of_ble_eq_true rfl

theorem Sendable.motionRead (tag : Byte) : Sendable.Statement (.motionRead tag) := fun _ => Nat.le_of_ble_eq_true rfl

theorem Sendable.thermalRead (tag : Byte) : Sendable.Statement (.thermalRead tag) :=
  fun _ => Nat.le_of_ble_eq_true rfl

theorem Sendable.linesRead (tag : Byte) : Sendable.Statement (.linesRead tag) := fun _ => Nat.le_of_ble_eq_true rfl

theorem Sendable.linkRead (tag clear : Byte) : Sendable.Statement (.linkRead tag clear) :=
  fun _ => Nat.le_of_ble_eq_true rfl

theorem Sendable.countersRead (tag : Byte) : Sendable.Statement (.countersRead tag) :=
  fun _ => Nat.le_of_ble_eq_true rfl

theorem Sendable.profileRead (tag : Byte) : Sendable.Statement (.profileRead tag) :=
  fun _ => Nat.le_of_ble_eq_true rfl

theorem Sendable.jobList (tag : Byte) : Sendable.Statement (.jobList tag) := fun _ => Nat.le_of_ble_eq_true rfl

theorem Sendable.resultRead (tag selector id : Byte) : Sendable.Statement (.resultRead tag selector id) :=
  fun _ => Nat.le_of_ble_eq_true rfl

theorem Sendable.mapRead (tag copy form head zone : Byte) : Sendable.Statement (.mapRead tag copy form head zone) :=
  fun _ => Nat.le_of_ble_eq_true rfl

theorem Sendable.eventsRead (tag : Byte) : Sendable.Statement (.eventsRead tag) := fun _ => Nat.le_of_ble_eq_true rfl

theorem Sendable.jobSubmit (tag kind : Byte) (heads zones : List Byte) (options : List (Byte × Half)) :
    Sendable.Statement (.jobSubmit tag kind heads zones options) := by
  intro h
  simp only [Instr.wellFormed, submitOk, decide_eq_true_eq] at h
  simp only [payloadOf, submitPayload_length]
  exact h

theorem Sendable.jobCancel (tag id : Byte) : Sendable.Statement (.jobCancel tag id) :=
  fun _ => Nat.le_of_ble_eq_true rfl

theorem Sendable.jobSuspend (tag id : Byte) : Sendable.Statement (.jobSuspend tag id) :=
  fun _ => Nat.le_of_ble_eq_true rfl

theorem Sendable.jobResume (tag id : Byte) : Sendable.Statement (.jobResume tag id) :=
  fun _ => Nat.le_of_ble_eq_true rfl

theorem Sendable.mapPublish (tag : Byte) : Sendable.Statement (.mapPublish tag) := fun _ => Nat.le_of_ble_eq_true rfl

theorem Sendable.mapExclude (tag head : Byte) : Sendable.Statement (.mapExclude tag head) :=
  fun _ => Nat.le_of_ble_eq_true rfl

theorem Sendable.mapInclude (tag head : Byte) : Sendable.Statement (.mapInclude tag head) :=
  fun _ => Nat.le_of_ble_eq_true rfl

theorem Sendable.mapClear (tag selector head : Byte) : Sendable.Statement (.mapClear tag selector head) :=
  fun _ => Nat.le_of_ble_eq_true rfl

theorem Sendable.spinUp (tag : Byte) : Sendable.Statement (.spinUp tag) := fun _ => Nat.le_of_ble_eq_true rfl

theorem Sendable.spinDown (tag : Byte) : Sendable.Statement (.spinDown tag) := fun _ => Nat.le_of_ble_eq_true rfl

theorem Sendable.headsLoad (tag : Byte) : Sendable.Statement (.headsLoad tag) := fun _ => Nat.le_of_ble_eq_true rfl

theorem Sendable.headsUnload (tag : Byte) : Sendable.Statement (.headsUnload tag) :=
  fun _ => Nat.le_of_ble_eq_true rfl

theorem Sendable.seek (tag : Byte) (track : Quad) (offset : Half) : Sendable.Statement (.seek tag track offset) :=
  fun _ => Nat.le_of_ble_eq_true rfl

theorem Sendable.profileWrite (tag : Byte) (payload : List Byte) : Sendable.Statement (.profileWrite tag payload) :=
  fun h => of_decide_eq_true h

theorem Sendable.profileSave (tag : Byte) : Sendable.Statement (.profileSave tag) :=
  fun _ => Nat.le_of_ble_eq_true rfl

theorem Sendable.restWrite (tag : Byte) (presetA presetB : Quad) (table : List Byte) :
    Sendable.Statement (.restWrite tag presetA presetB table) := by
  intro h
  simp only [Instr.wellFormed, restOk, decide_eq_true_eq] at h
  simp [payloadOf, restPayload, leBytes_length, h]

theorem Sendable.eventMaskWrite (tag mask : Byte) : Sendable.Statement (.eventMaskWrite tag mask) :=
  fun _ => Nat.le_of_ble_eq_true rfl

theorem Sendable.linesWrite (tag group owner head mode level : Byte) :
    Sendable.Statement (.linesWrite tag group owner head mode level) :=
  fun _ => Nat.le_of_ble_eq_true rfl

theorem Sendable.countersClear (tag selector head : Byte) : Sendable.Statement (.countersClear tag selector head) :=
  fun _ => Nat.le_of_ble_eq_true rfl

theorem Sendable.benchReset (tag : Byte) : Sendable.Statement (.benchReset tag) := fun _ => Nat.le_of_ble_eq_true rfl

theorem Sendable.benchResetEffect : Sendable.Statement .benchResetEffect := fun _ => Nat.le_of_ble_eq_true rfl

end Sys2Proof.Laws
end

