-- ==== Sys2Proof/Laws/Quiet.lean ====
section
/-! SUPPORT. The end of an arrival: what the Job Controller's work does when there are no reports, no RUNNING job or no jobs
at all, and what every arrival leaves as it is. -/

namespace Sys2Proof.Machine

variable {s : State}

/-! ## The Job Controller's work of an arrival -/

/-- With no reports there is nothing to take. -/
theorem drain_of_nil (h : s.inbox = []) (n : Nat) : s.drain n = s := by
  cases n with
  | zero => unfold State.drain; rw [← h]; rfl
  | succ n => unfold State.drain; rw [h]

/-- Every report has been taken at the end of an arrival. -/
theorem drain_inbox (n : Nat) : (s.drain n).inbox = [] := by
  induction n generalizing s with
  | zero => rfl
  | succ n ih =>
    unfold State.drain
    split
    · assumption
    · exact ih

/-- The reports that do nothing while no job is RUNNING. -/
def JctMsg.needsRunning : JctMsg → Bool
  | .moveEnded _ _ _ => true
  | .posChanged => true
  | .departed _ _ => true
  | .windowEnded _ _ => true
  | .gateEnded _ _ => true
  | .switchPoint _ => true
  | .switchLost _ => true
  | .takeUp => true
  | .prepare => true
  | .atSpeed => false
  | .offSpeed => false
  | .hot => false
  | .leftHot => false
  | .linesReturned => false
  | .preampFault => false
  | .startTest => false
  | .restTest => false

/-- With no RUNNING job the Job Controller has no head-zone in hand. -/
theorem here_of_noneRuns (h : s.running = none) : s.here = none := by unfold State.here; rw [h]

/-- With no RUNNING job these reports change nothing. -/
theorem jctTake_noneRuns (h : s.running = none) {m : JctMsg} (hm : m.needsRunning = true) : s.jctTake m = s := by
  have hh := here_of_noneRuns h
  cases m <;>
    simp_all [JctMsg.needsRunning, State.jctTake, State.takeMove, State.takePosChange, State.takeDeparture, State.takeWindow,
      State.takeGate, State.takeSwitch, State.takeSwitchLost, State.takeUp, State.prepare, State.runningPhase]

/-- With no RUNNING job, reports that concern only a RUNNING job are taken and change nothing. -/
theorem drain_noneRuns (n : Nat) (h : s.running = none) (hm : s.inbox.all JctMsg.needsRunning = true) :
    s.drain n = s.setInbox [] := by
  induction n generalizing s with
  | zero => rfl
  | succ n ih =>
    unfold State.drain
    split
    · rename_i e; rw [← e]; rfl
    · rename_i m ms e
      rw [e] at hm
      simp only [List.all_cons, Bool.and_eq_true] at hm
      rw [jctTake_noneRuns (s := s.setInbox ms) h hm.1]
      exact ih (s := s.setInbox ms) h hm.2

/-- Without jobs no job is active. -/
theorem active_noJobs (h : s.jct.table = []) : s.active = none := by simp [State.active, h]

/-- Without jobs no job is RUNNING. -/
theorem running_noJobs (h : s.jct.table = []) : s.running = none := by simp [State.running, active_noJobs h]

/-- Without jobs every report but the rest test changes nothing. -/
theorem jctTake_noJobs (h : s.jct.table = []) {m : JctMsg} (hm : m ≠ .restTest) : s.jctTake m = s := by
  have hr := running_noJobs h
  have ha := active_noJobs h
  by_cases hn : m.needsRunning = true
  · exact jctTake_noneRuns hr hn
  · have hs : s.startTest = s := by unfold State.startTest State.queueHead; simp [h]
    cases m <;>
      simp_all [JctMsg.needsRunning, State.jctTake, State.takeAtSpeed, State.addReason, State.dropReason, State.takeLeftHot,
        State.takeLines, State.finishActive, State.runningPhase]

/-- Without jobs the reports of an arrival change nothing. -/
theorem drain_noJobs (n : Nat) (h : s.jct.table = []) (hm : ∀ m ∈ s.inbox, m ≠ .restTest) : s.drain n = s.setInbox [] := by
  induction n generalizing s with
  | zero => rfl
  | succ n ih =>
    unfold State.drain
    split
    · rename_i e; rw [← e]; rfl
    · rename_i m ms e
      rw [e] at hm
      rw [jctTake_noJobs (s := s.setInbox ms) h (hm m (by simp))]
      exact ih (s := s.setInbox ms) h fun x hx => hm x (List.mem_cons_of_mem _ hx)

/-! ## The transmitter -/

/-- All that the transmitter's start does (R187). -/
theorem transmit_cases (s : State) :
    s.transmit = s ∨
      ∃ w ws, s.blk.sending = none ∧ s.blk.waiting = w :: ws ∧
        s.transmit = s.setBlk { s.blk with sending := some (s.sendingOf w), waiting := ws } := by
  unfold State.transmit
  split
  · exact .inr ⟨_, _, ‹_›, ‹_›, rfl⟩
  · exact .inl rfl

/-- A busy transmitter begins nothing. -/
theorem transmit_busy {x : Sending} (h : s.blk.sending = some x) : s.transmit = s := by
  unfold State.transmit; rw [h]

/-- With nothing waiting there is nothing to begin. -/
theorem transmit_nothing (h : s.blk.waiting = []) : s.transmit = s := by
  unfold State.transmit; rw [h]; cases s.blk.sending <;> rfl

/-- The transmitter's start changes the Bench Link alone, and there only the record in transmission and those waiting. -/
theorem transmit_frame (s : State) : ∃ x w, s.transmit = s.setBlk { s.blk with sending := x, waiting := w } := by
  rcases transmit_cases s with h | ⟨w, ws, -, -, h⟩
  · exact ⟨s.blk.sending, s.blk.waiting, h⟩
  · exact ⟨_, _, h⟩

/-! ## Every arrival -/

/-- What the end of an arrival leaves as it is. -/
theorem finish_frame (s : State) : MotionFrame s s.finish := by
  have h := drain_carries s Config.drainFuel
  obtain ⟨x, w, hx⟩ := transmit_frame (s.drain Config.drainFuel)
  unfold State.finish
  rw [hx]
  exact ⟨h.now, h.chm, h.pst, h.free, h.pending, h.period, h.indexRef, h.counts, h.flc, h.published, h.gen, h.table, h.asm,
    h.buffer, h.counters, h.lastFault, h.mask, h.raised⟩

/-- What an arrival's motion and its end leave as it is. -/
theorem Carries.finish {t : State} (h : Carries s t) : MotionFrame s t.finish := by
  have k := finish_frame t
  exact ⟨k.now.trans h.now, k.chm.trans h.chm, k.pst.trans h.pst, k.free.trans h.free, k.pending.trans h.pending,
    k.period.trans h.period, k.indexRef.trans h.indexRef, k.counts.trans h.counts, by rw [k.flc, h.flc],
    k.published.trans h.published, k.gen.trans h.gen, k.table.trans h.table, k.asm.trans h.asm, k.buffer.trans h.buffer,
    k.counters.trans h.counters, k.lastFault.trans h.lastFault, k.mask.trans h.mask, fun e he => k.raised e (h.raised e he)⟩

/-- Every report has been taken after an arrival. -/
theorem finish_inbox (s : State) : s.finish.inbox = [] := by
  obtain ⟨x, w, hx⟩ := transmit_frame (s.drain Config.drainFuel)
  unfold State.finish
  rw [hx]
  exact drain_inbox _

/-- Every arrival keeps the queue of waiting commands. -/
theorem finish_pending (s : State) : s.finish.pending = s.pending := (finish_frame s).pending

/-- With no RUNNING job and no reports but for a RUNNING job, an arrival ends with the transmitter's start alone. -/
theorem finish_noneRuns (h : s.running = none) (hm : s.inbox.all JctMsg.needsRunning = true) :
    s.finish = (s.setInbox []).transmit := by unfold State.finish; rw [drain_noneRuns _ h hm]

/-- Without jobs an arrival ends with the transmitter's start alone. -/
theorem finish_noJobs (h : s.jct.table = []) (hm : ∀ m ∈ s.inbox, m ≠ .restTest) :
    s.finish = (s.setInbox []).transmit := by unfold State.finish; rw [drain_noJobs _ h hm]

/-- With no reports an arrival ends with the transmitter's start alone. -/
theorem finish_of_nil (h : s.inbox = []) : s.finish = s.transmit := by unfold State.finish; rw [drain_of_nil h]

end Sys2Proof.Machine
end

