-- ==== Sys2Proof/Laws/Requests.lean ====
section
/-! SUPPORT. A request command on a link that is ready for it: the frame is decoded at once, its owner answers, and the reply
begins to leave at the end of the arrival. -/

namespace Sys2Proof.Machine

variable {s : State}

/-- A ready link decodes a frame at once (R184). -/
theorem offerFrame_ready (h : s.LinkReady) (f : Frame) : s.offerFrame f = (s.openReply f.tag).judge f := by
  have hb : s.setBlk { s.blk with buffer := [], sending := none, waiting := [] } = s := by
    rw [← h.buffer, ← h.sending, ← h.waiting]; rfl
  simp [State.offerFrame, h.buffer, State.decodeNext, Blk.replyFree, h.waiting, h.sending, hb]

/-- A request command on a ready link (log 6). -/
theorem request_ready (h : s.LinkReady) (kind : Nat) (tag : Byte) {p : List Byte} (hp : p.length ≤ 240) :
    request kind tag p s =
      arrival ((s.openReply tag).judge { kind := byteOf kind, tag := tag, payload := p }) := by
  unfold request
  rw [if_pos hp, offerFrame_ready h]

/-- A frame of a known kind and a good length goes to its owner (R185). -/
theorem judge_good {k : RequestKind} {f : Frame} (hs : s.pst.state ≠ .starting)
    (hk : RequestKind.ofCode f.kind.toNat = some k) (hl : ∀ n, k.fixedLength = some n → f.payload.length = n) :
    s.judge f = s.answer k f := by
  unfold State.judge
  rw [hk]
  simp only [hs, if_false]
  split
  · rw [if_pos (hl _ ‹_›)]
  · rfl

/-- The code of every kind names it again (R186). -/
theorem ofCode_code (k : RequestKind) : RequestKind.ofCode k.code = some k := by cases k <;> rfl

/-- The code of every kind fits a byte (R186). -/
theorem byteOf_code (k : RequestKind) : (byteOf k.code).toNat = k.code := by cases k <;> rfl

/-- A request command of a known kind and a good length, on a ready link, goes to its owner. -/
theorem request_good (h : s.LinkReady) (k : RequestKind) (tag : Byte) {p : List Byte} (hp : p.length ≤ 240)
    (hl : ∀ n, k.fixedLength = some n → p.length = n) :
    request k.code tag p s =
      arrival ((s.openReply tag).answer k { kind := byteOf k.code, tag := tag, payload := p }) := by
  rw [request_ready h _ _ hp]
  exact congrArg arrival (judge_good h.started (by rw [byteOf_code, ofCode_code]) hl)

/-- An answer with no reports to the Job Controller leaves at once, behind nothing: the reply alone waits, and it is in
transmission at the end of the arrival (R184, R187). -/
theorem finish_answered {u : State} {f g : Frame} {r : Bool} (hi : u.inbox = []) (hs : u.blk.sending = none)
    (hw : u.blk.waiting = [.reply g false]) :
    (u.fillReply f r).finish =
      u.setBlk
        { u.blk with
          sending := some { frame := f, isReply := true, reset := r, due := u.now + Config.byteTicks * (5 + f.payload.length) }
          waiting := [] } := by
  rw [finish_of_nil (s := u.fillReply f r) hi]
  unfold State.transmit State.fillReply
  simp [hs, hw, Waiting.fill, State.setBlk, State.sendingOf]

/-- A request command of a known kind and a good length whose owner answers `a` with no reports: the whole outcome. -/
theorem request_answered (h : s.LinkReady) (k : RequestKind) (tag : Byte) {p : List Byte} {a : Answer} {u : State} {g : Frame}
    (hp : p.length ≤ 240) (hl : ∀ n, k.fixedLength = some n → p.length = n) (hk : k ≠ .restWrite)
    (ha : ((s.openReply tag).reloadFor k).handle k p = (a, u)) (hi : u.inbox = []) (hs : u.blk.sending = none)
    (hw : u.blk.waiting = [.reply g false]) :
    request k.code tag p s =
      .next (u.setBlk
        { u.blk with
          sending := some
            { frame := a.frame tag, isReply := true, reset := isResetAck k a
              due := u.now + Config.byteTicks * (5 + (a.frame tag).payload.length) }
          waiting := [] }) := by
  rw [request_good h k tag hp hl]
  unfold arrival State.answer
  simp only [hk, if_false, ha]
  rw [finish_answered hi hs hw]

end Sys2Proof.Machine
end

