-- ==== Sys2Proof/Laws/Store.lean ====
section
/-! SUPPORT. The bytes of the fixture profile memory, and what the operations of the Profile Store over them can do. -/

namespace Sys2Proof.Machine

variable {s : State}

/-! ## Bytes -/

@[simp] theorem leBytes_length (w n : Nat) : (leBytes w n).length = w := by
  induction w generalizing n with
  | zero => rfl
  | succ w ih => simp [leBytes, ih]

/-- The two bytes of a 16-bit word bring it back. -/
theorem leNat_leBytes_half (w : Half) : BitVec.ofNat 16 (leNat (leBytes 2 w.toNat)) = w := by
  apply BitVec.eq_of_toNat_eq
  have := w.isLt
  simp only [leBytes, leNat, byteOf, BitVec.toNat_ofNat]
  omega

/-- The bytes of a field that lies inside a list are not those behind the list. -/
theorem fieldBytes_append {xs ys : List Byte} {i w : Nat} (h : i + w ≤ xs.length) :
    fieldBytes (xs ++ ys) i w = fieldBytes xs i w := by
  unfold fieldBytes
  rw [List.drop_append_of_le_length (by omega), List.take_append_of_le_length (by simp; omega)]

/-- A memory that begins with a record of the length of its own ZONE_COUNT and two bytes behind it holds that record and the
word that those bytes spell (R174). -/
theorem splitMemory_append {record rest : List Byte} {w : Half} (h : record.length = 96 + 4 * leNat (fieldBytes record 2 2)) :
    splitMemory (record ++ leBytes 2 w.toNat ++ rest) = some (record, w) := by
  have hn : storedLength (record ++ leBytes 2 w.toNat ++ rest) = record.length := by
    unfold storedLength
    rw [List.append_assoc, fieldBytes_append (by omega), ← h]
  unfold splitMemory
  simp only [hn]
  rw [if_pos (by simp)]
  simp [fieldBytes, leNat_leBytes_half, List.append_assoc]

/-- The length of a memory after a write inside it. -/
theorem overwrite_length {m bs : List Byte} {i : Nat} (h : i + bs.length ≤ m.length) : (overwrite m i bs).length = m.length := by
  simp [overwrite]
  omega

/-- A write at address 0 puts its bytes before what lay behind them. -/
theorem overwrite_zero (m bs : List Byte) : overwrite m 0 bs = bs ++ m.drop bs.length := by simp [overwrite]

/-- A write inside the memory leaves the bytes before it and behind it. -/
theorem overwrite_inside {m bs : List Byte} {i : Nat} (h : i ≤ m.length) :
    overwrite m i bs = m.take i ++ bs ++ m.drop (i + bs.length) := by
  simp [overwrite, Nat.sub_eq_zero_of_le h]

/-! ## The store's operations -/

@[simp] theorem State.setMemory_pst (m : ProfileMemory) : (s.setMemory m).pst = { s.pst with memory := m } := rfl
@[simp] theorem State.setMemory_prof (m : ProfileMemory) : (s.setMemory m).prof = s.prof := rfl
@[simp] theorem State.setMemory_blk (m : ProfileMemory) : (s.setMemory m).blk = s.blk := rfl
@[simp] theorem State.setMemory_inbox (m : ProfileMemory) : (s.setMemory m).inbox = s.inbox := rfl
@[simp] theorem State.setMemory_free (m : ProfileMemory) : (s.setMemory m).free = s.free := rfl
@[simp] theorem State.setMemory_now (m : ProfileMemory) : (s.setMemory m).now = s.now := rfl
@[simp] theorem State.giveUp_pst : s.giveUp.pst = { s.pst with late := s.pst.late + 1 } := rfl
@[simp] theorem State.giveUp_prof : s.giveUp.prof = s.prof := rfl

/-- What an answer of the memory can be (R179, log 42): nothing awaited, the awaited write's with none outstanding, a late one,
or the awaited write's with one outstanding. -/
theorem memoryAnswer_cases (s : State) (take : Save → State → State) :
    (s.pst.save = none ∧ s.memoryAnswer take = s.setPst { s.pst with late := s.pst.late - 1 }) ∨
    (∃ v, s.pst.save = some v ∧ s.pst.late = 0 ∧ s.memoryAnswer take = take v s) ∨
    (∃ v, s.pst.save = some v ∧ 0 < s.pst.late ∧
      (s.memoryAnswer take = (s.setFree (s.free + 1)).setPst { s.pst with late := s.pst.late - 1 } ∨
        s.memoryAnswer take = take v (s.setFree (s.free + 1)))) := by
  unfold State.memoryAnswer
  split
  · refine .inl ⟨‹_›, ?_⟩
    rename_i h _
    rw [h]
    show s = s.setPst { s.pst with late := 0 }
    rw [← h]
    rfl
  · exact .inr (.inl ⟨_, ‹_›, ‹_›, rfl⟩)
  · refine .inl ⟨‹_›, ?_⟩
    rename_i h _
    rw [h]
    rfl
  · refine .inr (.inr ⟨_, ‹_›, by omega, ?_⟩)
    rename_i h _
    split
    · exact .inl (by rw [h]; rfl)
    · exact .inr rfl

end Sys2Proof.Machine
end

