-- ==== Sys2Proof/Tests/Slice0.lean ====
section
/-! SUPPORT. Tests of the model on small states: the well-formedness checks on ill-formed terms, examples worked from the
manual's rules, and for every statement of Certificates/Slice0/Obligations.lean concrete states and operands that meet
the hypotheses of each of its clauses together. -/

set_option maxRecDepth 100000

namespace Sys2Proof.Tests

open Sys2Proof.Machine

/-! ## States to test on -/

/-- The next state of an outcome. -/
def nextOf : Host.Outcome State Fault Refusal → Option State
  | .next t => some t
  | .fault _ => none
  | .refused _ => none

/-- The part at rest once the start-up load has ended. -/
def quiet : State :=
  { State.reset with now := 1000, pst := { State.reset.pst with state := .ready, loadDue := none } }

/-- A quiet part with the given spindle and actuator states. -/
def std (sp : SpindleState) (a : ActState) : State := quiet.setPos { quiet.pos with spindle := sp, act := a }

/-- A quiet part with the heads off the ramp, a slot due at tick 2000, rest timer A running to tick 2000 and the given
deadline at tick 2000. -/
def fly (a : ActState) (k : Option DeadlineKind) : State :=
  { quiet with
    sdc := { quiet.sdc with slotDue := some 2000 }
    pos := { quiet.pos with spindle := .atSpeed, act := a, deadline := k.map fun x => { kind := x, due := 2000 } }
    rtm := { quiet.rtm with a := { preset := 30000, due := some 2000 } }
    flc := { quiet.flc with liveRamp := .offRamp } }

/-- The state with its Positioner changed. -/
def posOf (s : State) (f : Pos → Pos) : State := s.setPos (f s.pos)

/-- The state with its fixture lines changed. -/
def linesOf (s : State) (f : Flc → Flc) : State := s.setFlc (f s.flc)

/-- The state at a heat level with a pace count. -/
def heatOf (s : State) (level : HeatLevel) (pace : Nat) : State := s.setChm { s.chm with level := level, pace := pace }

/-- The state with a job table. -/
def jobsOf (s : State) (js : List Job) : State := s.setJct { s.jct with table := js }

/-- The state with rest timer A running. -/
def timedOf (s : State) : State := s.setRtm { s.rtm with a := { preset := 30000, due := some 2000 } }

/-- A flying part whose only job is `j` and awaits its window. -/
def jobOf (s : State) (j : Job) : State :=
  (timedOf s).setJct { s.jct with table := [j], ctx := { s.jct.ctx with await := some .window } }

/-- The last revolution of a window of the default sizes. -/
def lastTurn : Window :=
  { probing := false, kind := .qualify, head := 1, anchorOnly := false, size := 64, follow := 8, visit := 3, limit := 16
    track := 200, offset := 0, pos := 0, revs := 15, used := 10, weak := 0, miss := 1, wild := 1, sumV := 0, sumAmp := 6000
    attempt := 0 }

/-- A QUALIFY job that collects its one head-zone. -/
def collecting : Job :=
  { id := 1, kind := .qualify, heads := [1], zones := [2], options := {}, state := .running, reasons := {}
    cursor := some { zone := 0, head := 0, phase := .collect, retries := 0, failedZones := 0 }
    figures := some { w := 64, centre := 0, jog := 1024, o1 := 1024, o2 := -1024, r := 4 }
    counts := {}, first := none, flags := {} }

/-- A job that waits its turn. -/
def queuedJob : Job := { collecting with id := 2, state := .queued, cursor := none, figures := none }

/-- The record of a finished job that no one has read. -/
def finished7 : Finished :=
  { id := 7, kind := .skew, final := .done, reason := none, counts := {}, first := none, flags := {}, read := false }

/-- An ACK in transmission, of a BENCH_RESET or not. -/
def ack (reset : Bool) : Sending :=
  { frame := { kind := 0x80, tag := 9, payload := [] }, isReply := true, reset := reset, due := 6000 }

/-- A frame of a KIND that R186 does not list. -/
def unknownFrame : Frame := { kind := 0x0C, tag := 5, payload := [] }

/-- The state with a receive buffer of `n` frames and a record in transmission. -/
def linkOf (s : State) (n : Nat) (x : Option Sending) (ws : List Waiting) : State :=
  s.setBlk { s.blk with buffer := List.replicate n unknownFrame, sending := x, waiting := ws }

/-- The state with a save in flight. -/
def savingOf (s : State) (v : SaveStage) : State := s.setPst { s.pst with save := some { stage := v, due := 2000 } }

/-- A stopped part with the gate in the given state. -/
def gateOf (s : State) (g : GateState) (m : GateMode) (marks : Nat) (head : Option Nat) : State :=
  s.setGcu { s.gcu with state := g, mode := m, stageU := marks, start := 1000, head := head }

/-- The state with the assembler in the given state. -/
def asmOf (st : AsmState) (got : List Byte) : State :=
  quiet.setBlk { quiet.blk with asm := { state := st, len := 0, got := got, gapDue := some 2000 } }

/-- The flying part at a heat index, with the next heat tick at tick 2000. -/
def warmth (level : HeatLevel) (heat hot : Nat) : State :=
  (fly .following none).setChm { quiet.chm with level := level, heat := heat, hot := hot, nextTick := 2000 }

/-- A part with every store full. -/
def full : State :=
  { fly .following none with
    sdc := { quiet.sdc with counters := [{ miss := 65535, weak := 65535, wild := 65535, slip := 65535 }] }
    jct := { quiet.jct with table := List.replicate 8 queuedJob, finished := List.replicate 8 finished7 }
    chm := { quiet.chm with heat := 65535, pace := 65535 }
    blk := { quiet.blk with
      buffer := List.replicate 4 unknownFrame, counters := { check := 255, length := 255, gap := 255, overrun := 255 } } }

/-- A head map whose heads are all excluded. -/
def excludedMap : State := quiet.setHmp { quiet.hmp with working := List.replicate 4 { excluded := true, zones := [] } }

/-- The fixture profile memory with a profile saved. -/
def stored (p : Profile) : ProfileMemory := wholeMemory (formMemory p.record (checkWord p.record))

/-- The cursor of a job at its only head-zone, in phase `p`. -/
def at1 (p : Phase) (retries : Nat) : Cursor := { zone := 0, head := 0, phase := p, retries := retries, failedZones := 0 }

/-- The figures of a job on the default profile. -/
def defaultFigures : Figures := { w := 64, centre := 0, jog := 1024, o1 := 1024, o2 := -1024, r := 4 }

/-- A SKEW job of head 1 and zone 2, in phase `p`. -/
def skewing (p : Phase) (retries : Nat) : Job :=
  { collecting with kind := .skew, cursor := some (at1 p retries), figures := some defaultFigures }

/-- A part that follows zone 2's track and measures skew in phase `p`, the probe head selected or not, the gate awaited or
not. -/
def skewState (p : Phase) (retries : Nat) (probe awaited : Bool) : State :=
  let s := fly .following none
  { s with
    pos := { s.pos with target := 30000, indexRef := some 1000 }
    jct := { s.jct with
      table := [skewing p retries], ctx := { await := if awaited then some .gate else none, probe := probe } }
    flc := { s.flc with engineHead := if probe then 1 else 0 } }

/-- The cursor of a job at its only head-zone, in phase `p`, with zones failed before. -/
def at2 (p : Phase) (retries failed : Nat) : Cursor := { at1 p retries with failedZones := failed }

/-- A job of head 1 and zone 2 in phase `p`, with zones failed before. -/
def measuring (k : JobKind) (p : Phase) (retries failed : Nat) : Job :=
  { collecting with
    kind := k
    cursor := some (at2 p retries failed)
    figures := some defaultFigures }

/-- The state whose only job is `j` and awaits the outcome `a`. -/
def measureOf (s : State) (j : Job) (a : Await) : State := s.setJct { s.jct with table := [j], ctx := { await := some a } }

/-- A flying part whose Positioner carries out a move of the attempt in flight toward zone 2's track, its run counts one
below their ends. -/
def moving (a : ActState) (k : Option DeadlineKind) (m : Option MoveKind) : State :=
  posOf (fly a k) (fun p =>
    { p with
      target := 30000, acqRun := 7, settleRun := 7
      actMove := m.map fun x => { kind := x, owner := .job 0 } })

/-- A part that measures in phase `p` with a window of head 1 one record from its size. -/
def nearlyFull (k : JobKind) (p : Phase) : State :=
  let s := measureOf (linesOf (fly .following none) (fun x => { x with engineHead := 1 })) (measuring k p 0 0) .window
  (s.setWindow (some { lastTurn with probing := true, track := 4, used := 63, revs := 3 })).setJct
    { s.jct with ctx := { s.jct.ctx with firstReport := some { ending := .complete, window := lastTurn, mean := some 5 } } }

/-- The state with the ACK of a BENCH_RESET in transmission. -/
def resetting (s : State) : State := s.setBlk { s.blk with sending := some (ack true) }

/-! ## The hypotheses that several statements share -/

theorem linkReady_of (s : State)
    (h : s.pst.state ≠ .starting ∧ s.blk.buffer = [] ∧ s.blk.waiting = [] ∧ s.blk.sending = none ∧ s.inbox = []) :
    s.LinkReady := ⟨h.1, h.2.1, h.2.2.1, h.2.2.2.1, h.2.2.2.2⟩

theorem noneRuns_of (s : State) (h : s.running = none ∧ s.inbox = []) : s.NoneRuns := ⟨h.1, h.2⟩

theorem noJobs_of (s : State) (h : s.jct.table = [] ∧ s.inbox = []) : s.NoJobs := ⟨h.1, h.2⟩

theorem quietSlot_of (s : State)
    (h : s.sdc.slotDue.isSome = true ∧ (s.jct.table = [] ∧ s.inbox = []) ∧ s.window = none ∧ s.gcu.state = .idle ∧
      s.sdc.marker = false ∧ s.drivenHead = s.prof.anchor ∧ (s.rtm.a.isRunning = true ∨ s.rtm.b.isRunning = true)) :
    QuietSlot s := ⟨h.1, noJobs_of s h.2.1, h.2.2.1, h.2.2.2.1, h.2.2.2.2.1, h.2.2.2.2.2.1, h.2.2.2.2.2.2⟩

theorem goodMark_of (s : State) (sector : BitVec 10) (code : BitVec 18) (e o : BitVec 12) (m : Mark)
    (h : markOf s.prof.sectors sector code e o = some m ∧ m.track ≤ s.prof.trackMax ∧ s.prof.ampFloor ≤ m.e + m.o) :
    GoodMark s sector code e o m := ⟨h.1, h.2.1, h.2.2⟩

theorem skewUnderWay_of (s : State) (j : Job) (c : Cursor) (f : Figures) (head zone : Nat) (p : Phase)
    (h : s.inbox = [] ∧ s.running = some j ∧ j.kind = .skew ∧ j.cursor = some c ∧ c.phase = p ∧ j.figures = some f ∧
      j.heads[c.head]? = some head ∧ j.zones[c.zone]? = some zone ∧
      (s.pos.spindle = .atSpeed ∧ s.pos.spinDownPending = false) ∧
      (s.pos.act = .following ∧ s.pos.target = s.prof.zoneTracks.getD zone 0) ∧ s.window = none) :
    SkewUnderWay s j c f head zone p :=
  ⟨h.1, h.2.1, h.2.2.1, h.2.2.2.1, h.2.2.2.2.1, h.2.2.2.2.2.1, h.2.2.2.2.2.2.1, h.2.2.2.2.2.2.2.1, h.2.2.2.2.2.2.2.2.1,
    h.2.2.2.2.2.2.2.2.2.1, h.2.2.2.2.2.2.2.2.2.2⟩

theorem measureUnderWay_of (s : State) (j : Job) (c : Cursor) (f : Figures) (head zone : Nat) (p : Phase)
    (h : s.inbox = [] ∧ s.running = some j ∧ j.cursor = some c ∧ c.phase = p ∧ j.figures = some f ∧
      j.heads[c.head]? = some head ∧ j.zones[c.zone]? = some zone ∧
      s.pos.spindle = .atSpeed ∧ s.pos.spinDownPending = false) :
    MeasureUnderWay s j c f head zone p :=
  ⟨h.1, h.2.1, h.2.2.1, h.2.2.2.1, h.2.2.2.2.1, h.2.2.2.2.2.1, h.2.2.2.2.2.2.1, h.2.2.2.2.2.2.2⟩

theorem onlyHeadZone_of (s : State) (j : Job) (head zone : Nat)
    (h : s.jct.table = [j] ∧ j.heads = [head] ∧ j.zones = [zone] ∧ s.jct.zoneFailed = false) :
    OnlyHeadZone s j head zone := ⟨h.1, h.2.1, h.2.2.1, h.2.2.2⟩

theorem anchorSlot_of (s : State)
    (h : s.sdc.slotDue.isSome = true ∧ s.window = none ∧ s.gcu.state = .idle ∧ s.sdc.marker = false ∧
      s.drivenHead = s.prof.anchor) : AnchorSlot s := ⟨h.1, h.2.1, h.2.2.1, h.2.2.2.1, h.2.2.2.2⟩

theorem fieldInRange_of (b : List Byte) (i : Nat)
    (h : ((fieldRanges[i]?).all fun r => decide (r.1 ≤ payloadField b i ∧ payloadField b i ≤ r.2)) = true) :
    FieldInRange b i := by
  intro r hr
  simpa [hr] using h

theorem fieldsInRange_of (b : List Byte) (n : Nat)
    (h : ((List.range n).all fun i => (fieldRanges[i]?).all fun r => decide (r.1 ≤ payloadField b i ∧ payloadField b i ≤ r.2)) =
      true) : ∀ i, i < n → FieldInRange b i :=
  fun i hi => fieldInRange_of b i (List.all_eq_true.mp h i (List.mem_range.mpr hi))

theorem fieldOutside_of (b : List Byte) (i : Nat) (r : Int × Int)
    (h : fieldRanges[i]? = some r ∧ ¬(r.1 ≤ payloadField b i ∧ payloadField b i ≤ r.2)) : ¬FieldInRange b i :=
  fun k => h.2 (k r h.1)

theorem awaitsGate_of (s : State) (h : s.jct.ctx.await = some .gate ∧ s.gcu.attempt = s.jct.attempt) : s.awaitsGate := h

/-! ## The well-formedness checks on ill-formed terms -/

/-- A KIND of R186 makes no unknown frame. -/
theorem test_unknownOk_kind : unknownOk 0x24 [] = false ∧ unknownOk 0x0C [] = true := by decide

/-- No frame carries 241 bytes (R181). -/
theorem test_unknownOk_length : unknownOk 0x0C (List.replicate 241 0) = false := by decide

/-- A JOB_SUBMIT of 4 + 237 bytes fits no frame (R181, R186). -/
theorem test_submitOk : submitOk (List.replicate 237 0) [] [] = false ∧ submitOk [1] [2] [(0, 64)] = true := by decide

/-- A PROFILE_WRITE of 241 bytes fits no frame (R181). -/
theorem test_profileOk : profileOk (List.replicate 241 0) = false := by decide

/-- A REST_WRITE carries seven entries, not six (R161). -/
theorem test_restOk : restOk [0, 0, 0, 0, 0, 0] = false ∧ restOk [0, 0, 0, 0, 0, 0, 0] = true := by decide

/-! ## Figures worked in the manual -/

/-- The table of R3 and its larger case: 51,200 is carried as 44,032. -/
theorem test_track_codes :
    ([0, 1, 3, 2, 6, 7, 5, 4] : List (BitVec 18)).map decodeTrack = [0, 1, 2, 3, 4, 5, 6, 7] ∧
      decodeTrack 44032 = 51200 := by decide

/-- The table of R5. -/
theorem test_pes :
    ([(1500, 900), (1000, 1003), (1200, 1300), (700, 0), (0, 700), (130, 130)] : List (Nat × Nat)).map
      (fun x => pesOf { sector := 0, track := 0, e := x.1, o := x.2 }) = [2048, -12, -327, 8192, -8192, 0] := by decide

/-- The sequence of 01 section 1.9: sector 44 where 43 was expected is a slip, and 45 is expected next (R8). -/
theorem test_expectation :
    slipDue (some 43) (some { sector := 44, track := 51198, e := 1400, o := 700 }) = true ∧
      nextExpect 256 (some 43) (some { sector := 44, track := 51198, e := 1400, o := 700 }) = some 45 ∧
      nextExpect 256 (some 41) none = some 42 := by decide

/-- The tolerance of the default profile (R19): 1,658,334 to 1,675,000 ticks. -/
theorem test_tolerance :
    [1658333, 1658334, 1675000, 1675001].map (fun t => (nextOf (exec (.indexArrival t)
      (posOf (std .accelerating .parked) fun p => { p with indexRef := some 500 }))).map (·.pos.inTol)) =
      [some 0, some 1, some 1, some 0] := by decide

/-- The mean of 03 section 3.5: -507,191 / 16 rounds to -31,699 (R53). -/
theorem test_window_mean : roundDiv (-507191) 16 = -31699 := by decide

/-- The three span cases of 04 section 4.5. -/
theorem test_span_cases :
    spanFrom {} 37310 35270 1024 (-1024) =
        .ok { d := 36432, dt := 2, df := 3664, g := 255, v1 := 37310, v2 := 35270, o1 := 1024, o2 := -1024 } ∧
      spanFrom {} (-31699) (-33807) 1024 (-1024) =
        .ok { d := -31760, dt := -2, df := 1008, g := 264, v1 := -31699, v2 := -33807, o1 := 1024, o2 := -1024 } ∧
      spanFrom {} 40000 38000 3072 1024 =
        .ok { d := 37888, dt := 2, df := 5120, g := 250, v1 := 40000, v2 := 38000, o1 := 3072, o2 := 1024 } := by decide

/-- The faults of 04 section 4.5. -/
theorem test_span_faults :
    [(36500, 35300), (35270, 37310), (35270, 35270), (41000, 37000), (2088500, 2086452)].map
      (fun x => spanFrom {} x.1 x.2 1024 (-1024)) =
      [.fault .gainRange, .fault .gainRange, .fault .gainRange, .fault .gainRange, .fault .offsetRange] := by decide

/-- The windows of 04 section 4.7: the anchor's own, and the COMPLETE windows below it. -/
theorem test_qualification_cases :
    ([(3, 1, 0, 70400), (9, 0, 0, 36500), (4, 0, 0, 57600), (0, 2, 0, 57600), (0, 1, 3, 57600)] :
      List (Nat × Nat × Nat × Nat)).map (fun x => qualification {}
        { ending := .complete, mean := none
          window := { lastTurn with used := 64, weak := x.1, miss := x.2.1, wild := x.2.2.1, sumAmp := x.2.2.2 } }) =
      [some (.pass { amp := some 1100, weak := some 45, miss := some 15 }),
       some (.fail .amplitude { amp := some 570, weak := some 123, miss := some 0 }),
       some (.fail .weak { amp := some 900, weak := some 59, miss := some 0 }),
       some (.fail .miss { amp := some 900, weak := some 0, miss := some 30 }),
       some (.pass { amp := some 900, weak := some 0, miss := some 15 })] := by decide

/-- The skew of 05 section 5.5. -/
theorem test_skew_case :
    skewComputation 256 1666667 4 4 4812 11590 =
      .ok { skew := 1066, ra := 4, rh := 4, nRev := 1666667, saturated := false } := by decide

/-- The CHAINED gate of 05 section 5.5: U = 25 and L = 28,267 hold 1,666,667. -/
theorem test_chained_gate :
    (nextOf (exec (.indexArrival 1666667)
      (posOf (gateOf quiet .counting .chained 0 none) fun p => { p with indexRef := some 1000 }))).map
      (fun t => (t.gcu.stageU, t.gcu.stageL, t.gcu.last.bind (·.value))) = some (25, 28267, some 1666667) := by decide

/-- The JOB_SUBMIT of 06 section 6.9, waiting: heads 2, 0, 3, 1, zones 2, 5, WINDOW clamped to 512, duplicates. -/
theorem test_submit :
    (nextOf (exec (.jobSubmit 9 1 [2, 0, 3, 1, 2] [5, 2, 5] [(0, 600)])
      ((linesOf quiet fun f => { f with selectBench := true }).setJct { quiet.jct with nextId := 7 }))).map
      (fun t => (t.jct.table.map (fun j => j.id :: j.options.window.toList ++ j.heads ++ j.zones), t.jct.nextId,
        t.jct.table.map (·.flags))) =
      some ([[7, 512, 2, 0, 3, 1, 2, 5]], 8, [{ duplicates := true, window := true }]) := by decide

/-- The derived states of 07 section 7.8. -/
theorem test_derived_state :
    [[none], [some true], [some true, some false], [some true, some false, some true]].map (fun zs =>
      HeadRecord.derived
        { excluded := false
          zones := zs.map fun z =>
            { qualify := z.map fun ok =>
                { result := if ok then .pass { amp := none, weak := none, miss := none }
                            else .fail .weak { amp := none, weak := none, miss := none }
                  job := 12 } } }) =
      [.unknown, .qualified, .disqualified, .disqualified] := by decide

/-- The first heat tick of 08 section 8.8, and the tick before the release of its held seek. -/
theorem test_heat_tick :
    (nextOf (exec .heatTick (warmth .warm 40000 0))).map (·.chm.heat) = some 39540 ∧
      (nextOf (exec .heatTick (warmth .warm 39540 0))).map (·.chm.heat) = some 39085 := by decide

/-- The release of 08 section 8.8: the tick that brings the pace count to 5 starts the held seek. -/
theorem test_heat_tick_releases :
    (nextOf (exec .heatTick ((posOf (warmth .warm 39085 0) fun p =>
      { p with held := some { track := 5000, offset := 0, owner := .bench } }).setChm
        { (warmth .warm 39085 0).chm with pace := 4 }))).map (fun t => (t.chm.heat, t.chm.pace, t.pos.act)) =
      some (38635, 5, .seeking) := by decide

/-- The tenth tick of 08 section 8.8 with HOT_PARK_TICKS at its default: the HOT count reaches 300 and the heads unload. -/
theorem test_hot_park :
    (nextOf (exec .heatTick (warmth .hot 43484 299))).map (fun t => (t.chm.heat, t.chm.hot, t.pos.act)) =
      some (42983, 0, .unloading) := by decide

/-- The reply to a REST_WRITE carries a RUNNING timer as 0 and an EXPIRED one as 1, in the order of R157 (log 18). -/
theorem test_rest_states :
    (nextOf (exec (.restWrite 9 30000 0 [1, 1, 1, 1, 1, 1, 1]) quiet)).map (fun t => t.blk.sending.map fun x =>
      (x.frame.payload[13]?, x.frame.payload[16]?)) = some (some (some 0, some 1)) := by decide

/-- A table entry 3 is refused BAD_VALUE with its payload offset (R161). -/
theorem test_rest_entry :
    (nextOf (exec (.restWrite 9 20000 120000 [1, 1, 3, 2, 0, 2, 2]) quiet)).map (fun t => t.blk.sending.map (·.frame)) =
      some (some { kind := 0x81, tag := 9, payload := [3, 10] }) := by decide

/-- The return of the SENSE group in 09 section 9.9 is the arrival of the fault: the heads unload, PREAMP and MOTION pending. -/
theorem test_sense_return :
    (nextOf (exec (.linesWrite 9 2 0 0 0 0) (linesOf (fly .following none) fun f =>
      { f with senseBench := true, heldRamp := .offRamp, livePreamp := .active }))).map
      (fun t => (t.pos.act, t.pos.unloadCause, t.blk.events.preamp, t.blk.events.motion)) =
      some (.unloading, .preamp, true, true) := by decide

/-- The built-in default profile is read back from its record (R172, R173, R174). -/
theorem test_default_record : parseProfile ({} : Profile).record = .ok {} := by decide

/-- The refused writes of 10 section 10.5: detail 2 for the anchor, detail 54 for zone 8's track. -/
theorem test_profile_faults :
    parseProfile ({ headCount := 12, anchor := 12 } : Profile).record = .error (.value 2) ∧
      parseProfile ({ headCount := 12, zoneCount := 10, anchor := 5, zoneTracks :=
        [6000, 18000, 30000, 42000, 54000, 66000, 78000, 150000, 150000, 168000] } : Profile).record =
        .error (.value 54) := by decide

/-- The check word of R174 over the digits 1 to 9, whose remainder 0x29B1 is the published check value of this CRC, and over no
bytes, where the most significant bit of 0xFFFF is cleared: no record has the erased check word. -/
theorem test_check_word :
    checkWord [0x31, 0x32, 0x33, 0x34, 0x35, 0x36, 0x37, 0x38, 0x39] = 0x29B1 ∧ checkWord [] = 0x7FFF := by decide

/-- The STATUS_READ of 11 section 11.7: its bytes end in the CHECK byte 0x0E. -/
theorem test_frame_bytes : ({ kind := 0x01, tag := 0x05, payload := [] } : Frame).bytes = [0xC3, 0x00, 0x01, 0x05, 0x0E] := by
  decide

/-- The bytes of 11 section 11.7 bring the reply: 55 bytes, 275 µs, TAG 0x05. -/
theorem test_status_transaction :
    (nextOf (execAll ([0xC3, 0x00, 0x01, 0x05, 0x0E].map .byteReceived) quiet)).map
      (fun t => t.blk.sending.map fun x => (x.frame.kind, x.frame.tag, x.frame.payload.length, x.due)) =
      some (some (0x80, 0x05, 50, 56000)) := by decide

/-- The fifth STATUS_READ of 11 section 11.7 meets OVERRUN. -/
theorem test_overrun :
    (nextOf (exec (.statusRead 5) (linkOf quiet 4 (some (ack false)) []))).map
      (fun t => (t.blk.counters.overrun, t.blk.lastFault, t.blk.waiting)) =
      some (1, some { fault := .overrun, kind := some 1, tag := some 5 }, [.notice .link]) := by decide

/-- The settling of a jog that brings the level to HOT suspends a RUNNING job that waits in PREPARE, and the zone seek the job
would order is not held in HOT (R151). -/
theorem test_jog_to_hot :
    (let s : State := posOf (fly .settling (some .settle)) fun p =>
        { p with target := 4, settleRun := 7, actMove := some { kind := .jog, owner := .bench } }
      let job : Job := { collecting with cursor := some (at1 .prepare 0) }
      (nextOf (exec (.slotEndMark 3 6 500 500 2000)
        (jobsOf (s.setChm { s.chm with level := .warm, heat := 47995 }) [job]))).map
        (fun t => (t.chm.level, t.pos.act, t.pos.held, t.active.map fun j => (j.state, j.reasons.thermal)))) =
      some (.hot, .following, none, some (.suspended, true)) := by decide

/-- The check word lies behind the record in 2 bytes, the low byte first (R174), and memory never written is 0xFF. -/
theorem test_memory_layout :
    (stored {}).length = 194 ∧ (stored {}).take 160 = ({} : Profile).record ∧
      (stored {})[160]? = some (byteOf ((checkWord ({} : Profile).record).toNat % 256)) ∧
      (stored {})[161]? = some (byteOf ((checkWord ({} : Profile).record).toNat / 256)) ∧
      (stored {})[162]? = some 0xFF := by decide

/-- In the spindle state BENCH the spindle drive is the bench's, and MOTION_READ reports SPIN_ENABLE as not driven by the
engine, the third entry of R18. -/
theorem test_bench_spindle :
    (nextOf (exec (.motionRead 9) (linesOf (std .bench .parked) fun f => { f with spindleBench := true, benchSpin := true }))).map
      (fun t => (t.spindleDrive, t.blk.sending.map fun x => x.frame.payload.take 2)) =
      some (.unregulated, some [5, 2]) := by decide

/-- The coil column of R23, and a HEADS_UNLOAD that drives the coil along the unload path (R38). -/
theorem test_coil_drive :
    quiet.coilDrive = .holdOnRamp ∧ (fly .loading (some .load)).coilDrive = .loadPath ∧
      (posOf (fly .seeking (some .seek)) fun p => { p with target := 4, offset := 9 }).coilDrive = .toTrack 4 0 ∧
      (posOf (fly .settling (some .settle)) fun p => { p with target := 4, offset := 9 }).coilDrive = .toOffset 4 9 0 ∧
      (nextOf (exec (.headsUnload 9) (fly .acquiring (some .load)))).map (·.coilDrive) = some .unloadPath := by decide

/-- A confirmation that comes after the limit of its write changes nothing (R179). -/
theorem test_late_confirmation :
    (nextOf (execAll [.saveWriteLimitExpiry, .profileMemoryWriteDone] (savingOf quiet .erase))).map
      (fun t => (t.pst.state, t.pst.lastSave, t.pst.unsaved, t.pst.late)) =
      some (.ready, .failed .erase, true, 0) := by decide

/-- No row of the opcode table gives bits, so no word spells a command and none is put into the queue (log 1). -/
theorem test_no_words : decodeTableWord 8 0x24 = none ∧ (State.reset.withFetchWord 8 0x24).pending = [] := by decide

/-! ## The hypotheses of the statements can be met -/

/-- The hypotheses of StepRunsTheFrontCommand can be met, clause by clause. -/
theorem witness_StepRunsTheFrontCommand :
    (let s : State := State.reset;
      s.pending = []) :=
  by decide

/-- The hypotheses of TrackCodeDecodesDigitByDigit can be met, clause by clause. -/
theorem witness_TrackCodeDecodesDigitByDigit :
    0 < 17 ∧ 16 < 17 :=
  by decide

/-- The hypotheses of EveryCommandCompletes can be met, clause by clause. -/
theorem witness_EveryCommandCompletes :
    Instr.wellFormed (.requestUnknownKind 0x0C 0 (List.replicate 240 0)) = true ∧ Instr.wellFormed (.jobSubmit 0 0
      (List.replicate 236 0) [] []) = true ∧ Instr.wellFormed .heatTick = true ∧ 240 < (List.replicate 241 (0 :
      Byte)).length ∧ 240 < 8 + (List.replicate 233 (0 : Byte)).length ∧ 240 < 4 + (List.replicate 237 (0 :
      Byte)).length + ([] : List Byte).length + 3 * ([] : List (Byte × Half)).length :=
  by decide

/-- The hypotheses of PowerOnResetSetsEveryBlock can be met, clause by clause. -/
theorem witness_PowerOnResetSetsEveryBlock :
    quiet.pst.save = none :=
  by decide

/-- The hypotheses of BenchResetTakesEffect can be met, clause by clause. -/
theorem witness_BenchResetTakesEffect :
    (let s : State := resetting quiet;
      s.blk.sending = some (ack true) ∧ (ack true).reset = true ∧ s.pos.spindle = .stopped ∧ s.flc.spindleBench = false ∧
        s.pos.act = .parked ∧ s.pst.save = none ∧ s.window = none ∧ s.gcu.state = .idle ∧
        (∀ w ∈ s.blk.waiting, w.isReply = false)) ∧
    (let s : State := resetting (std .accelerating .parked);
      s.blk.sending = some (ack true) ∧ s.pos.spindle = .accelerating) ∧
    (let s : State := resetting ((linesOf (fly .following none) fun f =>
        { f with senseBench := true, heldRamp := .offRamp, liveRamp := .onRamp, livePreamp := .active }).setWindow
          (some lastTurn));
      s.blk.sending = some (ack true) ∧ s.pos.spindle = .atSpeed ∧ s.flc.spindleBench = false ∧ s.pos.act.isLoaded = true ∧
        (s.flc.senseBench = true ∧ s.flc.heldRamp ≠ s.flc.liveRamp ∧ s.flc.liveRamp = .onRamp) ∧
        s.window = some lastTurn ∧ (∀ m, s.pos.actMove = some m → m.kind ≠ .unload)) ∧
    (let s : State := resetting ((fly .following none).setWindow (some { lastTurn with probing := true }));
      s.blk.sending = some (ack true) ∧ s.pos.act.isLoaded = true ∧ s.rampView = .offRamp ∧
        s.window = some { lastTurn with probing := true }) ∧
    (let s : State := resetting (posOf (fly .unloading (some .unload)) fun p =>
        { p with spindle := .braking, actMove := some { kind := .unload, owner := .nobody } });
      s.blk.sending = some (ack true) ∧ s.pos.act = .unloading ∧ s.pos.spindle = .braking ∧
        s.pos.actMove = some { kind := .unload, owner := .nobody } ∧
        ({ kind := .unload, owner := .nobody } : Move).kind = .unload) ∧
    (let s : State := resetting (linesOf (std .bench .parked) fun f => { f with spindleBench := true });
      s.blk.sending = some (ack true) ∧ s.flc.spindleBench = true) ∧
    (let s : State := resetting (gateOf (savingOf quiet .record) .armed .chained 0 none);
      s.blk.sending = some (ack true) ∧ s.gcu.state ≠ .idle ∧ s.pst.save = some { stage := .record, due := 2000 }) :=
  ⟨by decide, by decide, ⟨by decide, by decide, by decide, by decide, by decide, by decide, fun m h => by cases h⟩,
   by decide, by decide, by decide, by decide⟩

/-- The hypotheses of EveryStepKeepsTheMotionLaw can be met, clause by clause. -/
theorem witness_EveryStepKeepsTheMotionLaw :
    (let s : State := (fly .following none).setPending [.slotEndMiss];
      MotionLaw s ∧ (nextOf (step s)).isSome = true) :=
  ⟨⟨by decide, by decide, by decide, by decide, by decide, by decide, by decide⟩, by decide⟩

/-- The hypotheses of EveryStepKeepsTheBounds can be met, clause by clause. -/
theorem witness_EveryStepKeepsTheBounds :
    (let s : State := full.setPending [.heatTick];
      Bounds s ∧ (nextOf (step s)).isSome = true) :=
  ⟨⟨by decide, by decide, by decide, by decide, by decide, by decide, by decide⟩, by decide⟩

/-- The hypotheses of RecordGetsTheFirstClassThatApplies can be met, clause by clause. -/
theorem witness_RecordGetsTheFirstClassThatApplies :
    ({} : Profile).trackMax < 200001 ∧ 200000 ≤ ({} : Profile).trackMax ∧ 127 + 128 < ({} : Profile).ampFloor ∧ ({} :
      Profile).ampFloor ≤ 128 + 128 :=
  by decide

/-- The hypotheses of PesIsTruncatedTowardZero can be met, clause by clause. -/
theorem witness_PesIsTruncatedTowardZero :
    64 ≤ ({ sector := 0, track := 0, e := 64, o := 0 } : Mark).e + 0 ∧ (0 : Nat) ≤ 64 ∧ (1 : Nat) ≤ 1 :=
  by decide

/-- The hypotheses of SlotEndIsCountedAndTracked can be met, clause by clause. -/
theorem witness_SlotEndIsCountedAndTracked :
    (let s : State := fly .following none;
      s.sdc.slotDue = some 2000 ∧ s.window = none ∧ s.rampView = .offRamp ∧ s.pos.act ≠ .parked) ∧
    (let s : State := (linesOf (fly .following none) fun f => { f with engineHead := 1 }).setWindow
        (some { lastTurn with probing := true });
      s.sdc.slotDue = some 2000 ∧ s.window = some { lastTurn with probing := true } ∧ lastTurn.anchorOnly = false ∧
        lastTurn.head ≠ s.prof.anchor ∧
        s.reclassifiedBy { lastTurn with probing := true } (markOf s.prof.sectors 3 6 500 500) = true) ∧
    (let s : State := (fly .following none).setWindow (some { lastTurn with head := 0, anchorOnly := true, probing := true });
      s.sdc.slotDue = some 2000 ∧
        s.window = some { lastTurn with head := 0, anchorOnly := true, probing := true } ∧ s.pos.act = .following ∧
        s.pos.otRun + 1 < s.prof.otCount ∧ s.pos.lossRun < 3 ∧
        s.reclassifiedBy { lastTurn with head := 0, anchorOnly := true, probing := true }
          (markOf s.prof.sectors 3 6 500 500) = true) :=
  ⟨by decide, by decide, by decide⟩

/-- The hypotheses of IndexArrivalMeasuresTheRevolution can be met, clause by clause. -/
theorem witness_IndexArrivalMeasuresTheRevolution :
    (quiet.pos.indexRef = none) ∧
    (let s : State := posOf (quiet) (fun p => { p with indexRef := some 500 });
      s.pos.indexRef = some 500) :=
  ⟨by decide,
   by decide⟩

/-- The hypotheses of RevolutionsMoveTheSpeedState can be met, clause by clause. -/
theorem witness_RevolutionsMoveTheSpeedState :
    (let s : State := posOf (std .accelerating .parked) (fun p => { p with indexRef := some 500, inTol := 3 });
      s.NoJobs ∧ s.pos.indexRef = some 500 ∧ 1675000 ≤ 4 * s.prof.nRevNom ∧ ((1675000 : Int) -
      s.prof.nRevNom).natAbs * 1000 ≤ s.prof.speedTolPm * s.prof.nRevNom ∧ s.pos.spindle = .accelerating ∧ 3 ≤
      s.pos.inTol) ∧
    (let s : State := posOf (std .offSpeed .parked) (fun p => { p with indexRef := some 500, inTol := 3 });
      s.NoJobs ∧ s.pos.indexRef = some 500 ∧ 1675000 ≤ 4 * s.prof.nRevNom ∧ ((1675000 : Int) -
      s.prof.nRevNom).natAbs * 1000 ≤ s.prof.speedTolPm * s.prof.nRevNom ∧ s.pos.spindle = .offSpeed ∧ 3 ≤
      s.pos.inTol) ∧
    (let s : State := posOf (std .offSpeed .parked) (fun p => { p with indexRef := some 500, inTol := 2 });
      s.NoJobs ∧ s.pos.indexRef = some 500 ∧ 1675000 ≤ 4 * s.prof.nRevNom ∧ ((1675000 : Int) -
      s.prof.nRevNom).natAbs * 1000 ≤ s.prof.speedTolPm * s.prof.nRevNom ∧ (¬(1675001 ≤ 4 * s.prof.nRevNom ∧ ((1675001
      : Int) - s.prof.nRevNom).natAbs * 1000 ≤ s.prof.speedTolPm * s.prof.nRevNom)) ∧ s.pos.spindle = .offSpeed ∧
      s.pos.inTol < 3) ∧
    (let s : State := posOf (std .atSpeed .parked) (fun p => { p with indexRef := some 500, outTol := 0 });
      s.NoJobs ∧ s.pos.indexRef = some 500 ∧ 1675000 ≤ 4 * s.prof.nRevNom ∧ ((1675000 : Int) -
      s.prof.nRevNom).natAbs * 1000 ≤ s.prof.speedTolPm * s.prof.nRevNom ∧ (¬(1675001 ≤ 4 * s.prof.nRevNom ∧ ((1675001
      : Int) - s.prof.nRevNom).natAbs * 1000 ≤ s.prof.speedTolPm * s.prof.nRevNom)) ∧ s.pos.spindle = .atSpeed ∧
      s.pos.outTol = 0) ∧
    (let s : State := posOf (std .atSpeed .parked) (fun p => { p with indexRef := some 500, outTol := 1 });
      s.NoJobs ∧ s.pos.indexRef = some 500 ∧ (¬(1675001 ≤ 4 * s.prof.nRevNom ∧ ((1675001 : Int)
      - s.prof.nRevNom).natAbs * 1000 ≤ s.prof.speedTolPm * s.prof.nRevNom)) ∧ s.pos.spindle = .atSpeed ∧ 1 ≤
      s.pos.outTol ∧ s.pos.act.isLoaded = false) ∧
    (let s : State := posOf (std .braking .parked) (fun p => { p with indexRef := some 500 });
      s.NoJobs ∧ s.pos.indexRef = some 500 ∧ s.pos.spindle = .braking) ∧
    (let s : State := posOf (fly .following none) (fun p => { p with indexRef := some 500, outTol := 1 });
      s.NoJobs ∧ s.pos.indexRef = some 500 ∧ (¬(6666669 ≤ 4 * s.prof.nRevNom ∧ ((6666669 : Int) - s.prof.nRevNom).natAbs
      * 1000 ≤ s.prof.speedTolPm * s.prof.nRevNom)) ∧ s.pos.spindle = .atSpeed ∧ 1 ≤ s.pos.outTol ∧
      s.pos.act.isLoaded = true ∧ s.pos.spinDownPending = false) :=
  ⟨⟨noJobs_of _ (by decide), by decide⟩,
   ⟨noJobs_of _ (by decide), by decide⟩,
   ⟨noJobs_of _ (by decide), by decide⟩,
   ⟨noJobs_of _ (by decide), by decide⟩,
   ⟨noJobs_of _ (by decide), by decide⟩,
   ⟨noJobs_of _ (by decide), by decide⟩,
   ⟨noJobs_of _ (by decide), by decide⟩⟩

/-- The hypotheses of LossOfSpeedUnloadsTheHeads can be met, clause by clause. -/
theorem witness_LossOfSpeedUnloadsTheHeads :
    (let s : State := posOf (fly .following none) (fun p => { p with silenceDue := some 2000 });
      s.NoJobs ∧ s.pos.spindle = .atSpeed ∧ s.pos.silenceDue = some 2000 ∧ s.pos.spinDownPending = false ∧
      s.pos.act.isLoaded = true) ∧
    (let s : State := posOf (std .atSpeed .parked) (fun p => { p with silenceDue := some 2000 });
      s.NoJobs ∧ s.pos.spindle = .atSpeed ∧ s.pos.silenceDue = some 2000 ∧ s.pos.spinDownPending = false ∧
      s.pos.act.isLoaded = false) :=
  ⟨⟨noJobs_of _ (by decide), by decide⟩,
   ⟨noJobs_of _ (by decide), by decide⟩⟩

/-- The hypotheses of SpindleDeadlinesEndTheirMoves can be met, clause by clause. -/
theorem witness_SpindleDeadlinesEndTheirMoves :
    (let s : State :=
        posOf (std .accelerating .parked) (fun p => { p with spinupDue := some 2000, spinMove := some { kind := .spinUp, owner := .bench } });
      s.NoJobs ∧ s.pos.spindle = .accelerating ∧ s.pos.spinupDue = some 2000 ∧ s.pos.spinMove = some
      { kind := .spinUp, owner := .bench }) ∧
    (let s : State :=
        posOf (std .braking .parked) (fun p => { p with quietDue := some 2000, spinMove := some { kind := .spinDown, owner := .bench } });
      s.NoJobs ∧ s.pos.spindle = .braking ∧ s.pos.quietDue = some 2000 ∧ s.pos.spinMove = some
      { kind := .spinDown, owner := .bench }) :=
  ⟨⟨noJobs_of _ (by decide), by decide⟩,
   ⟨noJobs_of _ (by decide), by decide⟩⟩

/-- The hypotheses of LoadSeekAndAcquisitionDeadlinesUnload can be met, clause by clause. -/
theorem witness_LoadSeekAndAcquisitionDeadlinesUnload :
    (let s : State :=
        posOf (fly .loading (some .load)) (fun p => { p with actMove := some { kind := .load, owner := .bench } });
      s.NoneRuns ∧ s.rampView = .offRamp ∧ s.pos.deadline = some { kind := .load, due := 2000 } ∧ s.pos.act = .loading
      ∧ s.pos.actMove = some { kind := .load, owner := .bench } ∧ s.pos.held = none) ∧
    (let s : State :=
        posOf (fly .acquiring (some .load)) (fun p => { p with actMove := some { kind := .load, owner := .bench } });
      s.NoneRuns ∧ s.rampView = .offRamp ∧ s.pos.deadline = some { kind := .load, due := 2000 } ∧ s.pos.act =
      .acquiring ∧ s.pos.actMove = some { kind := .load, owner := .bench } ∧ s.pos.held = none) ∧
    (let s : State :=
        posOf (fly .seeking (some .seek)) (fun p => { p with actMove := some { kind := .seek, owner := .bench } });
      s.NoneRuns ∧ s.rampView = .offRamp ∧ s.pos.deadline = some { kind := .seek, due := 2000 } ∧ s.pos.act = .seeking
      ∧ s.pos.actMove = some { kind := .seek, owner := .bench } ∧ s.pos.held = none) ∧
    (let s : State :=
        posOf (fly .acquiring (some .acq)) (fun p => { p with actMove := some { kind := .load, owner := .bench } });
      s.NoneRuns ∧ s.rampView = .offRamp ∧ s.pos.deadline = some { kind := .acq, due := 2000 } ∧ s.pos.act =
      .acquiring ∧ s.pos.actMove = some { kind := .load, owner := .bench } ∧ s.pos.held = none) :=
  ⟨⟨noneRuns_of _ (by decide), by decide⟩,
   ⟨noneRuns_of _ (by decide), by decide⟩,
   ⟨noneRuns_of _ (by decide), by decide⟩,
   ⟨noneRuns_of _ (by decide), by decide⟩⟩

/-- The hypotheses of SettleDeadlineReturnsToFollowing can be met, clause by clause. -/
theorem witness_SettleDeadlineReturnsToFollowing :
    (let s : State :=
        posOf (fly .settling (some .settle)) (fun p => { p with actMove := some { kind := .jog, owner := .bench } });
      s.NoneRuns ∧ s.pos.act = .settling ∧ s.pos.deadline = some { kind := .settle, due := 2000 } ∧ s.rtm.a.isRunning
      = true ∧ s.pos.actMove = some { kind := .jog, owner := .bench }) ∧
    (let s : State :=
        posOf (fly .settling (some .settle)) (fun p => { p with actMove := some { kind := .seek, owner := .job 1 } });
      s.NoneRuns ∧ s.pos.act = .settling ∧ s.pos.deadline = some { kind := .settle, due := 2000 } ∧ s.rtm.a.isRunning
      = true ∧ ({ kind := .seek, owner := .job 1 } : Move).owner ≠ .bench) :=
  ⟨⟨noneRuns_of _ (by decide), by decide⟩,
   ⟨noneRuns_of _ (by decide), by decide⟩⟩

/-- The hypotheses of UnloadEndsAtParked can be met, clause by clause. -/
theorem witness_UnloadEndsAtParked :
    (let s : State := fly .unloading (some .unload);
      s.NoneRuns ∧ s.pos.act = .unloading ∧ s.flc.senseBench = false ∧ s.flc.liveRamp = .offRamp ∧ s.pos.deadline =
      some { kind := .unload, due := 2000 }) :=
  ⟨noneRuns_of _ (by decide), by decide⟩

/-- The hypotheses of SenseChangesReachTheLiveLevels can be met, clause by clause. -/
theorem witness_SenseChangesReachTheLiveLevels :
    (let s : State := linesOf (quiet) (fun p => { p with senseBench := true });
      s.flc.senseBench = true ∧ s.inbox = []) :=
  by decide

/-- The hypotheses of PreampFaultUnloadsTheHeads can be met, clause by clause. -/
theorem witness_PreampFaultUnloadsTheHeads :
    (let s : State := fly .following none;
      s.NoJobs ∧ s.flc.senseBench = false ∧ s.flc.livePreamp = .inactive ∧ s.pos.act.isLoaded = true ∧ s.flc.liveRamp
      = .offRamp) ∧
    (quiet.NoJobs ∧ quiet.flc.senseBench = false ∧ quiet.flc.livePreamp = .inactive ∧ quiet.pos.act.isLoaded = false)
      :=
  ⟨⟨noJobs_of _ (by decide), by decide⟩,
   ⟨noJobs_of _ (by decide), by decide⟩⟩

/-- The hypotheses of AcquisitionRunEndsAtFollowing can be met, clause by clause. -/
theorem witness_AcquisitionRunEndsAtFollowing :
    (let s : State := fly .loading (some .load);
      QuietSlot s ∧ GoodMark s 3 6 500 500 { sector := 3, track := 4, e := 500, o := 500 } ∧ s.pos.act = .loading ∧ 2
      ≤ s.prof.acqCount) ∧
    (let s : State := posOf (fly .acquiring (some .load)) (fun p => { p with acqRun := 6 });
      QuietSlot s ∧ GoodMark s 3 6 500 500 { sector := 3, track := 4, e := 500, o := 500 } ∧ s.pos.act = .acquiring ∧
      s.pos.acqRun + 1 < s.prof.acqCount ∧ s.sdc.slotDue = some 2000) ∧
    (let s : State := posOf (fly .acquiring (some .load)) (fun p => { p with acqRun := 7 });
      QuietSlot s ∧ GoodMark s 3 6 500 500 { sector := 3, track := 4, e := 500, o := 500 } ∧ s.pos.act = .acquiring ∧
      s.prof.acqCount ≤ s.pos.acqRun + 1) :=
  ⟨⟨quietSlot_of _ (by decide), goodMark_of _ _ _ _ _ _ (by decide), by decide⟩,
   ⟨quietSlot_of _ (by decide), goodMark_of _ _ _ _ _ _ (by decide), by decide⟩,
   ⟨quietSlot_of _ (by decide), goodMark_of _ _ _ _ _ _ (by decide), by decide⟩⟩

/-- The hypotheses of FollowingCountsOffTrackAndLoss can be met, clause by clause. -/
theorem witness_FollowingCountsOffTrackAndLoss :
    (let s : State := posOf (fly .following none) (fun p => { p with target := 4, offset := 1200 });
      QuietSlot s ∧ GoodMark s 3 6 500 500 { sector := 3, track := 4, e := 500, o := 500 } ∧ s.pos.act = .following ∧
      (((4 : Int) - s.pos.target) * 16384 + pesOf { sector := 3, track := 4, e := 500, o := 500 } -
      s.pos.offset).natAbs ≤ s.prof.otTol) ∧
    (let s : State := posOf (fly .following none) (fun p => { p with target := 4, offset := 1201, otRun := 1 });
      QuietSlot s ∧ GoodMark s 3 6 500 500 { sector := 3, track := 4, e := 500, o := 500 } ∧ s.pos.act = .following ∧
      s.prof.otTol < (((4 : Int) - s.pos.target) * 16384 + pesOf { sector := 3, track := 4, e := 500, o := 500 } -
      s.pos.offset).natAbs ∧ s.pos.otRun + 1 < s.prof.otCount) ∧
    (let s : State := posOf (fly .following none) (fun p => { p with target := 4, offset := 1201, otRun := 2 });
      QuietSlot s ∧ GoodMark s 3 6 500 500 { sector := 3, track := 4, e := 500, o := 500 } ∧ s.pos.act = .following ∧
      s.prof.otTol < (((4 : Int) - s.pos.target) * 16384 + pesOf { sector := 3, track := 4, e := 500, o := 500 } -
      s.pos.offset).natAbs ∧ s.prof.otCount ≤ s.pos.otRun + 1) ∧
    (let s : State := posOf (fly .settling (some .settle)) (fun p => { p with lossRun := 2 });
      QuietSlot s ∧ s.pos.act = .settling ∧ s.sdc.slotDue = some 2000 ∧ s.pos.lossRun < 3) ∧
    (let s : State := posOf (fly .following none) (fun p => { p with lossRun := 3 });
      QuietSlot s ∧ s.pos.act = .following ∧ s.sdc.slotDue = some 2000 ∧ 3 ≤ s.pos.lossRun ∧ s.pos.held = none) :=
  ⟨⟨quietSlot_of _ (by decide), goodMark_of _ _ _ _ _ _ (by decide), by decide⟩,
   ⟨quietSlot_of _ (by decide), goodMark_of _ _ _ _ _ _ (by decide), by decide⟩,
   ⟨quietSlot_of _ (by decide), goodMark_of _ _ _ _ _ _ (by decide), by decide⟩,
   ⟨quietSlot_of _ (by decide), by decide⟩,
   ⟨quietSlot_of _ (by decide), by decide⟩⟩

/-- The hypotheses of SeeksCompleteAndSettle can be met, clause by clause. -/
theorem witness_SeeksCompleteAndSettle :
    (let s : State := posOf (fly .seeking (some .seek)) (fun p => { p with target := 5 });
      QuietSlot s ∧ GoodMark s 3 6 500 500 { sector := 3, track := 4, e := 500, o := 500 } ∧ s.pos.held = none ∧ 2 ≤
      s.prof.settleCount ∧ s.pos.act = .seeking ∧ 4 ≠ s.pos.target) ∧
    (let s : State := posOf (fly .seeking (some .seek)) (fun p => { p with target := 4 });
      QuietSlot s ∧ GoodMark s 3 6 500 500 { sector := 3, track := 4, e := 500, o := 500 } ∧ s.pos.held = none ∧ 2 ≤
      s.prof.settleCount ∧ s.pos.act = .seeking ∧ 4 = s.pos.target) ∧
    (let s : State := posOf (fly .settling (some .settle)) (fun p => { p with target := 4, offset := 401 });
      QuietSlot s ∧ GoodMark s 3 6 500 500 { sector := 3, track := 4, e := 500, o := 500 } ∧ s.pos.held = none ∧ 2 ≤
      s.prof.settleCount ∧ s.pos.act = .settling ∧ s.prof.settleTol < (((4 : Int) - s.pos.target) * 16384 + pesOf
      { sector := 3, track := 4, e := 500, o := 500 } - s.pos.offset).natAbs) ∧
    (let s : State :=
        posOf (fly .settling (some .settle)) (fun p => { p with target := 4, offset := 400, settleRun := 6 });
      QuietSlot s ∧ GoodMark s 3 6 500 500 { sector := 3, track := 4, e := 500, o := 500 } ∧ s.pos.held = none ∧ 2 ≤
      s.prof.settleCount ∧ s.pos.act = .settling ∧ (((4 : Int) - s.pos.target) * 16384 + pesOf
      { sector := 3, track := 4, e := 500, o := 500 } - s.pos.offset).natAbs ≤ s.prof.settleTol ∧ s.pos.settleRun + 1
      < s.prof.settleCount) ∧
    (let s : State :=
        posOf (fly .settling (some .settle)) (fun p => { p with target := 4, offset := 400, settleRun := 7, actMove := some { kind := .jog, owner := .bench } });
      QuietSlot s ∧ GoodMark s 3 6 500 500 { sector := 3, track := 4, e := 500, o := 500 } ∧ s.pos.held = none ∧ 2 ≤
      s.prof.settleCount ∧ s.pos.act = .settling ∧ (((4 : Int) - s.pos.target) * 16384 + pesOf
      { sector := 3, track := 4, e := 500, o := 500 } - s.pos.offset).natAbs ≤ s.prof.settleTol ∧ s.prof.settleCount ≤
      s.pos.settleRun + 1 ∧ s.pos.actMove = some { kind := .jog, owner := .bench }) ∧
    (let s : State := posOf (fly .settling (some .settle)) (fun p => { p with target := 4, settleRun := 7 });
      QuietSlot s ∧ GoodMark s 3 6 500 500 { sector := 3, track := 4, e := 500, o := 500 } ∧ s.pos.held = none ∧ 2 ≤
      s.prof.settleCount ∧ s.pos.act = .settling ∧ s.prof.settleCount ≤ s.pos.settleRun + 1 ∧ s.pos.actMove = none) ∧
    (let s : State := measureOf (moving .acquiring (some .load) (some .load)) (measuring .span .prepare 0 0) .load;
      MeasureUnderWay s (measuring .span .prepare 0 0) (at2 .prepare 0 0) defaultFigures 1 2 .prepare ∧
      AnchorSlot s ∧
      GoodMark s 3 6 500 500 { sector := 3, track := 4, e := 500, o := 500 } ∧ s.pos.act = .acquiring ∧ s.prof.acqCount ≤ s.pos.acqRun + 1 ∧
      s.jct.ctx.await = some .load ∧ s.pos.actMove = some { kind := .load, owner := .job s.jct.attempt } ∧ s.pos.held = none ∧
      30000 = s.prof.zoneTracks.getD 2 0 ∧ 4 ≠ 30000 ∧
      s.chm.level = .cool) ∧
    (let s : State :=
        heatOf (measureOf (moving .acquiring (some .load) (some .load)) (measuring .span .prepare 0 0) .load) .warm 4;
      MeasureUnderWay s (measuring .span .prepare 0 0) (at2 .prepare 0 0) defaultFigures 1 2 .prepare ∧
      AnchorSlot s ∧
      GoodMark s 3 6 500 500 { sector := 3, track := 4, e := 500, o := 500 } ∧ s.pos.act = .acquiring ∧ s.prof.acqCount ≤ s.pos.acqRun + 1 ∧
      s.jct.ctx.await = some .load ∧ s.pos.actMove = some { kind := .load, owner := .job s.jct.attempt } ∧ s.pos.held = none ∧
      30000 = s.prof.zoneTracks.getD 2 0 ∧ 4 ≠ 30000 ∧
      s.chm.level = .warm ∧ s.chm.pace < s.prof.paceTicks) ∧
    (let s : State :=
        measureOf (posOf (moving .settling (some .settle) (some .seek)) (fun x => { x with target := 4, offset := 400 }))
          (measuring .qualify .zoneSeek 0 1) .seek;
      AnchorSlot s ∧ GoodMark s 3 6 500 500 { sector := 3, track := 4, e := 500, o := 500 } ∧
      s.pos.act = .settling ∧ (((4 : Int) - s.pos.target) * 16384 + pesOf
      { sector := 3, track := 4, e := 500, o := 500 } - s.pos.offset).natAbs ≤ s.prof.settleTol ∧ s.prof.settleCount ≤
      s.pos.settleRun + 1 ∧
      MeasureUnderWay s (measuring .qualify .zoneSeek 0 1) (at2 .zoneSeek 0 1) defaultFigures 1 2 .zoneSeek ∧
      s.jct.ctx.await = some .seek ∧
      s.pos.actMove = some { kind := .seek, owner := .job s.jct.attempt }) ∧
    (let s : State :=
        measureOf (posOf (moving .settling (some .settle) (some .seek)) (fun x => { x with target := 4, offset := 400 }))
          (measuring .span .zoneSeek 0 1) .seek;
      AnchorSlot s ∧ GoodMark s 3 6 500 500 { sector := 3, track := 4, e := 500, o := 500 } ∧
      s.pos.act = .settling ∧ (((4 : Int) - s.pos.target) * 16384 + pesOf
      { sector := 3, track := 4, e := 500, o := 500 } - s.pos.offset).natAbs ≤ s.prof.settleTol ∧ s.prof.settleCount ≤
      s.pos.settleRun + 1 ∧
      MeasureUnderWay s (measuring .span .zoneSeek 0 1) (at2 .zoneSeek 0 1) defaultFigures 1 2 .zoneSeek ∧
      s.jct.ctx.await = some .seek ∧
      s.pos.actMove = some { kind := .seek, owner := .job s.jct.attempt } ∧ s.pos.offset ≠ defaultFigures.o1) ∧
    (let s : State :=
        measureOf (posOf (moving .settling (some .settle) (some .seek)) (fun x => { x with target := 4, offset := 400 }))
          { measuring .span .zoneSeek 0 1 with figures := some { defaultFigures with o1 := 400 } } .seek;
      AnchorSlot s ∧ GoodMark s 3 6 500 500 { sector := 3, track := 4, e := 500, o := 500 } ∧
      s.pos.act = .settling ∧ (((4 : Int) - s.pos.target) * 16384 + pesOf
      { sector := 3, track := 4, e := 500, o := 500 } - s.pos.offset).natAbs ≤ s.prof.settleTol ∧ s.prof.settleCount ≤
      s.pos.settleRun + 1 ∧
      MeasureUnderWay s { measuring .span .zoneSeek 0 1 with figures := some { defaultFigures with o1 := 400 } }
        (at2 .zoneSeek 0 1) { defaultFigures with o1 := 400 } 1 2 .zoneSeek ∧
      s.jct.ctx.await = some .seek ∧ s.pos.actMove = some { kind := .seek, owner := .job s.jct.attempt } ∧
      s.pos.offset = 400) ∧
    (let s : State :=
        measureOf (posOf (moving .settling (some .settle) (some .seek)) (fun x => { x with target := 4, offset := -400 }))
          (measuring .skew .zoneSeek 0 1) .seek;
      AnchorSlot s ∧ GoodMark s 3 6 500 500 { sector := 3, track := 4, e := 500, o := 500 } ∧
      s.pos.act = .settling ∧ (((4 : Int) - s.pos.target) * 16384 + pesOf
      { sector := 3, track := 4, e := 500, o := 500 } - s.pos.offset).natAbs ≤ s.prof.settleTol ∧ s.prof.settleCount ≤
      s.pos.settleRun + 1 ∧
      MeasureUnderWay s (measuring .skew .zoneSeek 0 1) (at2 .zoneSeek 0 1) defaultFigures 1 2 .zoneSeek ∧
      s.jct.ctx.await = some .seek ∧
      s.pos.actMove = some { kind := .seek, owner := .job s.jct.attempt }) ∧
    (let s : State :=
        measureOf (posOf (moving .settling (some .settle) (some .jog)) (fun x => { x with target := 4, offset := 400 }))
          (measuring .span .jog1 0 1) .jog;
      AnchorSlot s ∧ GoodMark s 3 6 500 500 { sector := 3, track := 4, e := 500, o := 500 } ∧
      s.pos.act = .settling ∧ (((4 : Int) - s.pos.target) * 16384 + pesOf
      { sector := 3, track := 4, e := 500, o := 500 } - s.pos.offset).natAbs ≤ s.prof.settleTol ∧ s.prof.settleCount ≤
      s.pos.settleRun + 1 ∧
      MeasureUnderWay s (measuring .span .jog1 0 1) (at2 .jog1 0 1) defaultFigures 1 2 .jog1 ∧
      s.jct.ctx.await = some .jog ∧
      s.pos.actMove = some { kind := .jog, owner := .job s.jct.attempt } ∧ s.chm.level = .cool ∧
      s.chm.heat + s.prof.jogCost < min s.prof.warmOn s.prof.hotOn) ∧
    (let s : State :=
        measureOf (posOf (moving .settling (some .settle) (some .jog)) (fun x => { x with target := 4, offset := -400 }))
          (measuring .span .jog2 0 1) .jog;
      AnchorSlot s ∧ GoodMark s 3 6 500 500 { sector := 3, track := 4, e := 500, o := 500 } ∧
      s.pos.act = .settling ∧ (((4 : Int) - s.pos.target) * 16384 + pesOf
      { sector := 3, track := 4, e := 500, o := 500 } - s.pos.offset).natAbs ≤ s.prof.settleTol ∧ s.prof.settleCount ≤
      s.pos.settleRun + 1 ∧
      MeasureUnderWay s (measuring .span .jog2 0 1) (at2 .jog2 0 1) defaultFigures 1 2 .jog2 ∧
      s.jct.ctx.await = some .jog ∧
      s.pos.actMove = some { kind := .jog, owner := .job s.jct.attempt } ∧ s.chm.level = .cool ∧
      s.chm.heat + s.prof.jogCost < min s.prof.warmOn s.prof.hotOn) ∧
    (let s : State := measureOf (moving .settling (some .settle) (some .seek)) (measuring .qualify .zoneSeek 0 0) .seek;
      MeasureUnderWay s (measuring .qualify .zoneSeek 0 0) (at2 .zoneSeek 0 0) defaultFigures 1 2 .zoneSeek ∧
      (s.jct.ctx.await = some .seek ∧ s.window = none ∧ s.pos.actMove = some { kind := .seek, owner := .job s.jct.attempt } ∧
      s.pos.act = .settling ∧ s.pos.deadline = some { kind := .settle, due := 2000 } ∧ 0 < s.prof.retries)) ∧
    (let s : State := measureOf (moving .settling (some .settle) (some .jog)) (measuring .span .zoneSeek 1 0) .seek;
      MeasureUnderWay s (measuring .span .zoneSeek 1 0) (at2 .zoneSeek 1 0) defaultFigures 1 2 .zoneSeek ∧
      (s.jct.ctx.await = some .seek ∧ s.window = none ∧ s.pos.actMove = some { kind := .jog, owner := .job s.jct.attempt } ∧
      s.pos.act = .settling ∧ s.pos.deadline = some { kind := .settle, due := 2000 }) ∧
      s.prof.retries ≤ 1 ∧ OnlyHeadZone s (measuring .span .zoneSeek 1 0) 1 2) ∧
    (let s : State := measureOf (moving .settling (some .settle) (some .seek)) (measuring .skew .zoneSeek 1 1) .seek;
      MeasureUnderWay s (measuring .skew .zoneSeek 1 1) (at2 .zoneSeek 1 1) defaultFigures 1 2 .zoneSeek ∧
      (s.jct.ctx.await = some .seek ∧ s.window = none ∧ s.pos.actMove = some { kind := .seek, owner := .job s.jct.attempt } ∧
      s.pos.act = .settling ∧ s.pos.deadline = some { kind := .settle, due := 2000 }) ∧
      s.prof.retries ≤ 1 ∧ OnlyHeadZone s (measuring .skew .zoneSeek 1 1) 1 2) ∧
    (let s : State := measureOf (moving .seeking (some .seek) (some .seek)) (measuring .qualify .zoneSeek 0 1) .seek;
      MeasureUnderWay s (measuring .qualify .zoneSeek 0 1) (at2 .zoneSeek 0 1) defaultFigures 1 2 .zoneSeek ∧
      (s.jct.ctx.await = some .seek ∧ s.window = none ∧ s.pos.actMove = some { kind := .seek, owner := .job s.jct.attempt } ∧
      s.pos.act = .seeking ∧ s.pos.deadline = some { kind := .seek, due := 2000 } ∧ s.rampView = .offRamp ∧ 0 < s.prof.retries)) ∧
    (let s : State :=
        measureOf (posOf (moving .settling (some .settle) (some .seek)) (fun x => { x with lossRun := 3 }))
          (measuring .skew .zoneSeek 0 0) .seek;
      MeasureUnderWay s (measuring .skew .zoneSeek 0 0) (at2 .zoneSeek 0 0) defaultFigures 1 2 .zoneSeek ∧
      (s.jct.ctx.await = some .seek ∧ s.window = none ∧ s.pos.actMove = some { kind := .seek, owner := .job s.jct.attempt } ∧
      s.pos.act = .settling ∧ 3 ≤ s.pos.lossRun ∧ s.pos.held = none) ∧ AnchorSlot s) ∧
    (let s : State :=
        measureOf (posOf (moving .following none none) (fun x =>
          { x with target := 4, offset := 1201, otRun := 2, held := some { track := 30000, offset := 0, owner := .job 0 } }))
          (measuring .span .zoneSeek 0 0) .seek;
      MeasureUnderWay s (measuring .span .zoneSeek 0 0) (at2 .zoneSeek 0 0) defaultFigures 1 2 .zoneSeek ∧
      AnchorSlot s ∧
      GoodMark s 3 6 500 500 { sector := 3, track := 4, e := 500, o := 500 } ∧
      (s.jct.ctx.await = some .seek ∧ s.window = none ∧ s.pos.act = .following ∧ s.prof.otTol < (((4 : Int) - s.pos.target) *
      16384 + pesOf { sector := 3, track := 4, e := 500, o := 500 } - s.pos.offset).natAbs ∧ s.prof.otCount ≤
      s.pos.otRun + 1 ∧ s.pos.actMove = none ∧ s.pos.held = some { track := 30000, offset := 0, owner := .job s.jct.attempt })) :=
  ⟨⟨quietSlot_of _ (by decide), goodMark_of _ _ _ _ _ _ (by decide), by decide⟩,
   ⟨quietSlot_of _ (by decide), goodMark_of _ _ _ _ _ _ (by decide), by decide⟩,
   ⟨quietSlot_of _ (by decide), goodMark_of _ _ _ _ _ _ (by decide), by decide⟩,
   ⟨quietSlot_of _ (by decide), goodMark_of _ _ _ _ _ _ (by decide), by decide⟩,
   ⟨quietSlot_of _ (by decide), goodMark_of _ _ _ _ _ _ (by decide), by decide⟩,
   ⟨quietSlot_of _ (by decide), goodMark_of _ _ _ _ _ _ (by decide), by decide⟩,
   ⟨measureUnderWay_of _ _ _ _ _ _ _ (by decide), anchorSlot_of _ (by decide), goodMark_of _ _ _ _ _ _ (by decide), by decide⟩,
   ⟨measureUnderWay_of _ _ _ _ _ _ _ (by decide), anchorSlot_of _ (by decide), goodMark_of _ _ _ _ _ _ (by decide), by decide⟩,
   ⟨anchorSlot_of _ (by decide), goodMark_of _ _ _ _ _ _ (by decide), by decide, by decide, by decide, measureUnderWay_of _ _ _ _ _ _ _ (by decide), by decide⟩,
   ⟨anchorSlot_of _ (by decide), goodMark_of _ _ _ _ _ _ (by decide), by decide, by decide, by decide, measureUnderWay_of _ _ _ _ _ _ _ (by decide), by decide⟩,
   ⟨anchorSlot_of _ (by decide), goodMark_of _ _ _ _ _ _ (by decide), by decide, by decide, by decide, measureUnderWay_of _ _ _ _ _ _ _ (by decide), by decide⟩,
   ⟨anchorSlot_of _ (by decide), goodMark_of _ _ _ _ _ _ (by decide), by decide, by decide, by decide, measureUnderWay_of _ _ _ _ _ _ _ (by decide), by decide⟩,
   ⟨anchorSlot_of _ (by decide), goodMark_of _ _ _ _ _ _ (by decide), by decide, by decide, by decide, measureUnderWay_of _ _ _ _ _ _ _ (by decide), by decide⟩,
   ⟨anchorSlot_of _ (by decide), goodMark_of _ _ _ _ _ _ (by decide), by decide, by decide, by decide, measureUnderWay_of _ _ _ _ _ _ _ (by decide), by decide⟩,
   ⟨measureUnderWay_of _ _ _ _ _ _ _ (by decide), by decide⟩,
   ⟨measureUnderWay_of _ _ _ _ _ _ _ (by decide), by decide, by decide, onlyHeadZone_of _ _ _ _ (by decide)⟩,
   ⟨measureUnderWay_of _ _ _ _ _ _ _ (by decide), by decide, by decide, onlyHeadZone_of _ _ _ _ (by decide)⟩,
   ⟨measureUnderWay_of _ _ _ _ _ _ _ (by decide), by decide⟩,
   ⟨measureUnderWay_of _ _ _ _ _ _ _ (by decide), by decide, anchorSlot_of _ (by decide)⟩,
   ⟨measureUnderWay_of _ _ _ _ _ _ _ (by decide), anchorSlot_of _ (by decide), goodMark_of _ _ _ _ _ _ (by decide), by decide⟩⟩

/-- The hypotheses of SpinUpFollowsTheSpindleState can be met, clause by clause. -/
theorem witness_SpinUpFollowsTheSpindleState :
    (let s : State := std .stopped .parked;
      s.LinkReady ∧ s.NoneRuns ∧ s.pos.spindle = .stopped) ∧
    (let s : State := std .accelerating .parked;
      s.LinkReady ∧ s.NoneRuns ∧ s.pos.spindle = .accelerating) ∧
    (let s : State := std .braking .parked;
      s.LinkReady ∧ s.NoneRuns ∧ s.pos.spindle = .braking) ∧
    (let s : State := std .bench .parked;
      s.LinkReady ∧ s.NoneRuns ∧ s.pos.spindle = .bench) ∧
    (let s : State := posOf (std .atSpeed .parked) (fun p => { p with spinDownPending := false });
      s.LinkReady ∧ s.NoneRuns ∧ s.pos.spindle = .atSpeed ∧ s.pos.spinDownPending = false) ∧
    (let s : State := posOf (std .offSpeed .parked) (fun p => { p with spinDownPending := true });
      s.LinkReady ∧ s.NoneRuns ∧ s.pos.spindle = .offSpeed ∧ s.pos.spinDownPending = true) :=
  ⟨⟨linkReady_of _ (by decide), noneRuns_of _ (by decide), by decide⟩,
   ⟨linkReady_of _ (by decide), noneRuns_of _ (by decide), by decide⟩,
   ⟨linkReady_of _ (by decide), noneRuns_of _ (by decide), by decide⟩,
   ⟨linkReady_of _ (by decide), noneRuns_of _ (by decide), by decide⟩,
   ⟨linkReady_of _ (by decide), noneRuns_of _ (by decide), by decide⟩,
   ⟨linkReady_of _ (by decide), noneRuns_of _ (by decide), by decide⟩⟩

/-- The hypotheses of SpinDownFollowsSpindleAndActuator can be met, clause by clause. -/
theorem witness_SpinDownFollowsSpindleAndActuator :
    (let s : State := std .stopped .parked;
      s.LinkReady ∧ s.NoneRuns ∧ s.pos.spindle = .stopped ∧ s.pos.act = .parked) ∧
    (let s : State := std .braking .parked;
      s.LinkReady ∧ s.NoneRuns ∧ s.pos.spindle = .braking ∧ s.pos.act = .parked) ∧
    (let s : State := std .accelerating .parked;
      s.LinkReady ∧ s.NoneRuns ∧ s.pos.spindle = .accelerating ∧ s.pos.act = .parked) ∧
    (let s : State := std .offSpeed .parked;
      s.LinkReady ∧ s.NoneRuns ∧ s.pos.spindle = .offSpeed ∧ s.pos.act = .parked) ∧
    (let s : State := std .bench .parked;
      s.LinkReady ∧ s.NoneRuns ∧ s.pos.spindle = .bench ∧ s.pos.act = .parked) ∧
    (let s : State := fly .following none;
      s.LinkReady ∧ s.NoneRuns ∧ s.pos.spindle = .atSpeed ∧ s.pos.act.isLoaded = true ∧ s.rampView = .offRamp) ∧
    (let s : State := fly .unloading (some .unload);
      s.LinkReady ∧ s.NoneRuns ∧ s.pos.spindle = .atSpeed ∧ s.pos.act = .unloading) :=
  ⟨⟨linkReady_of _ (by decide), noneRuns_of _ (by decide), by decide⟩,
   ⟨linkReady_of _ (by decide), noneRuns_of _ (by decide), by decide⟩,
   ⟨linkReady_of _ (by decide), noneRuns_of _ (by decide), by decide⟩,
   ⟨linkReady_of _ (by decide), noneRuns_of _ (by decide), by decide⟩,
   ⟨linkReady_of _ (by decide), noneRuns_of _ (by decide), by decide⟩,
   ⟨linkReady_of _ (by decide), noneRuns_of _ (by decide), by decide⟩,
   ⟨linkReady_of _ (by decide), noneRuns_of _ (by decide), by decide⟩⟩

/-- The hypotheses of HeadsLoadChecksInOrder can be met, clause by clause. -/
theorem witness_HeadsLoadChecksInOrder :
    (let s : State := fly .unloading (some .unload);
      s.LinkReady ∧ s.NoneRuns ∧ s.pos.act = .unloading) ∧
    (let s : State := fly .settling (some .settle);
      s.LinkReady ∧ s.NoneRuns ∧ s.pos.act = .settling) ∧
    (let s : State := linesOf (std .atSpeed .parked) (fun p => { p with selectBench := true });
      s.LinkReady ∧ s.NoneRuns ∧ s.pos.act = .parked ∧ s.flc.selectBench = true) ∧
    (let s : State := std .offSpeed .parked;
      s.LinkReady ∧ s.NoneRuns ∧ s.pos.act = .parked ∧ s.flc.selectBench = false ∧ s.pos.spindle ≠ .atSpeed) ∧
    (let s : State := linesOf (std .atSpeed .parked) (fun p => { p with livePreamp := .active });
      s.LinkReady ∧ s.NoneRuns ∧ s.pos.act = .parked ∧ s.flc.selectBench = false ∧ s.pos.spindle = .atSpeed ∧
      s.preampView = .active) ∧
    (let s : State := std .atSpeed .parked;
      s.LinkReady ∧ s.NoneRuns ∧ s.pos.act = .parked ∧ s.flc.selectBench = false ∧ s.pos.spindle = .atSpeed ∧
      s.preampView = .inactive ∧ s.sdc.marker = false) :=
  ⟨⟨linkReady_of _ (by decide), noneRuns_of _ (by decide), by decide⟩,
   ⟨linkReady_of _ (by decide), noneRuns_of _ (by decide), by decide⟩,
   ⟨linkReady_of _ (by decide), noneRuns_of _ (by decide), by decide⟩,
   ⟨linkReady_of _ (by decide), noneRuns_of _ (by decide), by decide⟩,
   ⟨linkReady_of _ (by decide), noneRuns_of _ (by decide), by decide⟩,
   ⟨linkReady_of _ (by decide), noneRuns_of _ (by decide), by decide⟩⟩

/-- The hypotheses of HeadsUnloadUnloadsOrChangesNothing can be met, clause by clause. -/
theorem witness_HeadsUnloadUnloadsOrChangesNothing :
    (let s : State := fly .following none;
      s.LinkReady ∧ s.NoneRuns ∧ s.pos.act.isLoaded = true ∧ s.rampView = .offRamp) ∧
    (let s : State := linesOf (fly .following none) (fun p => { p with liveRamp := .onRamp });
      s.LinkReady ∧ s.NoneRuns ∧ s.pos.act.isLoaded = true ∧ s.rampView = .onRamp ∧ s.pos.spinDownPending = false) ∧
    (quiet.LinkReady ∧ quiet.NoneRuns ∧ quiet.pos.act.isLoaded = false) :=
  ⟨⟨linkReady_of _ (by decide), noneRuns_of _ (by decide), by decide⟩,
   ⟨linkReady_of _ (by decide), noneRuns_of _ (by decide), by decide⟩,
   ⟨linkReady_of _ (by decide), noneRuns_of _ (by decide), by decide⟩⟩

/-- The hypotheses of SeekIsStartedHeldOrRefused can be met, clause by clause. -/
theorem witness_SeekIsStartedHeldOrRefused :
    (let s : State := fly .following none;
      s.LinkReady ∧ s.NoneRuns ∧ (8191 : Int) = max (-8191) (min 8191 (8192 : Half).toInt) ∧ s.prof.trackMax < (200001
      : Quad).toNat) ∧
    (let s : State := heatOf (fly .following none) .hot 0;
      s.LinkReady ∧ s.NoneRuns ∧ (200000 : Quad).toNat ≤ s.prof.trackMax ∧ s.chm.level = .hot) ∧
    (let s : State := fly .acquiring (some .load);
      s.LinkReady ∧ s.NoneRuns ∧ (200000 : Quad).toNat ≤ s.prof.trackMax ∧ s.chm.level ≠ .hot ∧ s.pos.act =
      .acquiring) ∧
    (let s : State := fly .seeking (some .seek);
      s.LinkReady ∧ s.NoneRuns ∧ (200000 : Quad).toNat ≤ s.prof.trackMax ∧ s.chm.level ≠ .hot ∧ s.pos.act = .seeking)
      ∧
    (let s : State := fly .following none;
      s.LinkReady ∧ s.NoneRuns ∧ (200000 : Quad).toNat ≤ s.prof.trackMax ∧ s.chm.level ≠ .hot ∧ s.pos.act = .following
      ∧ (200000 : Quad).toNat ≠ s.pos.target ∧ s.chm.level = .cool) ∧
    (let s : State := heatOf (fly .settling (some .settle)) .warm 5;
      s.LinkReady ∧ s.NoneRuns ∧ (200000 : Quad).toNat ≤ s.prof.trackMax ∧ s.chm.level ≠ .hot ∧ s.pos.act = .settling
      ∧ (200000 : Quad).toNat ≠ s.pos.target ∧ s.prof.paceTicks ≤ s.chm.pace) ∧
    (let s : State := heatOf (fly .following none) .warm 4;
      s.LinkReady ∧ s.NoneRuns ∧ (200000 : Quad).toNat ≤ s.prof.trackMax ∧ s.pos.act = .following ∧ (200000 :
      Quad).toNat ≠ s.pos.target ∧ s.chm.level = .warm ∧ s.chm.pace < s.prof.paceTicks) ∧
    (let s : State := fly .following none;
      s.LinkReady ∧ s.NoneRuns ∧ (0 : Quad).toNat = s.pos.target ∧ s.pos.act = .following ∧ (0 : Int) = s.pos.offset ∧
      (8191 : Int) ≠ s.pos.offset) ∧
    (let s : State := fly .settling (some .settle);
      s.LinkReady ∧ s.NoneRuns ∧ (0 : Quad).toNat = s.pos.target ∧ s.pos.act = .settling ∧ (0 : Int) = s.pos.offset ∧
      (8191 : Int) ≠ s.pos.offset) :=
  ⟨⟨linkReady_of _ (by decide), noneRuns_of _ (by decide), by decide⟩,
   ⟨linkReady_of _ (by decide), noneRuns_of _ (by decide), by decide⟩,
   ⟨linkReady_of _ (by decide), noneRuns_of _ (by decide), by decide⟩,
   ⟨linkReady_of _ (by decide), noneRuns_of _ (by decide), by decide⟩,
   ⟨linkReady_of _ (by decide), noneRuns_of _ (by decide), by decide⟩,
   ⟨linkReady_of _ (by decide), noneRuns_of _ (by decide), by decide⟩,
   ⟨linkReady_of _ (by decide), noneRuns_of _ (by decide), by decide⟩,
   ⟨linkReady_of _ (by decide), noneRuns_of _ (by decide), by decide⟩,
   ⟨linkReady_of _ (by decide), noneRuns_of _ (by decide), by decide⟩⟩

/-- The hypotheses of RunningJobTurnsMotionRequestsAway can be met, clause by clause. -/
theorem witness_RunningJobTurnsMotionRequestsAway :
    (let s : State := jobOf (std .atSpeed .parked) (collecting);
      s.LinkReady ∧ s.running = some collecting) :=
  ⟨linkReady_of _ (by decide), by decide⟩

/-- The hypotheses of WindowTimeoutFailsTheHeadZone can be met, clause by clause. -/
theorem witness_WindowTimeoutFailsTheHeadZone :
    (let s : State := (jobOf (fly .following none) collecting).setWindow (some lastTurn);
      s.inbox = [] ∧ s.window = some lastTurn ∧ lastTurn.revs + 1 = lastTurn.limit ∧ lastTurn.attempt = s.jct.attempt
      ∧ s.jct.table = [collecting] ∧ collecting.state = .running ∧ collecting.kind = .qualify ∧ collecting.heads = [1]
      ∧ collecting.zones = [2] ∧ collecting.cursor = some
      { zone := 0, head := 0, phase := .collect, retries := 0, failedZones := 0 } ∧ collecting.figures.isSome = true ∧
      s.jct.ctx.await = some .window ∧ s.jct.zoneFailed = false) ∧
    (let s : State := (measureOf (fly .following none) (measuring .span .collect1 0 0) .window).setWindow (some lastTurn);
      MeasureUnderWay s (measuring .span .collect1 0 0) (at2 .collect1 0 0) defaultFigures 1 2 .collect1 ∧
      OnlyHeadZone s (measuring .span .collect1 0 0) 1 2 ∧
      s.jct.ctx.await = some .window ∧ s.window = some lastTurn ∧ lastTurn.head = 1 ∧ lastTurn.attempt = s.jct.attempt ∧
      s.pos.act = .following ∧ s.gcu.state = .idle ∧ lastTurn.revs + 1 = lastTurn.limit ∧
      0 < s.prof.retries) ∧
    (let s : State := (measureOf (fly .following none) (measuring .span .collect2 1 0) .window).setWindow (some lastTurn);
      MeasureUnderWay s (measuring .span .collect2 1 0) (at2 .collect2 1 0) defaultFigures 1 2 .collect2 ∧
      OnlyHeadZone s (measuring .span .collect2 1 0) 1 2 ∧
      s.jct.ctx.await = some .window ∧ s.window = some lastTurn ∧ lastTurn.head = 1 ∧ lastTurn.attempt = s.jct.attempt ∧
      s.pos.act = .following ∧ s.gcu.state = .idle ∧ lastTurn.revs + 1 = lastTurn.limit ∧
      s.prof.retries ≤ 1) ∧
    (let s : State := nearlyFull .qualify .collect;
      let w : Window := { lastTurn with probing := true, track := 4, used := 63, revs := 3 };
      MeasureUnderWay s (measuring .qualify .collect 0 0) (at2 .collect 0 0) defaultFigures 1 2 .collect ∧
      OnlyHeadZone s (measuring .qualify .collect 0 0) 1 2 ∧
      GoodMark s 3 6 500 500 { sector := 3, track := 4, e := 500, o := 500 } ∧
      s.jct.ctx.await = some .window ∧ s.window = some w ∧ w.head = 1 ∧ w.attempt = s.jct.attempt ∧ s.pos.act = .following ∧
      s.gcu.state = .idle ∧ s.sdc.slotDue.isSome = true ∧ s.sdc.marker = false ∧ ((4 : Int) - w.track).natAbs ≤ 127 ∧
      w.size ≤ w.used + 1 ∧ w.anchorOnly = false ∧ w.probing = true ∧ s.drivenHead = 1 ∧ 1 ≠ s.prof.anchor ∧
      (let y : WindowReport :=
          { ending := .complete, window := { w with pos := 1, used := 64, sumAmp := 7000 }, mean := some (roundDiv 0 64) };
        y.window = { w with
          pos := if w.anchorOnly then w.pos else w.pos + 1, used := w.used + 1
          sumV := w.sumV + (((4 : Int) - w.track) * 16384 + pesOf { sector := 3, track := 4, e := 500, o := 500 })
          sumAmp := w.sumAmp + (500 + 500) } ∧ (qualification s.prof y).isSome = true)) ∧
    (let s : State := nearlyFull .span .collect1;
      let w : Window := { lastTurn with probing := true, track := 4, used := 63, revs := 3 };
      MeasureUnderWay s (measuring .span .collect1 0 0) (at2 .collect1 0 0) defaultFigures 1 2 .collect1 ∧
      OnlyHeadZone s (measuring .span .collect1 0 0) 1 2 ∧
      GoodMark s 3 6 500 500 { sector := 3, track := 4, e := 500, o := 500 } ∧
      s.jct.ctx.await = some .window ∧ s.window = some w ∧ w.head = 1 ∧ w.attempt = s.jct.attempt ∧ s.pos.act = .following ∧
      s.gcu.state = .idle ∧ s.sdc.slotDue.isSome = true ∧ s.sdc.marker = false ∧ ((4 : Int) - w.track).natAbs ≤ 127 ∧
      w.size ≤ w.used + 1 ∧ w.anchorOnly = false ∧ w.probing = true ∧ s.drivenHead = 1 ∧ 1 ≠ s.prof.anchor) ∧
    (let s : State := nearlyFull .span .collect2;
      let w : Window := { lastTurn with probing := true, track := 4, used := 63, revs := 3 };
      MeasureUnderWay s (measuring .span .collect2 0 0) (at2 .collect2 0 0) defaultFigures 1 2 .collect2 ∧
      OnlyHeadZone s (measuring .span .collect2 0 0) 1 2 ∧
      GoodMark s 3 6 500 500 { sector := 3, track := 4, e := 500, o := 500 } ∧
      s.jct.ctx.await = some .window ∧ s.window = some w ∧ w.head = 1 ∧ w.attempt = s.jct.attempt ∧ s.pos.act = .following ∧
      s.gcu.state = .idle ∧ s.sdc.slotDue.isSome = true ∧ s.sdc.marker = false ∧ ((4 : Int) - w.track).natAbs ≤ 127 ∧
      w.size ≤ w.used + 1 ∧ w.anchorOnly = false ∧ w.probing = true ∧ s.drivenHead = 1 ∧ 1 ≠ s.prof.anchor ∧ s.jct.ctx.firstReport = some { ending := .complete, window := lastTurn, mean := some 5 }) ∧
    (let w : Window := { lastTurn with head := 0, anchorOnly := true, track := 4, used := 63, revs := 3 };
      let j : Job := { measuring .qualify .collect 0 0 with heads := [0] };
      let s : State := (measureOf (fly .following none) j .window).setWindow (some w);
      MeasureUnderWay s j (at2 .collect 0 0) defaultFigures 0 2 .collect ∧ OnlyHeadZone s j 0 2 ∧
      GoodMark s 3 6 500 500 { sector := 3, track := 4, e := 500, o := 500 } ∧
      s.jct.ctx.await = some .window ∧ s.window = some w ∧ w.head = 0 ∧ w.attempt = s.jct.attempt ∧ s.pos.act = .following ∧
      s.gcu.state = .idle ∧ s.sdc.slotDue.isSome = true ∧ s.sdc.marker = false ∧ ((4 : Int) - w.track).natAbs ≤ 127 ∧
      w.size ≤ w.used + 1 ∧ w.anchorOnly = true ∧ s.drivenHead = 0 ∧ 0 = s.prof.anchor ∧ s.pos.otRun + 1 < s.prof.otCount) :=
  ⟨by decide,
   ⟨measureUnderWay_of _ _ _ _ _ _ _ (by decide), onlyHeadZone_of _ _ _ _ (by decide), by decide⟩,
   ⟨measureUnderWay_of _ _ _ _ _ _ _ (by decide), onlyHeadZone_of _ _ _ _ (by decide), by decide⟩,
   ⟨measureUnderWay_of _ _ _ _ _ _ _ (by decide), onlyHeadZone_of _ _ _ _ (by decide), goodMark_of _ _ _ _ _ _ (by decide), by decide⟩,
   ⟨measureUnderWay_of _ _ _ _ _ _ _ (by decide), onlyHeadZone_of _ _ _ _ (by decide), goodMark_of _ _ _ _ _ _ (by decide), by decide⟩,
   ⟨measureUnderWay_of _ _ _ _ _ _ _ (by decide), onlyHeadZone_of _ _ _ _ (by decide), goodMark_of _ _ _ _ _ _ (by decide), by decide⟩,
   ⟨measureUnderWay_of _ _ _ _ _ _ _ (by decide), onlyHeadZone_of _ _ _ _ (by decide), goodMark_of _ _ _ _ _ _ (by decide), by decide⟩⟩

/-- The hypotheses of FollowRunsAndProbeVisitsAlternate can be met, clause by clause. -/
theorem witness_FollowRunsAndProbeVisitsAlternate :
    (let s : State :=
        (linesOf (fly .following none) (fun p => { p with engineHead := 0 })).setWindow (some { lastTurn with probing := false, pos := 6 });
      s.sdc.slotDue = some 2000 ∧ s.pos.act = .following ∧ s.pos.lossRun = 0 ∧ s.sdc.marker = false ∧
      s.flc.selectBench = false ∧ s.inbox = [] ∧ s.awaitsSwitch = false ∧ s.gcu.state = .idle ∧ lastTurn.anchorOnly =
      false ∧ lastTurn.head ≠ s.prof.anchor ∧ s.window = some { lastTurn with probing := false, pos := 6 } ∧
      s.drivenHead = s.prof.anchor ∧ 6 + 1 < lastTurn.follow) ∧
    (let s : State :=
        (linesOf (fly .following none) (fun p => { p with engineHead := 0 })).setWindow (some { lastTurn with probing := false, pos := 7 });
      s.sdc.slotDue = some 2000 ∧ s.pos.act = .following ∧ s.pos.lossRun = 0 ∧ s.sdc.marker = false ∧
      s.flc.selectBench = false ∧ s.inbox = [] ∧ s.awaitsSwitch = false ∧ s.gcu.state = .idle ∧ lastTurn.anchorOnly =
      false ∧ lastTurn.head ≠ s.prof.anchor ∧ s.window = some { lastTurn with probing := false, pos := 7 } ∧
      s.drivenHead = s.prof.anchor ∧ lastTurn.follow ≤ 7 + 1) ∧
    (let s : State :=
        (linesOf (fly .following none) (fun p => { p with engineHead := 1 })).setWindow (some { lastTurn with probing := true, pos := 1 });
      s.sdc.slotDue = some 2000 ∧ s.pos.act = .following ∧ s.pos.lossRun = 0 ∧ s.sdc.marker = false ∧
      s.flc.selectBench = false ∧ s.inbox = [] ∧ s.awaitsSwitch = false ∧ s.gcu.state = .idle ∧ lastTurn.anchorOnly =
      false ∧ lastTurn.head ≠ s.prof.anchor ∧ s.window = some { lastTurn with probing := true, pos := 1 } ∧
      s.drivenHead = lastTurn.head ∧ lastTurn.used < lastTurn.size ∧ lastTurn.miss + 1 + lastTurn.wild ≤ lastTurn.size
      / 4 ∧ lastTurn.miss < 65535 ∧ 1 + 1 < lastTurn.visit) ∧
    (let s : State :=
        (linesOf (fly .following none) (fun p => { p with engineHead := 1 })).setWindow (some { lastTurn with probing := true, pos := 2 });
      s.sdc.slotDue = some 2000 ∧ s.pos.act = .following ∧ s.pos.lossRun = 0 ∧ s.sdc.marker = false ∧
      s.flc.selectBench = false ∧ s.inbox = [] ∧ s.awaitsSwitch = false ∧ s.gcu.state = .idle ∧ lastTurn.anchorOnly =
      false ∧ lastTurn.head ≠ s.prof.anchor ∧ s.window = some { lastTurn with probing := true, pos := 2 } ∧
      s.drivenHead = lastTurn.head ∧ lastTurn.visit ≤ 2 + 1) :=
  ⟨by decide,
   by decide,
   by decide,
   by decide⟩

/-- The hypotheses of WindowEntriesByClass can be met, clause by clause. -/
theorem witness_WindowEntriesByClass :
    ((327 : Nat) : Int) - (200 : Nat) = 127 ∧ ((327 : Int) - 200).natAbs ≤ 127 ∧ 127 < ((328 : Int) - 200).natAbs ∧ 16
      ≤ 16 ∧ (15 < 16 ∧ 16 / 4 < 5) :=
  by decide

/-- The hypotheses of RoundingAndSplitOfR63 can be met, clause by clause. -/
theorem witness_RoundingAndSplitOfR63 :
    0 < 1 ∧ (0 : Int) ≤ 0 ∧ (-1 : Int) < 0 ∧ (-16384 : Int).natAbs % 16384 = 0 ∧ (-1 : Int).natAbs % 16384 ≠ 0 :=
  by decide

/-- The hypotheses of SpanFiguresAndTheirLimits can be met, clause by clause. -/
theorem witness_SpanFiguresAndTheirLimits :
    (-1024 : Int) < 1024 ∧ 64 ≤ ({} : Profile).gainMinQ8 ∧ ({} : Profile).gainMaxQ8 ≤ 1024 ∧ roundDiv (256 * ((-31699)
      - (-33754))) 2048 = 257 ∧ roundDiv (256 * (0 - 0)) 2048 < ({} : Profile).gainMinQ8 ∧ 2080768 < (roundDiv (256 *
      2088961) 257).natAbs ∧ (roundDiv (256 * 2088960) 257).natAbs ≤ 2080832 :=
  by decide

/-- The hypotheses of QualificationVerdictInOrder can be met, clause by clause. -/
theorem witness_QualificationVerdictInOrder :
    0 < ({ lastTurn with used := 64 } : Window).used ∧ ((600 : Nat) : Int) = roundDiv ((38400 : Nat) : Int) 64 ∧ ((50
      : Nat) : Int) = roundDiv ((1000 * 1 : Nat) : Int) (19 + 1) ∧ 599 < ({} : Profile).ampMin ∧ ({} : Profile).ampMin
      ≤ 600 ∧ ({} : Profile).weakMaxPm < 51 ∧ 50 ≤ ({} : Profile).weakMaxPm ∧ ({} : Profile).missMaxPm < 21 ∧ 20 ≤ ({}
      : Profile).missMaxPm :=
  by decide

/-- The hypotheses of SkewIsRoundedAndClamped can be met, clause by clause. -/
theorem witness_SkewIsRoundedAndClamped :
    0 < 1 ∧ rawSkew 256 1666667 4 4 40000 40000 = 0 ∧ 16383 < rawSkew 1024 1000000 1 1 0 65535 ∧ rawSkew 1024 1000000
      1 1 65535 0 < -16383 :=
  by decide

/-- The hypotheses of GateOverflowsEndOverrange can be met, clause by clause. -/
theorem witness_GateOverflowsEndOverrange :
    (let s : State := gateOf (skewState .period 0 false true) .counting .chained 0 none;
      SkewUnderWay s (skewing .period 0) (at1 .period 0) defaultFigures 1 2 .period ∧ s.awaitsGate ∧
        s.gcu.state = .counting ∧ s.jct.ctx.probe = false ∧ s.gcu.mode = .chained ∧
        (at1 .period 0).retries < s.prof.retries) ∧
    (let s : State := gateOf (skewState .gateA 0 false true) .counting .split 2 (some 0);
      SkewUnderWay s (skewing .gateA 0) (at1 .gateA 0) defaultFigures 1 2 .gateA ∧ s.awaitsGate ∧
        s.gcu.state = .counting ∧ s.jct.ctx.probe = false ∧ s.gcu.mode = .split ∧
        (at1 .gateA 0).retries < s.prof.retries) ∧
    (let s : State := gateOf (skewState .gateP 0 true true) .counting .split 2 (some 1);
      SkewUnderWay s (skewing .gateP 0) (at1 .gateP 0) defaultFigures 1 2 .gateP ∧ s.awaitsGate ∧
        s.gcu.state = .counting ∧ s.jct.ctx.probe = true ∧ s.gcu.mode = .split ∧
        (at1 .gateP 0).retries < s.prof.retries) ∧
    (let s : State := gateOf (skewState .gateP 1 true true) .counting .split 2 (some 1);
      SkewUnderWay s (skewing .gateP 1) (at1 .gateP 1) defaultFigures 1 2 .gateP ∧ s.awaitsGate ∧
        s.gcu.state = .counting ∧ s.jct.ctx.probe = true ∧ s.gcu.mode = .split ∧
        s.prof.retries ≤ (at1 .gateP 1).retries ∧ s.jct.table = [skewing .gateP 1] ∧
        (skewing .gateP 1).heads = [1] ∧ (skewing .gateP 1).zones = [2] ∧ s.jct.zoneFailed = false) :=
  ⟨⟨skewUnderWay_of _ _ _ _ _ _ _ (by decide), awaitsGate_of _ (by decide), by decide⟩,
   ⟨skewUnderWay_of _ _ _ _ _ _ _ (by decide), awaitsGate_of _ (by decide), by decide⟩,
   ⟨skewUnderWay_of _ _ _ _ _ _ _ (by decide), awaitsGate_of _ (by decide), by decide⟩,
   ⟨skewUnderWay_of _ _ _ _ _ _ _ (by decide), awaitsGate_of _ (by decide), by decide⟩⟩

/-- The hypotheses of GatesBeginAtTheIndexAndClose can be met, clause by clause. -/
theorem witness_GatesBeginAtTheIndexAndClose :
    (let s : State := gateOf (skewState .period 0 false true) .armed .chained 0 none;
      SkewUnderWay s (skewing .period 0) (at1 .period 0) defaultFigures 1 2 .period ∧ s.awaitsGate ∧ s.pos.indexRef = some 1000 ∧
        (1675000 : Nat) ≤ 4 * s.prof.nRevNom ∧
        ((1675000 : Int) - s.prof.nRevNom).natAbs * 1000 ≤ s.prof.speedTolPm * s.prof.nRevNom ∧ s.gcu.state = .armed) ∧
    (let s : State := gateOf (skewState .gateA 0 false true) .counting .split 0 none;
      SkewUnderWay s (skewing .gateA 0) (at1 .gateA 0) defaultFigures 1 2 .gateA ∧ s.awaitsGate ∧ s.pos.indexRef = some 1000 ∧
        (1675000 : Nat) ≤ 4 * s.prof.nRevNom ∧
        ((1675000 : Int) - s.prof.nRevNom).natAbs * 1000 ≤ s.prof.speedTolPm * s.prof.nRevNom ∧ s.gcu.state = .counting ∧ s.gcu.mode = .split) ∧
    (let s : State := gateOf (skewState .gateP 0 true true) .armed .split 0 none;
      SkewUnderWay s (skewing .gateP 0) (at1 .gateP 0) defaultFigures 1 2 .gateP ∧ s.awaitsGate ∧ s.pos.indexRef = some 1000 ∧
        (1675000 : Nat) ≤ 4 * s.prof.nRevNom ∧
        ((1675000 : Int) - s.prof.nRevNom).natAbs * 1000 ≤ s.prof.speedTolPm * s.prof.nRevNom ∧ s.jct.ctx.probe = true ∧ s.gcu.state = .armed) ∧
    (let s : State := gateOf (skewState .period 0 false true) .counting .chained 0 none;
      SkewUnderWay s (skewing .period 0) (at1 .period 0) defaultFigures 1 2 .period ∧ s.awaitsGate ∧ s.pos.indexRef = some 1000 ∧
        (1675000 : Nat) ≤ 4 * s.prof.nRevNom ∧
        ((1675000 : Int) - s.prof.nRevNom).natAbs * 1000 ≤ s.prof.speedTolPm * s.prof.nRevNom ∧ s.gcu.state = .counting ∧ s.gcu.mode = .chained ∧
        1000 + 1675000 - s.gcu.start ≤ 4294967295) ∧
    (let s : State := gateOf (skewState .gateP 0 false false) .idle .split 0 none;
      SkewUnderWay s (skewing .gateP 0) (at1 .gateP 0) defaultFigures 1 2 .gateP ∧ s.pos.indexRef = some 1000 ∧
        (1675000 : Nat) ≤ 4 * s.prof.nRevNom ∧
        ((1675000 : Int) - s.prof.nRevNom).natAbs * 1000 ≤ s.prof.speedTolPm * s.prof.nRevNom ∧ s.jct.ctx.probe = false ∧ s.gcu.state = .idle ∧
        s.jct.ctx.tally.pairs + 1 < defaultFigures.r) ∧
    (let s : State := gateOf (skewState .gateA 0 false true) .counting .split 1 (some 0);
      SkewUnderWay s (skewing .gateA 0) (at1 .gateA 0) defaultFigures 1 2 .gateA ∧ s.awaitsGate ∧ s.sdc.slotDue.isSome = true ∧
        s.gcu.state = .counting ∧ s.gcu.mode = .split ∧ s.gcu.head = some s.drivenHead ∧ s.sdc.marker = false ∧
        (255 : BitVec 10).toNat < s.prof.sectors ∧ 66535 = s.pos.indexRef.getD s.now + 65535 ∧ 66535 - s.gcu.start ≤ 65535 ∧
        s.drivenHead = s.prof.anchor ∧ s.pos.otRun + 1 < s.prof.otCount ∧ s.pos.lossRun < 3 ∧
        (255 : BitVec 10).toNat ≠ 0 ∧ s.gcu.stageU < 2) ∧
    (let s : State := gateOf (skewState .gateA 0 false true) .counting .split 2 (some 0);
      SkewUnderWay s (skewing .gateA 0) (at1 .gateA 0) defaultFigures 1 2 .gateA ∧ s.awaitsGate ∧ s.sdc.slotDue.isSome = true ∧
        s.gcu.state = .counting ∧ s.gcu.mode = .split ∧ s.gcu.head = some s.drivenHead ∧ s.sdc.marker = false ∧
        (1 : BitVec 10).toNat < s.prof.sectors ∧ 66535 = s.pos.indexRef.getD s.now + 65535 ∧ 66535 - s.gcu.start ≤ 65535 ∧
        s.drivenHead = s.prof.anchor ∧ s.pos.otRun + 1 < s.prof.otCount ∧ s.pos.lossRun < 3 ∧ s.gcu.stageU = 2) ∧
    (let s : State := gateOf (skewState .gateA 0 false true) .counting .split 2 (some 0);
      SkewUnderWay s (skewing .gateA 0) (at1 .gateA 0) defaultFigures 1 2 .gateA ∧ s.awaitsGate ∧ s.sdc.slotDue.isSome = true ∧
        s.gcu.state = .counting ∧ s.gcu.mode = .split ∧ s.gcu.head = some s.drivenHead ∧ s.sdc.marker = false ∧
        (0 : BitVec 10).toNat < s.prof.sectors ∧ 66535 = s.pos.indexRef.getD s.now + 65535 ∧ 66535 - s.gcu.start ≤ 65535 ∧
        s.drivenHead = s.prof.anchor ∧ s.pos.otRun + 1 < s.prof.otCount ∧ s.pos.lossRun < 3 ∧ (0 : BitVec 10).toNat = 0) ∧
    (let s : State := gateOf (skewState .gateP 0 true true) .counting .split 1 (some 1);
      SkewUnderWay s (skewing .gateP 0) (at1 .gateP 0) defaultFigures 1 2 .gateP ∧ s.awaitsGate ∧ s.sdc.slotDue.isSome = true ∧
        s.gcu.state = .counting ∧ s.gcu.mode = .split ∧ s.gcu.head = some s.drivenHead ∧ s.sdc.marker = false ∧
        (255 : BitVec 10).toNat < s.prof.sectors ∧ 66535 = s.pos.indexRef.getD s.now + 65535 ∧ 66535 - s.gcu.start ≤ 65535 ∧
        s.jct.ctx.probe = true ∧ s.drivenHead ≠ s.prof.anchor ∧ (255 : BitVec 10).toNat ≠ 0 ∧ s.gcu.stageU < 2) ∧
    (let s : State := gateOf (skewState .gateP 0 true true) .counting .split 2 (some 1);
      SkewUnderWay s (skewing .gateP 0) (at1 .gateP 0) defaultFigures 1 2 .gateP ∧ s.awaitsGate ∧ s.sdc.slotDue.isSome = true ∧
        s.gcu.state = .counting ∧ s.gcu.mode = .split ∧ s.gcu.head = some s.drivenHead ∧ s.sdc.marker = false ∧
        (0 : BitVec 10).toNat < s.prof.sectors ∧ 66535 = s.pos.indexRef.getD s.now + 65535 ∧ 66535 - s.gcu.start ≤ 65535 ∧
        s.jct.ctx.probe = true ∧ s.drivenHead ≠ s.prof.anchor ∧ (0 : BitVec 10).toNat = 0 ∧
        s.jct.ctx.tally.pairs + 1 < defaultFigures.r) ∧
    (let s : State := (skewState .gateP 0 false false).setSdc
        { (skewState .gateP 0 false false).sdc with expect := some 254 };
      SkewUnderWay s (skewing .gateP 0) (at1 .gateP 0) defaultFigures 1 2 .gateP ∧ s.jct.ctx.probe = false ∧ s.gcu.state = .idle ∧
        s.sdc.slotDue = some 2000 ∧ s.sdc.expect = some (s.prof.sectors - 2) ∧ 2 ≤ s.prof.sectors ∧ s.pos.lossRun < 3 ∧
        s.flc.selectBench = false ∧ s.drivenHead = s.prof.anchor ∧ 1 ≠ s.prof.anchor) ∧
    (let s : State := (gateOf (skewState .gateP 1 false false) .idle .split 0 none).setJct
        { (skewState .gateP 1 false false).jct with ctx := { tally := { nRev := some 1666667, pairs := 3, ra := 2, rh := 1 } } };
      SkewUnderWay s (skewing .gateP 1) (at1 .gateP 1) defaultFigures 1 2 .gateP ∧ OnlyHeadZone s (skewing .gateP 1) 1 2 ∧
        s.pos.indexRef = some 1000 ∧ (1675000 : Nat) ≤ 4 * s.prof.nRevNom ∧
        ((1675000 : Int) - s.prof.nRevNom).natAbs * 1000 ≤ s.prof.speedTolPm * s.prof.nRevNom ∧ s.jct.ctx.probe = false ∧
        s.gcu.state = .idle ∧ defaultFigures.r ≤ s.jct.ctx.tally.pairs + 1 ∧
        (s.jct.ctx.tally.rh < (defaultFigures.r + 1) / 2 ∧ s.prof.retries ≤ 1)) ∧
    (let s : State := (gateOf (skewState .gateP 1 false false) .idle .split 0 none).setJct
        { (skewState .gateP 1 false false).jct with ctx := { tally := { nRev := some 1666667, pairs := 3, ra := 2, rh := 2 } } };
      SkewUnderWay s (skewing .gateP 1) (at1 .gateP 1) defaultFigures 1 2 .gateP ∧ OnlyHeadZone s (skewing .gateP 1) 1 2 ∧
        s.pos.indexRef = some 1000 ∧ (1675000 : Nat) ≤ 4 * s.prof.nRevNom ∧
        ((1675000 : Int) - s.prof.nRevNom).natAbs * 1000 ≤ s.prof.speedTolPm * s.prof.nRevNom ∧ s.jct.ctx.probe = false ∧
        s.gcu.state = .idle ∧ defaultFigures.r ≤ s.jct.ctx.tally.pairs + 1 ∧
        (defaultFigures.r + 1) / 2 ≤ s.jct.ctx.tally.ra ∧ (defaultFigures.r + 1) / 2 ≤ s.jct.ctx.tally.rh) ∧
    (let s : State := (gateOf (skewState .gateP 0 true true) .counting .split 2 (some 1)).setJct
        { (skewState .gateP 0 true true).jct with
          ctx := { await := some .gate, probe := true, tally := { nRev := some 1666667, pairs := 3, ra := 2, rh := 0 } } };
      SkewUnderWay s (skewing .gateP 0) (at1 .gateP 0) defaultFigures 1 2 .gateP ∧ s.awaitsGate ∧ s.sdc.slotDue.isSome = true ∧
        s.gcu.state = .counting ∧ s.gcu.mode = .split ∧ s.gcu.head = some s.drivenHead ∧ s.sdc.marker = false ∧
        (0 : BitVec 10).toNat < s.prof.sectors ∧ 66535 = s.pos.indexRef.getD s.now + 65535 ∧ 66535 - s.gcu.start ≤ 65535 ∧
        s.jct.ctx.probe = true ∧ s.drivenHead ≠ s.prof.anchor ∧ (0 : BitVec 10).toNat = 0 ∧
        defaultFigures.r ≤ s.jct.ctx.tally.pairs + 1 ∧ s.jct.ctx.tally.rh + 1 < (defaultFigures.r + 1) / 2 ∧
        0 < s.prof.retries) :=
  ⟨⟨skewUnderWay_of _ _ _ _ _ _ _ (by decide), awaitsGate_of _ (by decide), by decide⟩,
   ⟨skewUnderWay_of _ _ _ _ _ _ _ (by decide), awaitsGate_of _ (by decide), by decide⟩,
   ⟨skewUnderWay_of _ _ _ _ _ _ _ (by decide), awaitsGate_of _ (by decide), by decide⟩,
   ⟨skewUnderWay_of _ _ _ _ _ _ _ (by decide), awaitsGate_of _ (by decide), by decide⟩,
   ⟨skewUnderWay_of _ _ _ _ _ _ _ (by decide), by decide⟩,
   ⟨skewUnderWay_of _ _ _ _ _ _ _ (by decide), awaitsGate_of _ (by decide), by decide⟩,
   ⟨skewUnderWay_of _ _ _ _ _ _ _ (by decide), awaitsGate_of _ (by decide), by decide⟩,
   ⟨skewUnderWay_of _ _ _ _ _ _ _ (by decide), awaitsGate_of _ (by decide), by decide⟩,
   ⟨skewUnderWay_of _ _ _ _ _ _ _ (by decide), awaitsGate_of _ (by decide), by decide⟩,
   ⟨skewUnderWay_of _ _ _ _ _ _ _ (by decide), awaitsGate_of _ (by decide), by decide⟩,
   ⟨skewUnderWay_of _ _ _ _ _ _ _ (by decide), by decide⟩,
   ⟨skewUnderWay_of _ _ _ _ _ _ _ (by decide), onlyHeadZone_of _ _ _ _ (by decide), by decide⟩,
   ⟨skewUnderWay_of _ _ _ _ _ _ _ (by decide), onlyHeadZone_of _ _ _ _ (by decide), by decide⟩,
   ⟨skewUnderWay_of _ _ _ _ _ _ _ (by decide), awaitsGate_of _ (by decide), by decide⟩⟩

/-- The hypotheses of JobSubmitChecksAndQueues can be met, clause by clause. -/
theorem witness_JobSubmitChecksAndQueues :
    (quiet.LinkReady ∧ 4 + ([0] : List Byte).length + ([0] : List Byte).length + 3 * ([] : List (Byte × Half)).length
      ≤ 240 ∧ 2 < (3 : Byte).toNat ∧ (2 : Byte).toNat ≤ 2 ∧ ([3, 4] : List Byte) = [3] ++ 4 :: [] ∧ (∀ x ∈ ([3] : List
      Byte), x.toNat < quiet.prof.headCount) ∧ quiet.prof.headCount ≤ (4 : Byte).toNat) ∧
    ((∀ y ∈ ([(3, 0)] : List (Byte × Half)), y.1.toNat ≤ 3) ∧ (∀ x ∈ ([15] : List Byte), x.toNat <
      quiet.prof.zoneCount) ∧ quiet.prof.zoneCount ≤ (16 : Byte).toNat ∧ 3 < (4 : Byte).toNat) ∧
    (let s : State := jobsOf quiet (List.replicate 8 queuedJob);
      s.LinkReady ∧ 8 ≤ s.jct.table.length) ∧
    (let s : State := linesOf (quiet) (fun p => { p with selectBench := true });
      s.LinkReady ∧ s.jct.table.length < 8 ∧ s.jct.finished.length ≤ 8 ∧ 1 ≤ s.jct.nextId ∧ s.jct.nextId ≤ 255 ∧
      s.prof.zoneCount ≤ 24 ∧ s.flc.selectBench = true) ∧
    (quiet.LinkReady ∧ ([1] : List Byte) = 1 :: [] ∧ ([15] : List Byte) ≠ [] ∧ quiet.jct.table = [] ∧
      quiet.jct.finished.length ≤ 8 ∧ 1 ≤ quiet.jct.nextId ∧ quiet.jct.nextId ≤ 255 ∧ quiet.prof.zoneCount ≤ 24 ∧
      quiet.flc.selectBench = false ∧ quiet.flc.spindleBench = false ∧ quiet.chm.level ≠ .hot ∧
      quiet.pos.spindle = .stopped ∧
      quiet.hmp.working[(1 : Byte).toNat]? = some { excluded := false, zones := List.replicate 16 {} } ∧
      (0 : Byte).toNat = 0) ∧
    (let s : State := quiet;
      s.LinkReady ∧ (0 : Byte).toNat = s.prof.anchor ∧ 1 ≤ (2 : Byte).toNat ∧ (2 : Byte).toNat ≤ 2 ∧ (15 : Byte).toNat <
      s.prof.zoneCount ∧ s.jct.table = [] ∧ s.jct.finished.length ≤ 8 ∧ 1 ≤ s.jct.nextId ∧ s.jct.nextId ≤ 255 ∧
      s.prof.zoneCount ≤ 24 ∧ s.flc.selectBench = false ∧ s.flc.spindleBench = false ∧ s.chm.level ≠ .hot ∧
      s.hmp.working[(0 : Byte).toNat]? = some { excluded := false, zones := List.replicate 16 {} }) :=
  ⟨⟨linkReady_of _ (by decide), by decide⟩,
   ⟨by simp, by decide⟩,
   ⟨linkReady_of _ (by decide), by decide⟩,
   ⟨linkReady_of _ (by decide), by decide⟩,
   ⟨linkReady_of _ (by decide), by decide⟩,
   ⟨linkReady_of _ (by decide), by decide⟩⟩

/-- The hypotheses of SuspendAndResumeMoveTheBenchReason can be met, clause by clause. -/
theorem witness_SuspendAndResumeMoveTheBenchReason :
    (let s : State := jobOf (fly .following none) (collecting);
      s.LinkReady ∧ s.rtm.a.isRunning = true ∧ s.active = some collecting ∧ collecting.id = (1 : Byte).toNat ∧
      collecting.state = .running ∧ collecting.reasons.bench = false) ∧
    (let s : State :=
        jobOf (fly .following none) ({ collecting with state := .suspended, reasons := { bench := true, thermal := true } });
      s.LinkReady ∧ s.rtm.a.isRunning = true ∧ s.active = some
      { collecting with state := .suspended, reasons := { bench := true, thermal := true } }) ∧
    (let s : State :=
        jobOf (std .braking .parked) ({ collecting with state := .suspended, reasons := { bench := true } });
      s.LinkReady ∧ s.rtm.a.isRunning = true ∧ s.active = some
      { collecting with state := .suspended, reasons := { bench := true } } ∧ s.pos.spindle = .braking) ∧
    (let s : State := jobsOf (timedOf quiet) [queuedJob];
      s.LinkReady ∧ s.rtm.a.isRunning = true ∧ s.active = none ∧ queuedJob ∈ s.jct.table ∧ queuedJob.id = (2 :
      Byte).toNat ∧ (∀ j ∈ s.jct.table, j.id ≠ (9 : Byte).toNat) ∧ (∀ f ∈ s.jct.finished, f.id ≠ (9 : Byte).toNat)) ∧
    (let s : State := posOf (jobOf (fly .following none) collecting) (fun p => { p with silenceDue := some 2000 });
      s.rtm.a.isRunning = true ∧ s.inbox = [] ∧ s.pos.spindle = .atSpeed ∧ s.pos.silenceDue = some 2000 ∧
      s.pos.spinDownPending = false ∧ s.jct.table = [collecting] ∧ collecting.state = .running ∧
      collecting.reasons.spindle = false ∧ s.prof.speedRecoverMs ≠ 0) ∧
    (let s : State := (posOf (jobOf (fly .following none) collecting) (fun p => { p with silenceDue := some 2000 })).setPst
        { quiet.pst with profile := { speedRecoverMs := 0 } };
      s.rtm.a.isRunning = true ∧ s.inbox = [] ∧ s.pos.spindle = .atSpeed ∧ s.pos.silenceDue = some 2000 ∧
      s.pos.spinDownPending = false ∧ s.jct.table = [collecting] ∧ collecting.state = .running ∧
      collecting.reasons.spindle = false ∧ s.prof.speedRecoverMs = 0) ∧
    (let j : Job := { collecting with state := .suspended, reasons := { spindle := true } };
      let s : State := posOf (jobOf (fly .following none) j) (fun p => { p with silenceDue := some 2000 });
      s.rtm.a.isRunning = true ∧ s.inbox = [] ∧ s.pos.spindle = .atSpeed ∧ s.pos.silenceDue = some 2000 ∧
      s.pos.spinDownPending = false ∧ s.jct.table = [j] ∧ j.state = .suspended ∧ j.reasons.spindle = true) ∧
    (let j : Job := { collecting with state := .suspended, reasons := { bench := true, spindle := true } };
      let s : State := (posOf (fly .parked none) (fun p =>
        { p with spindle := .offSpeed, indexRef := some 1000, inTol := 3 })).setJct
          { quiet.jct with table := [j], recoverDue := some 600000000 };
      s.rtm.a.isRunning = true ∧ s.inbox = [] ∧ s.pos.spindle = .offSpeed ∧ s.pos.spinDownPending = false ∧
      s.pos.indexRef = some 1000 ∧ (1675000 : Nat) ≤ 4 * s.prof.nRevNom ∧
      ((1675000 : Int) - s.prof.nRevNom).natAbs * 1000 ≤ s.prof.speedTolPm * s.prof.nRevNom ∧ 3 ≤ s.pos.inTol ∧
      s.jct.recoverDue.isSome = true ∧ s.jct.table = [j] ∧ j.state = .suspended ∧ j.reasons.spindle = true ∧
      j.reasons.bench = true) ∧
    (let j : Job := { collecting with state := .suspended, reasons := { spindle := true } };
      let s : State := (posOf (fly .unloading (some .unload)) (fun p =>
        { p with spindle := .offSpeed, indexRef := some 1000, inTol := 3 })).setJct
          { quiet.jct with table := [j], recoverDue := some 600000000 };
      s.rtm.a.isRunning = true ∧ s.inbox = [] ∧ s.pos.spindle = .offSpeed ∧ s.pos.spinDownPending = false ∧
      s.pos.indexRef = some 1000 ∧ (1675000 : Nat) ≤ 4 * s.prof.nRevNom ∧
      ((1675000 : Int) - s.prof.nRevNom).natAbs * 1000 ≤ s.prof.speedTolPm * s.prof.nRevNom ∧ 3 ≤ s.pos.inTol ∧
      s.jct.recoverDue.isSome = true ∧ s.jct.table = [j] ∧ j.state = .suspended ∧ j.reasons.spindle = true ∧
      j.reasons.bench = false ∧ j.reasons.thermal = false ∧ j.cursor = some (at1 .collect 0) ∧ j.figures.isSome = true ∧
      (0 : Nat) < j.heads.length ∧ (0 : Nat) < j.zones.length ∧ s.pos.act = .unloading) ∧
    (let j : Job := { collecting with state := .suspended, reasons := { spindle := true } };
      let s : State := (posOf (fly .parked none) (fun p =>
        { p with spindle := .offSpeed, indexRef := some 1000, inTol := 3 })).setJct
          { quiet.jct with table := [j], recoverDue := some 600000000 };
      s.rtm.a.isRunning = true ∧ s.inbox = [] ∧ s.pos.spindle = .offSpeed ∧ s.pos.spinDownPending = false ∧
      s.pos.indexRef = some 1000 ∧ (1675000 : Nat) ≤ 4 * s.prof.nRevNom ∧
      ((1675000 : Int) - s.prof.nRevNom).natAbs * 1000 ≤ s.prof.speedTolPm * s.prof.nRevNom ∧ 3 ≤ s.pos.inTol ∧
      s.jct.recoverDue.isSome = true ∧ s.jct.table = [j] ∧ j.state = .suspended ∧ j.reasons.spindle = true ∧
      j.reasons.bench = false ∧ j.reasons.thermal = false ∧ j.cursor = some (at1 .collect 0) ∧ j.figures.isSome = true ∧
      (0 : Nat) < j.heads.length ∧ (0 : Nat) < j.zones.length ∧ s.pos.act = .parked ∧ s.flc.selectBench = false ∧
      s.preampView = .inactive) :=
  ⟨⟨linkReady_of _ (by decide), by decide⟩,
   ⟨linkReady_of _ (by decide), by decide⟩,
   ⟨linkReady_of _ (by decide), by decide⟩,
   ⟨linkReady_of _ (by decide), by decide⟩,
   by decide,
   by decide,
   by decide,
   by decide,
   by decide,
   by decide⟩

/-- The hypotheses of CancelAndRecoveryFinishJobs can be met, clause by clause. -/
theorem witness_CancelAndRecoveryFinishJobs :
    (let s : State := jobsOf (timedOf quiet) [collecting, queuedJob];
      s.LinkReady ∧ s.rtm.a.isRunning = true ∧ s.jct.table.find? (fun x => x.id == (2 : Byte).toNat) = some queuedJob
      ∧ queuedJob.state = .queued ∧ s.active = some collecting ∧ collecting.id ≠ queuedJob.id) ∧
    (let s : State := jobsOf (timedOf quiet) [queuedJob];
      s.LinkReady ∧ s.rtm.a.isRunning = true ∧ s.jct.table.find? (fun x => x.id == (2 : Byte).toNat) = some queuedJob
      ∧ queuedJob.state = .queued ∧ s.active = none ∧ s.jct.table = [queuedJob]) ∧
    (let s : State := jobsOf (linesOf (timedOf quiet) (fun p => { p with selectBench := true })) [queuedJob, { queuedJob with id := 3 }];
      s.LinkReady ∧ s.rtm.a.isRunning = true ∧ s.jct.table.find? (fun x => x.id == (2 : Byte).toNat) = some queuedJob
      ∧ queuedJob.state = .queued ∧ s.active = none ∧ s.flc.selectBench = true) ∧
    (let s : State := jobOf (fly .following none) (collecting);
      s.LinkReady ∧ s.rtm.a.isRunning = true ∧ s.jct.table.find? (fun x => x.id == (1 : Byte).toNat) = some collecting
      ∧ collecting.state ≠ .queued ∧ s.jct.table = [collecting]) ∧
    (let s : State := (timedOf quiet).setJct { quiet.jct with finished := [finished7] };
      s.LinkReady ∧ s.rtm.a.isRunning = true ∧ s.jct.table.find? (fun x => x.id == (7 : Byte).toNat) = none ∧
      finished7 ∈ s.jct.finished ∧ finished7.id = (7 : Byte).toNat ∧ (∀ f ∈ s.jct.finished, f.id ≠ (0 : Byte).toNat))
      ∧
    (let s : State :=
        (timedOf quiet).setJct { quiet.jct with table := [{ collecting with state := .suspended, reasons := { spindle := true } }], recoverDue := some 2000 };
      s.rtm.a.isRunning = true ∧ s.inbox = [] ∧ s.jct.recoverDue = some 2000 ∧ s.jct.table =
      [{ collecting with state := .suspended, reasons := { spindle := true } }]) ∧
    (let s : State := jobOf (fly .following none) collecting;
      s.rtm.a.isRunning = true ∧ s.inbox = [] ∧ s.flc.senseBench = false ∧ s.flc.livePreamp = .inactive ∧
      s.jct.table = [collecting] ∧ collecting.state ≠ .queued ∧ s.pos.act.isLoaded = true) ∧
    (let s : State := jobOf (fly .unloading (some .unload)) collecting;
      s.rtm.a.isRunning = true ∧ s.inbox = [] ∧ s.flc.senseBench = false ∧ s.flc.livePreamp = .inactive ∧
      s.jct.table = [collecting] ∧ collecting.state ≠ .queued ∧ s.pos.act.isLoaded = false) ∧
    (let s : State :=
        linesOf (measureOf (fly .unloading (some .unload)) (measuring .qualify .prepare 0 0) .load) (fun x =>
          { x with livePreamp := .active });
      MeasureUnderWay s (measuring .qualify .prepare 0 0) (at2 .prepare 0 0) defaultFigures 1 2 .prepare ∧
      s.rtm.a.isRunning = true ∧ s.jct.table = [measuring .qualify .prepare 0 0] ∧ s.pos.act = .unloading ∧
      s.pos.deadline = some { kind := .unload, due := 2000 } ∧ s.preampView = .active ∧ s.flc.selectBench = false) ∧
    (let s : State := measureOf (moving .loading (some .load) (some .load)) (measuring .span .prepare 1 0) .load;
      MeasureUnderWay s (measuring .span .prepare 1 0) (at2 .prepare 1 0) defaultFigures 1 2 .prepare ∧
      s.rtm.a.isRunning = true ∧ s.jct.table = [measuring .span .prepare 1 0] ∧ s.pos.act = .loading ∧
      s.pos.deadline = some { kind := .load, due := 2000 } ∧ s.jct.ctx.await = some .load ∧
      s.pos.actMove = some { kind := .load, owner := .job s.jct.attempt }) :=
  ⟨⟨linkReady_of _ (by decide), by decide⟩,
   ⟨linkReady_of _ (by decide), by decide⟩,
   ⟨linkReady_of _ (by decide), by decide⟩,
   ⟨linkReady_of _ (by decide), by decide⟩,
   ⟨linkReady_of _ (by decide), by decide⟩,
   by decide,
   by decide,
   by decide,
   ⟨measureUnderWay_of _ _ _ _ _ _ _ (by decide), by decide⟩,
   ⟨measureUnderWay_of _ _ _ _ _ _ _ (by decide), by decide⟩⟩

/-- The hypotheses of ResultReadMarksAndClears can be met, clause by clause. -/
theorem witness_ResultReadMarksAndClears :
    (let s : State := quiet.setJct { quiet.jct with finished := [finished7] };
      s.LinkReady ∧ s.jct.finished.find? (fun x => x.id == (7 : Byte).toNat) = some finished7 ∧ s.jct.finished.find?
      (fun x => !x.read) = some finished7) ∧
    (let s : State := jobsOf (quiet) [queuedJob];
      s.LinkReady ∧ s.jct.finished.find? (fun x => x.id == (2 : Byte).toNat) = none ∧ s.jct.table.find? (fun x => x.id
      == (2 : Byte).toNat) = some queuedJob ∧ s.jct.finished.find? (fun x => !x.read) = none) ∧
    (quiet.LinkReady ∧ quiet.jct.table.find? (fun x => x.id == (0 : Byte).toNat) = none) :=
  ⟨⟨linkReady_of _ (by decide), by decide⟩,
   ⟨linkReady_of _ (by decide), by decide⟩,
   ⟨linkReady_of _ (by decide), by decide⟩⟩

/-- The hypotheses of MapFlagsAndClearing can be met, clause by clause. -/
theorem witness_MapFlagsAndClearing :
    (quiet.LinkReady ∧ quiet.prof.headCount ≤ (4 : Byte).toNat ∧ (3 : Byte).toNat < quiet.prof.headCount ∧
      quiet.hmp.working[3]? = some { excluded := false, zones := List.replicate 16 {} } ∧ (0 : Byte).toNat =
      quiet.prof.anchor ∧ (3 : Byte).toNat ≠ quiet.prof.anchor ∧ quiet.active = none) ∧
    (let s : State := jobOf (quiet) (collecting);
      s.LinkReady ∧ s.active = some collecting) :=
  ⟨⟨linkReady_of _ (by decide), by decide⟩,
   ⟨linkReady_of _ (by decide), by decide⟩⟩

/-- The hypotheses of MapPublishChecksEveryHead can be met, clause by clause. -/
theorem witness_MapPublishChecksEveryHead :
    (excludedMap.LinkReady ∧ (∀ r ∈ excludedMap.hmp.working, HeadPasses excludedMap.prof r)) ∧
    (quiet.LinkReady ∧ ¬∀ r ∈ quiet.hmp.working, HeadPasses quiet.prof r) :=
  ⟨⟨linkReady_of _ (by decide), fun r hr => .inl ((List.eq_of_mem_replicate hr) ▸ rfl)⟩,
   ⟨linkReady_of _ (by decide), fun h => by
    have hn := h _ (List.mem_cons_self ..)
    rcases hn with hx | ⟨hq, _⟩
    · exact absurd hx (by decide)
    · exact absurd hq (by decide)⟩⟩

/-- The hypotheses of HeatTickDecaysHoldsAndLevels can be met, clause by clause. -/
theorem witness_HeatTickDecaysHoldsAndLevels :
    (let s : State := warmth .cool 0 0;
      0 = s.chm.heat - s.chm.heat * s.prof.decayQ8 / 256 ∧ (8 = if s.pos.act.isLoaded then min 65535 (0 +
      s.prof.holdCost) else 0) ∧ s.chm.level = .cool) ∧
    (let s : State := warmth .warm 48600 0;
      48031 = s.chm.heat - s.chm.heat * s.prof.decayQ8 / 256 ∧ s.prof.hotOn ≤ 48031 + s.prof.holdCost ∧ s.chm.level =
      .warm) ∧
    (let s : State := warmth .hot 40000 299;
      39532 = s.chm.heat - s.chm.heat * s.prof.decayQ8 / 256 ∧ 39532 + s.prof.holdCost < s.prof.hotOff ∧ s.chm.level =
      .hot) ∧
    (let s : State := jobOf (warmth .warm 48600 0) collecting;
      s.inbox = [] ∧ s.chm.level = .warm ∧ s.running = some collecting ∧ s.active = some collecting ∧
      collecting.reasons.thermal = false ∧ 48031 = s.chm.heat - s.chm.heat * s.prof.decayQ8 / 256 ∧ s.pos.act.isLoaded = true ∧
      s.prof.hotOn ≤ 48031 + s.prof.holdCost) :=
  ⟨by decide,
   by decide,
   by decide,
   by decide⟩

/-- The hypotheses of HeatCountsReleaseAndUnload can be met, clause by clause. -/
theorem witness_HeatCountsReleaseAndUnload :
    (let s : State :=
        posOf (heatOf (fly .following none) .warm 4) (fun p => { p with held := some { track := 100, offset := 0, owner := .bench } });
      s.NoJobs ∧ s.chm.level = .warm ∧ s.pos.act = .following ∧ s.pos.held = some
      { track := 100, offset := 0, owner := .bench } ∧ s.prof.paceTicks ≤ s.chm.pace + 1 ∧ s.prof.paceTicks ≤ 65535) ∧
    (let s : State :=
        posOf (heatOf (fly .settling (some .settle)) .warm 4) (fun p => { p with held := some { track := 100, offset := 0, owner := .bench } });
      s.NoJobs ∧ s.chm.level = .warm ∧ s.pos.act = .settling ∧ s.pos.held = some
      { track := 100, offset := 0, owner := .bench } ∧ s.prof.paceTicks ≤ s.chm.pace + 1 ∧ s.prof.paceTicks ≤ 65535) ∧
    (let s : State := warmth .hot 45000 299;
      s.NoJobs ∧ s.chm.level = .hot ∧ s.pos.act.isLoaded = true ∧ s.prof.hotParkTicks ≤ s.chm.hot + 1 ∧ s.rampView =
      .offRamp) :=
  ⟨⟨noJobs_of _ (by decide), by decide⟩,
   ⟨noJobs_of _ (by decide), by decide⟩,
   ⟨noJobs_of _ (by decide), by decide⟩⟩

/-- The hypotheses of RestTimerExpiryTestsTheRestCondition can be met, clause by clause. -/
theorem witness_RestTimerExpiryTestsTheRestCondition :
    (let s : State := fly .following none;
      s.inbox = [] ∧ s.rtm.a.due = some 2000 ∧ s.rtm.b.due = none ∧ s.pos.act = .following ∧ s.running = none ∧
      s.rampView = .offRamp) ∧
    (let s : State := fly .settling (some .settle);
      s.rtm.a.due = some 2000 ∧ s.pos.act ≠ .following) ∧
    (let s : State := (fly .following none).setRtm { quiet.rtm with b := { preset := 5, due := some 2000 } };
      s.inbox = [] ∧ s.rtm.b.due = some 2000 ∧ s.rtm.a.due = none ∧ s.pos.act = .following ∧ s.running = none ∧
      s.rampView = .offRamp) ∧
    (let s : State := jobOf (fly .following none) (collecting);
      s.rtm.a.due = some 2000 ∧ s.running.isSome = true) :=
  ⟨by decide,
   by decide,
   by decide,
   by decide⟩

/-- The hypotheses of RestWriteReplacesPresetsAndTable can be met, clause by clause. -/
theorem witness_RestWriteReplacesPresetsAndTable :
    (quiet.LinkReady ∧ ([0, 1, 2, 0, 1, 2, 0] : List Byte).length = 7 ∧ 250 = max 250 (min 60000 (249 : Quad).toNat) ∧
      60000 = max 250 (min 60000 (60001 : Quad).toNat) ∧ 600000 = min 600000 (600001 : Quad).toNat ∧ ([3, 1, 2, 0, 1,
      2, 0] : List Byte) = [] ++ 3 :: [1, 2, 0, 1, 2, 0] ∧ 2 < (3 : Byte).toNat ∧ (∀ y ∈ ([0, 1, 2, 0, 1, 2, 0] : List
      Byte), y.toNat ≤ 2) ∧ quiet.running = none ∧ quiet.pos.act ≠ .following) ∧
    (let s : State := (fly .following none).setRtm { quiet.rtm with b := { preset := 5, due := some 2000 } };
      s.LinkReady ∧ s.running = none ∧ s.rampView = .offRamp ∧ s.pos.act = .following ∧ s.rtm.b.due.isSome = true ∧
      s.rtm.a.due = none) ∧
    (let s : State := jobOf (fly .following none) collecting;
      s.LinkReady ∧ s.running.isSome = true ∧ s.pos.act = .following) :=
  ⟨⟨linkReady_of _ (by decide), by decide⟩,
   ⟨linkReady_of _ (by decide), by decide⟩,
   ⟨linkReady_of _ (by decide), by decide⟩⟩

/-- The hypotheses of LinesWriteChecksAndPassesGroups can be met, clause by clause. -/
theorem witness_LinesWriteChecksAndPassesGroups :
    (quiet.LinkReady ∧ quiet.NoJobs ∧ 2 < (3 : Byte).toNat ∧ (2 : Byte).toNat ≤ 2 ∧ 1 < (2 : Byte).toNat ∧
      quiet.prof.headCount ≤ (4 : Byte).toNat ∧ (3 : Byte).toNat < quiet.prof.headCount ∧ quiet.pos.act = .parked ∧
      quiet.flc.spindleBench = false ∧ quiet.pos.spindle = .stopped ∧ quiet.flc.senseBench = false ∧
      quiet.flc.selectBench = false ∧ quiet.sdc.marker = false) ∧
    (let s : State := fly .following none;
      s.LinkReady ∧ s.NoJobs ∧ s.flc.selectBench = false ∧ s.pos.act ≠ .parked) ∧
    (let s : State := std .braking .parked;
      s.LinkReady ∧ s.NoJobs ∧ s.flc.spindleBench = false ∧ s.pos.spindle ≠ .stopped) ∧
    (let s : State := std .stopped .unloading;
      s.LinkReady ∧ s.NoJobs ∧ s.flc.spindleBench = false ∧ s.pos.spindle = .stopped ∧ s.pos.act ≠ .parked) ∧
    (let s : State := linesOf (quiet) (fun p => { p with selectBench := true, spindleBench := true, senseBench := true });
      s.LinkReady ∧ s.NoJobs ∧ s.flc.selectBench = true ∧ s.pos.act = .parked ∧ s.flc.spindleBench = true ∧
      s.flc.senseBench = true ∧ s.window = none) ∧
    (let s : State := linesOf (fly .unloading (some .unload)) (fun p =>
        { p with senseBench := true, heldRamp := .offRamp, liveRamp := .onRamp });
      s.LinkReady ∧ s.NoJobs ∧ s.flc.senseBench = true ∧ s.pos.act = .unloading ∧ s.flc.heldRamp = .offRamp ∧
      s.flc.liveRamp = .onRamp) ∧
    (let s : State := linesOf (fly .following none) (fun p =>
        { p with senseBench := true, heldRamp := .offRamp, livePreamp := .active });
      s.LinkReady ∧ s.NoJobs ∧ s.flc.senseBench = true ∧ s.pos.act.isLoaded = true ∧ s.flc.heldPreamp = .inactive ∧
      s.flc.livePreamp = .active ∧ s.flc.liveRamp = .offRamp) ∧
    (let s : State := linesOf (fly .following none) (fun p =>
        { p with senseBench := true, heldRamp := .offRamp, liveRamp := .onRamp, livePreamp := .active });
      s.LinkReady ∧ s.NoJobs ∧ s.flc.senseBench = true ∧ s.pos.act.isLoaded = true ∧ s.flc.heldPreamp = .inactive ∧
      s.flc.livePreamp = .active ∧ s.flc.liveRamp = .onRamp) :=
  ⟨⟨linkReady_of _ (by decide), noJobs_of _ (by decide), by decide⟩,
   ⟨linkReady_of _ (by decide), noJobs_of _ (by decide), by decide⟩,
   ⟨linkReady_of _ (by decide), noJobs_of _ (by decide), by decide⟩,
   ⟨linkReady_of _ (by decide), noJobs_of _ (by decide), by decide⟩,
   ⟨linkReady_of _ (by decide), noJobs_of _ (by decide), by decide⟩,
   ⟨linkReady_of _ (by decide), noJobs_of _ (by decide), by decide⟩,
   ⟨linkReady_of _ (by decide), noJobs_of _ (by decide), by decide⟩,
   ⟨linkReady_of _ (by decide), noJobs_of _ (by decide), by decide⟩⟩

/-- The hypotheses of StartupReadEndsInFourWays can be met, clause by clause. -/
theorem witness_StartupReadEndsInFourWays :
    (let s : State := State.reset;
      s.inbox = [] ∧ s.pst.state = .starting ∧ s.pst.loadDue = some 100000000 ∧ ∀ x ∈ s.pst.memory, x = 0xFF) ∧
    (let s : State := State.reset.setMemory (stored {});
      s.inbox = [] ∧ s.pst.state = .starting ∧
        s.pst.memory = ({} : Profile).record ++ leBytes 2 (checkWord ({} : Profile).record).toNat ++
          List.replicate 32 0xFF ∧
        ({} : Profile).record.length = 96 + 4 * leNat (fieldBytes ({} : Profile).record 2 2) ∧
        parseProfile ({} : Profile).record = .ok {}) ∧
    (let p : Profile := { headCount := 21 };
      State.reset.inbox = [] ∧ State.reset.pst.state = .starting ∧
        formMemory p.record (checkWord p.record) ++
            List.replicate (194 - (formMemory p.record (checkWord p.record)).length) 0xFF =
          p.record ++ leBytes 2 (checkWord p.record).toNat ++ List.replicate 32 0xFF ∧
        p.record.length = 96 + 4 * leNat (fieldBytes p.record 2 2) ∧ parseProfile p.record = .error (.value 0)) ∧
    ((0xFFFF : Half) ≠ checkWord ({} : Profile).record ∧ quiet.inbox = [] ∧ quiet.pst.state ≠ .starting) :=
  ⟨by decide,
   by decide,
   by decide,
   by decide⟩

/-- The hypotheses of ProfileWriteChecksAndAccepts can be met, clause by clause. -/
theorem witness_ProfileWriteChecksAndAccepts :
    (let s : State := jobsOf (quiet) [queuedJob];
      s.LinkReady ∧ s.jct.table = queuedJob :: []) ∧
    (let s : State := fly .following none;
      s.LinkReady ∧ s.jct.table = [] ∧ s.pos.act ≠ .parked) ∧
    (let s : State := savingOf quiet .erase;
      s.LinkReady ∧ s.jct.table = [] ∧ s.pos.act = .parked ∧ s.pst.save.isSome = true) ∧
    (quiet.LinkReady ∧ quiet.jct.table = [] ∧ quiet.pos.act = .parked ∧ quiet.pst.save = none ∧ ([0, 0, 0] : List
      Byte).length ≤ 240 ∧ ({} : Profile).record.length ≤ 240 ∧ parseProfile ({} : Profile).record = .ok {} ∧
      parseProfile [0, 0, 0] = .error .length ∧ parseProfile [0, 0, 0, 0] = .error (.value 1) ∧
      ({} : Profile).fields[45]? = some 300 ∧ fieldRanges[45]? = some (10, 6000)) ∧
    (let s : State := heatOf (std .atSpeed .parked) .warm 0;
      s.LinkReady ∧ s.jct.table = [] ∧ s.pos.act = .parked ∧ s.pst.save = none ∧ s.pos.spindle = .atSpeed ∧
      nextLevel {} s.chm.level s.chm.heat ≠ s.chm.level) ∧
    (([0, 0, 0] : List Byte).length < 4 ∧ u16At [0, 0, 0] 2 = 0) ∧
    (let b : List Byte := [4, 0, 25, 0];
      4 ≤ b.length ∧ b.length ≤ 240 ∧ 24 < u16At b 2) ∧
    (let b : List Byte := [4, 0, 24, 0];
      4 ≤ b.length ∧ b.length ≤ 240 ∧ u16At b 2 = 24 ∧ b.length ≠ 96 + 4 * 24) ∧
    (let b : List Byte := ({ headCount := 0 } : Profile).record;
      (u16At b 2 = 16 ∧ b.length = 96 + 4 * 16) ∧ (∀ k, k < 0 → FieldInRange b k) ∧ ¬FieldInRange b 0) ∧
    (let b : List Byte := ({ jogCentre := -4097 } : Profile).record;
      (u16At b 2 = 16 ∧ b.length = 96 + 4 * 16) ∧ (∀ k, k < 13 → FieldInRange b k) ∧ ¬FieldInRange b 13) ∧
    (let b : List Byte := ({ hotParkTicks := 6001 } : Profile).record;
      (u16At b 2 = 16 ∧ b.length = 96 + 4 * 16) ∧ (∀ k, k < 45 → FieldInRange b k) ∧ ¬FieldInRange b 45) ∧
    (let b : List Byte := ({ zoneTracks := List.replicate 15 5 ++ [262144] } : Profile).record;
      (u16At b 2 = 16 ∧ b.length = 96 + 4 * 16) ∧ (∀ i, i < 46 → FieldInRange b i) ∧ (∀ k, k < 15 → payloadTrack b k ≤ 262143) ∧
      262143 < payloadTrack b 15) ∧
    (let b : List Byte := ({ anchor := 4 } : Profile).record;
      (u16At b 2 = 16 ∧ b.length = 96 + 4 * 16) ∧ (∀ i, i < 46 → FieldInRange b i) ∧ (∀ z, z < 16 → payloadTrack b z ≤ 262143) ∧
      ¬CrossHolds b 1) ∧
    (let b : List Byte := ({ sectors := 64 } : Profile).record;
      (u16At b 2 = 16 ∧ b.length = 96 + 4 * 16) ∧ (∀ i, i < 46 → FieldInRange b i) ∧ (∀ z, z < 16 → payloadTrack b z ≤ 262143) ∧
      CrossHolds b 1 ∧ ¬CrossHolds b 2) ∧
    (let b : List Byte := ({ warmOff := 32000 } : Profile).record;
      (u16At b 2 = 16 ∧ b.length = 96 + 4 * 16) ∧ (∀ i, i < 46 → FieldInRange b i) ∧ (∀ z, z < 16 → payloadTrack b z ≤ 262143) ∧
      CrossHolds b 1 ∧ CrossHolds b 2 ∧ ¬CrossHolds b 3) ∧
    (let b : List Byte := ({ warmOn := 40001 } : Profile).record;
      (u16At b 2 = 16 ∧ b.length = 96 + 4 * 16) ∧ (∀ i, i < 46 → FieldInRange b i) ∧ (∀ z, z < 16 → payloadTrack b z ≤ 262143) ∧
      CrossHolds b 1 ∧ CrossHolds b 2 ∧ CrossHolds b 3 ∧ ¬CrossHolds b 4) ∧
    (let b : List Byte := ({ hotOff := 48000 } : Profile).record;
      (u16At b 2 = 16 ∧ b.length = 96 + 4 * 16) ∧ (∀ i, i < 46 → FieldInRange b i) ∧ (∀ z, z < 16 → payloadTrack b z ≤ 262143) ∧
      CrossHolds b 1 ∧ CrossHolds b 2 ∧ CrossHolds b 3 ∧ CrossHolds b 4 ∧ ¬CrossHolds b 5) ∧
    (let b : List Byte := ({ zoneTracks := List.replicate 16 200001 } : Profile).record;
      (u16At b 2 = 16 ∧ b.length = 96 + 4 * 16) ∧ (∀ i, i < 46 → FieldInRange b i) ∧ (∀ z, z < 16 → payloadTrack b z ≤ 262143) ∧ (∀ k, k < 6 → CrossHolds b k) ∧
      (∀ k, k < 0 → TrackFits b k) ∧ ¬TrackFits b 0) ∧
    (let b : List Byte := ({ zoneTracks := (List.range 15).map (fun x => 10 * x + 5) ++ [145] } : Profile).record;
      (u16At b 2 = 16 ∧ b.length = 96 + 4 * 16) ∧ (∀ i, i < 46 → FieldInRange b i) ∧ (∀ z, z < 16 → payloadTrack b z ≤ 262143) ∧ (∀ k, k < 6 → CrossHolds b k) ∧
      (∀ k, k < 15 → TrackFits b k) ∧ ¬TrackFits b 15) ∧
    (let b : List Byte := ({} : Profile).record;
      (u16At b 2 = 16 ∧ b.length = 96 + 4 * 16) ∧ (∀ i, i < 46 → FieldInRange b i) ∧ (∀ z, z < 16 → payloadTrack b z ≤ 262143) ∧ (∀ k, k < 6 → CrossHolds b k) ∧
      (∀ z, z < 16 → TrackFits b z)) :=
  ⟨⟨linkReady_of _ (by decide), by decide⟩,
   ⟨linkReady_of _ (by decide), by decide⟩,
   ⟨linkReady_of _ (by decide), by decide⟩,
   ⟨linkReady_of _ (by decide), by decide⟩,
   ⟨linkReady_of _ (by decide), by decide⟩,
   by decide,
   by decide,
   by decide,
   ⟨by decide, fieldsInRange_of _ _ (by decide), fieldOutside_of _ _ ((fieldRanges[0]?).getD (0, 0)) (by decide)⟩,
   ⟨by decide, fieldsInRange_of _ _ (by decide), fieldOutside_of _ _ ((fieldRanges[13]?).getD (0, 0)) (by decide)⟩,
   ⟨by decide, fieldsInRange_of _ _ (by decide), fieldOutside_of _ _ ((fieldRanges[45]?).getD (0, 0)) (by decide)⟩,
   ⟨by decide, fieldsInRange_of _ _ (by decide), by decide⟩,
   ⟨by decide, fieldsInRange_of _ _ (by decide), by decide, by unfold CrossHolds; decide⟩,
   ⟨by decide, fieldsInRange_of _ _ (by decide), by decide, by unfold CrossHolds; decide⟩,
   ⟨by decide, fieldsInRange_of _ _ (by decide), by decide, by unfold CrossHolds; decide⟩,
   ⟨by decide, fieldsInRange_of _ _ (by decide), by decide, by unfold CrossHolds; decide⟩,
   ⟨by decide, fieldsInRange_of _ _ (by decide), by decide, by unfold CrossHolds; decide⟩,
   ⟨by decide, fieldsInRange_of _ _ (by decide), by decide, by unfold CrossHolds; decide, by unfold TrackFits; decide⟩,
   ⟨by decide, fieldsInRange_of _ _ (by decide), by decide, by unfold CrossHolds; decide, by unfold TrackFits; decide⟩,
   ⟨by decide, fieldsInRange_of _ _ (by decide), by decide, by unfold CrossHolds; decide, by unfold TrackFits; decide⟩⟩

/-- The hypotheses of SavingRunsThroughItsStages can be met, clause by clause. -/
theorem witness_SavingRunsThroughItsStages :
    (let s : State := savingOf quiet .erase;
      s.LinkReady ∧ s.inbox = [] ∧ s.pst.save = some { stage := .erase, due := 2000 } ∧ s.pst.late = 0) ∧
    (let s : State := savingOf quiet .record;
      s.LinkReady ∧ s.inbox = [] ∧ s.pst.save = some { stage := .record, due := 2000 } ∧ s.pst.late = 0) ∧
    (let s : State := savingOf quiet .checkWord;
      s.LinkReady ∧ s.inbox = [] ∧ s.pst.save = some { stage := .checkWord, due := 2000 } ∧ s.pst.late = 0 ∧
      s.prof.record.length + 2 ≤ s.pst.memory.length) ∧
    (let s : State := (savingOf quiet .erase).setPst { (savingOf quiet .erase).pst with late := 1 };
      s.inbox = [] ∧ s.pst.save = some { stage := .erase, due := 2000 } ∧ 0 < s.pst.late) ∧
    (quiet.LinkReady ∧ quiet.inbox = [] ∧ quiet.pst.save = none ∧
      ({} : Profile).record.length = 96 + 4 * leNat (fieldBytes ({} : Profile).record 2 2)) :=
  ⟨⟨linkReady_of _ (by decide), by decide⟩,
   ⟨linkReady_of _ (by decide), by decide⟩,
   ⟨linkReady_of _ (by decide), by decide⟩,
   by decide,
   ⟨linkReady_of _ (by decide), by decide⟩⟩

/-- The hypotheses of FrameBytesOfferTheFrame can be met, clause by clause. -/
theorem witness_FrameBytesOfferTheFrame :
    (List.replicate 240 (0 : Byte)).length ≤ 240 ∧ quiet.blk.asm = huntAsm ∧ quiet.inbox = [] ∧ quiet.blk.waiting = []
      :=
  by decide

/-- The hypotheses of AssemblerTakesBytesByState can be met, clause by clause. -/
theorem witness_AssemblerTakesBytesByState :
    (quiet.inbox = [] ∧ quiet.blk.waiting = [] ∧ quiet.blk.asm.state = .hunt ∧ (0xC2 : Byte) ≠ 0xC3) ∧
    (let s : State := asmOf .length [];
      s.blk.asm.state = .length ∧ (240 : Byte).toNat ≤ 240 ∧ 240 < (241 : Byte).toNat ∧ s.blk.asm.gapDue = some 2000)
      ∧
    (let s : State := asmOf .body [];
      s.blk.asm.state = .body ∧ s.blk.asm.got.length + 1 ≠ s.blk.asm.len + 2) ∧
    (let s : State := asmOf .body [1];
      s.blk.asm.state = .body ∧ s.blk.asm.got.length + 1 = s.blk.asm.len + 2) ∧
    (let s : State := asmOf .check [1, 2];
      s.blk.asm.state = .check ∧ crc8 (byteOf s.blk.asm.len :: s.blk.asm.got) ≠ 0) :=
  ⟨by decide,
   by decide,
   by decide,
   by decide,
   by decide⟩

/-- The hypotheses of DecoderRefusesInOrder can be met, clause by clause. -/
theorem witness_DecoderRefusesInOrder :
    (let s : State := State.reset;
      s.inbox = [] ∧ s.blk.waiting = [] ∧ s.blk.sending = none ∧ s.blk.buffer = [] ∧ s.pst.state = .starting ∧
      requestFrame (.seek 9 0 0) = some { kind := 0x24, tag := 9, payload := [0, 0, 0, 0, 0, 0] } ∧
      (0x24 : Byte).toNat = RequestKind.code .seek ∧
      requestFrame (.requestUnknownKind 0x0C 5 []) = some unknownFrame ∧ (0x0C : Byte).toNat ∉ knownKinds) ∧
    (quiet.inbox = [] ∧ quiet.blk.waiting = [] ∧ quiet.blk.sending = none ∧ quiet.blk.buffer = [] ∧ quiet.pst.state ≠
      .starting ∧ requestFrame (.restWrite 9 0 0 [1]) =
        some { kind := 0x2A, tag := 9, payload := [0, 0, 0, 0, 0, 0, 0, 0, 1] } ∧
      (0x2A : Byte).toNat = RequestKind.code .restWrite ∧ RequestKind.fixedLength .restWrite = some 15 ∧
      ([0, 0, 0, 0, 0, 0, 0, 0, 1] : List Byte).length ≠ 15) ∧
    (let s : State := linkOf quiet 4 none [];
      s.inbox = [] ∧ s.blk.waiting = [] ∧ 4 ≤ s.blk.buffer.length) ∧
    (let s : State := linkOf quiet 3 (some (ack false)) [];
      s.inbox = [] ∧ s.blk.waiting = [] ∧ s.blk.sending = some (ack false) ∧ (ack false).isReply = true ∧
      s.blk.buffer.length < 4) :=
  ⟨by decide,
   by decide,
   by decide,
   by decide⟩

/-- The hypotheses of ReadsAnswerAndClearTheirEvent can be met, clause by clause. -/
theorem witness_ReadsAnswerAndClearTheirEvent :
    (quiet.LinkReady ∧ 1 < (2 : Byte).toNat ∧ (1 : Byte).toNat ≤ 1 ∧ quiet.prof.headCount ≤ (4 : Byte).toNat ∧ (3 :
      Byte).toNat < quiet.prof.headCount ∧ quiet.prof.zoneCount ≤ (16 : Byte).toNat ∧ (15 : Byte).toNat <
      quiet.prof.zoneCount ∧ quiet.active = none ∧ quiet.window = none ∧ quiet.gcu.state ≠ .counting) ∧
    (let s : State := gateOf (skewState .period 0 false true) .counting .chained 0 none;
      s.LinkReady ∧ s.active = some (skewing .period 0) ∧ (skewing .period 0).cursor = some (at1 .period 0) ∧
      s.gcu.state = .counting ∧ s.gcu.mode = .chained ∧ s.now - s.gcu.start ≤ 4294967295) ∧
    (let s : State := gateOf (skewState .gateA 0 false true) .counting .split 2 (some 0);
      s.LinkReady ∧ s.gcu.state = .counting ∧ s.gcu.mode = .split ∧ s.now - s.gcu.start ≤ 65535) ∧
    (let s : State := (jobOf (fly .following none) collecting).setWindow (some lastTurn);
      s.LinkReady ∧ s.window = some lastTurn) ∧
    (quiet.LinkReady ∧ (1 : Byte).toNat ≤ 1 ∧ (3 : Byte).toNat < quiet.prof.headCount ∧
      (if (1 : Byte) = 0 then quiet.hmp.working else quiet.hmp.published)[(3 : Byte).toNat]? =
        some { excluded := false, zones := List.replicate 16 {} } ∧
      (List.replicate 16 ({} : ZoneSlots)).length = quiet.prof.zoneCount ∧
      (List.replicate 16 ({} : ZoneSlots))[(15 : Byte).toNat]? = some {}) :=
  ⟨⟨linkReady_of _ (by decide), by decide⟩,
   ⟨linkReady_of _ (by decide), by decide⟩,
   ⟨linkReady_of _ (by decide), by decide⟩,
   ⟨linkReady_of _ (by decide), by decide⟩,
   ⟨linkReady_of _ (by decide), by decide⟩⟩

/-- The hypotheses of MaskCountersAndResetRequests can be met, clause by clause. -/
theorem witness_MaskCountersAndResetRequests :
    quiet.LinkReady ∧ 128 ≤ (128 : Byte).toNat ∧ (127 : Byte).toNat < 128 ∧ quiet.prof.headCount ≤ (4 : Byte).toNat ∧
      (3 : Byte).toNat < quiet.prof.headCount :=
  ⟨linkReady_of _ (by decide), by decide⟩

/-- The hypotheses of TransmitterSendsInOrder can be met, clause by clause. -/
theorem witness_TransmitterSendsInOrder :
    (let s : State := linkOf quiet 0 (some (ack false)) [];
      s.inbox = [] ∧ s.blk.sending = some (ack false) ∧ (ack false).reset = false ∧ s.blk.buffer = [] ∧ s.blk.waiting
      = []) ∧
    (let s : State := linkOf quiet 0 (some (ack false)) [.notice .motion];
      s.inbox = [] ∧ s.blk.sending = some (ack false) ∧ s.blk.buffer = [] ∧ s.blk.waiting = .notice .motion :: []) ∧
    (let s : State := linkOf quiet 1 (some (ack false)) [.notice .motion, .reply unknownFrame false];
      s.inbox = [] ∧ s.blk.sending = some (ack false) ∧ s.blk.waiting = .notice .motion :: [.reply unknownFrame false] ∧
      ∃ w ∈ [Waiting.reply unknownFrame false], w.isReply = true) ∧
    (let s : State := linkOf quiet 1 (some (ack false)) [.reply unknownFrame true, .notice .link];
      s.inbox = [] ∧ s.blk.sending = some (ack false) ∧ s.blk.waiting = .reply unknownFrame true :: [.notice .link]) ∧
    (let s : State := linkOf quiet 1 (some (ack false)) [];
      s.inbox = [] ∧ s.blk.sending = some (ack false) ∧ s.blk.buffer = unknownFrame :: [] ∧ s.blk.waiting = [] ∧
      unknownFrame.kind.toNat ∉ knownKinds ∧ s.pst.state ≠ .starting) ∧
    (let s : State := linkOf quiet 1 (some (ack false)) [.notice .motion];
      s.inbox = [] ∧ s.blk.sending = some (ack false) ∧ s.blk.buffer = unknownFrame :: [] ∧
      s.blk.waiting = .notice .motion :: [] ∧ s.pst.state ≠ .starting) ∧
    (let s : State := jobOf ({ fly .following none with
          chm := { quiet.chm with last := some { before := .cool, after := .warm, cause := .tick } }
          blk := { quiet.blk with lastFault := some { fault := .gap, kind := none, tag := none } } }) collecting;
      s.active = some collecting ∧ (s.setJct { s.jct with finished := [finished7] }).jct.finished.getLast? = some finished7 ∧
      s.chm.last = some { before := .cool, after := .warm, cause := .tick } ∧
      s.blk.lastFault = some { fault := .gap, kind := none, tag := none } ∧ quiet.active = none) :=
  ⟨by decide,
   by decide,
   by decide,
   by decide,
   by decide,
   by decide,
   by decide⟩

/-- The hypotheses of ProfileRecordReadsBack can be met, clause by clause. -/
theorem witness_ProfileRecordReadsBack :
    ({} : Profile).fault = none ∧ ({} : Profile).zoneTracks.length = ({} : Profile).zoneCount :=
  by decide

end Sys2Proof.Tests
end

section
/-! PROOF. Every step keeps the laws of motion: each request's handler, the Bench Link around it and each delivery keeps them
(the operations of the Positioner stand in Laws/Motion and Laws/MotionKept). -/

namespace Sys2Proof.Machine

variable {s t : State}

/-! ## The requests -/

theorem MotionLaw.clearEvent {k : EventKind} (h : MotionLaw s) : MotionLaw (s.clearEvent k) := h.setBlk

theorem MotionLaw.lookUnread (h : MotionLaw s) : MotionLaw s.lookUnread := by
  unfold State.lookUnread
  split
  · exact h.clearEvent
  · exact h

theorem MotionLaw.reqLinkRead {n : Nat} (h : MotionLaw s) : MotionLaw (s.reqLinkRead n).2 := by
  unfold State.reqLinkRead
  split
  · exact h
  · dsimp only
    split
    · exact h.clearEvent.setBlk
    · exact h.clearEvent

theorem MotionLaw.reqResultRead {a b : Nat} (h : MotionLaw s) : MotionLaw (s.reqResultRead a b).2 := by
  refine MotionLaw.lookUnread ?_
  split
  · unfold State.resultById
    split
    · exact h.setJct
    · split <;> exact h
  · split
    · unfold State.resultOldest
      split
      · exact h.setJct
      · exact h
    · exact h

theorem MotionLaw.reqMapRead {a b c d : Nat} (h : MotionLaw s) : MotionLaw (s.reqMapRead a b c d).2 := by
  unfold State.reqMapRead
  repeat' split
  all_goals exact h

theorem MotionLaw.reqJobSubmit {p : List Byte} (h : MotionLaw s) : MotionLaw (s.reqJobSubmit p).2 := by
  unfold State.reqJobSubmit
  split
  · exact h
  · dsimp only
    split
    · exact h
    · exact MotionLaw.setInbox h.setJct

theorem MotionLaw.noJob {n : Nat} (h : MotionLaw s) : MotionLaw (s.noJob n).2 := by
  unfold State.noJob
  split <;> exact h

theorem MotionLaw.heldAck (h : MotionLaw s) : MotionLaw s.heldAck.2 := by
  unfold State.heldAck
  split <;> exact h

theorem MotionLaw.reqJobCancel {n : Nat} (h : MotionLaw s) : MotionLaw (s.reqJobCancel n).2 := by
  unfold State.reqJobCancel
  split
  · exact (finishJob_work _ _ _ _).motionLaw h
  · exact h.noJob

theorem MotionLaw.reqJobSuspend {n : Nat} (h : MotionLaw s) : MotionLaw (s.reqJobSuspend n).2 := by
  unfold State.reqJobSuspend
  split
  · exact MotionLaw.heldAck ((addReason_work _ _).motionLaw h)
  · exact h.noJob

theorem MotionLaw.reqJobResume {n : Nat} (h : MotionLaw s) : MotionLaw (s.reqJobResume n).2 := by
  unfold State.reqJobResume
  split
  · exact MotionLaw.heldAck ((dropReason_work _ _).motionLaw h)
  · exact h.noJob

theorem MotionLaw.reqMapPublish (h : MotionLaw s) : MotionLaw s.reqMapPublish.2 := by
  unfold State.reqMapPublish
  split
  · exact h
  · exact h.setHmp

theorem MotionLaw.setExcluded {n : Nat} {b : Bool} (h : MotionLaw s) : MotionLaw (s.setExcluded n b) := by
  unfold State.setExcluded
  split
  · exact h
  · exact h.setHmp

theorem MotionLaw.reqMapExclude {n : Nat} (h : MotionLaw s) : MotionLaw (s.reqMapExclude n).2 := by
  unfold State.reqMapExclude
  split
  · exact h
  · split
    · exact h
    · exact h.setExcluded

theorem MotionLaw.reqMapInclude {n : Nat} (h : MotionLaw s) : MotionLaw (s.reqMapInclude n).2 := by
  unfold State.reqMapInclude
  split
  · exact h
  · exact h.setExcluded

theorem MotionLaw.reqMapClear {a b : Nat} (h : MotionLaw s) : MotionLaw (s.reqMapClear a b).2 := by
  unfold State.reqMapClear
  split
  · exact h
  · split
    · split
      · exact h
      · exact h.setHmp
    · split
      · exact h.setHmp
      · exact h

/-- SPIN_DOWN carried out or refused (R28). -/
theorem MotionLaw.takeSpinDown {o : Owner} (h : MotionLaw s) (e : s.takeSpinDown o = .ok t) : MotionLaw t := by
  have hn : ∀ {u : State}, MotionLaw u → MotionLaw (u.newSpinDown o) := fun k => k.setPos rfl rfl rfl
  -- from AT_SPEED and OFF_SPEED alike: at once in PARKED, pending behind an unload otherwise
  have turning : s.pos.spindle ≠ .bench → (if s.pos.act = .parked then Except.ok ((s.newSpinDown o).brake)
      else .ok (((s.newSpinDown o).setPos { (s.newSpinDown o).pos with spinDownPending := true }).beginUnload .bench) :
      Except Refuse State) = .ok t → MotionLaw t := by
    intro hb k
    split at k <;> cases k
    · rename_i hp
      exact (hn h).brake (h.engine hb) (show s.pos.act.isLoaded = false by rw [hp]; rfl)
    · exact MotionLaw.beginUnload ((hn h).setPos rfl rfl rfl)
  unfold State.takeSpinDown at e
  split at e
  next => cases e; exact h
  next => cases e; exact hn h
  next hs =>
    cases e
    have h1 := hn (h.endSpinMove (o := .interrupted .spinDown))
    obtain ⟨k1, -, -, -, -, k6⟩ := endSpinMove_facts s (.interrupted .spinDown)
    refine h1.brake (by show (s.endSpinMove _).flc.spindleBench = _; rw [k6]; exact h.engine (by rw [hs]; decide)) ?_
    show (s.endSpinMove _).pos.act.isLoaded = false
    rw [k1]
    cases hl : s.pos.act.isLoaded with
    | false => rfl
    | true => have := h.loaded hl; rw [hs] at this; cases this
  next hs => exact turning (by rw [hs]; decide) e
  next hs => exact turning (by rw [hs]; decide) e
  next => cases e

/-- A manual motion request keeps the laws when its order does. -/
theorem MotionLaw.motionReply {r : Except Refuse State} (h : MotionLaw s) (k : ∀ u, r = .ok u → MotionLaw u) :
    MotionLaw (s.motionReply r).2 := by
  unfold State.motionReply
  split
  · exact k _ rfl
  · exact h

theorem MotionLaw.reqSpinUp (h : MotionLaw s) : MotionLaw s.reqSpinUp.2 := by
  unfold State.reqSpinUp
  split
  · exact h
  · exact h.motionReply fun _ => h.takeSpinUp

theorem MotionLaw.reqSpinDown (h : MotionLaw s) : MotionLaw s.reqSpinDown.2 := by
  unfold State.reqSpinDown
  split
  · exact h
  · exact h.motionReply fun _ => h.takeSpinDown

theorem MotionLaw.reqHeadsLoad (h : MotionLaw s) : MotionLaw s.reqHeadsLoad.2 := by
  unfold State.reqHeadsLoad
  split
  · exact h
  · exact h.motionReply fun _ => h.takeLoad

theorem MotionLaw.reqHeadsUnload (h : MotionLaw s) : MotionLaw s.reqHeadsUnload.2 := by
  unfold State.reqHeadsUnload
  split
  · exact h
  · exact h.motionReply fun _ e => by cases e; exact h.beginUnload

theorem MotionLaw.reqSeek {n : Nat} {x : Int} (h : MotionLaw s) : MotionLaw (s.reqSeek n x).2 := by
  unfold State.reqSeek
  split
  · exact h
  · split
    · exact h
    · split
      · exact h
      · unfold State.seekReply
        dsimp only
        split
        · exact h.takeSeek ‹_›
        · exact h

theorem MotionLaw.reqProfileWrite {p : List Byte} (h : MotionLaw s) : MotionLaw (s.reqProfileWrite p).2 := by
  unfold State.reqProfileWrite
  split
  · exact h.takeProfile ‹_›
  · exact h

theorem MotionLaw.reqProfileSave (h : MotionLaw s) : MotionLaw s.reqProfileSave.2 := by
  unfold State.reqProfileSave
  split
  · exact h
  · exact h.setPst

theorem MotionLaw.reqRestWrite {a b : Nat} {e : List Nat} (h : MotionLaw s) : MotionLaw (s.reqRestWrite a b e).2 := by
  unfold State.reqRestWrite
  split
  · unfold State.writeRest
    dsimp only
    split
    · exact MotionLaw.restTest (MotionLaw.reload h.setRtm)
    · exact MotionLaw.reload h.setRtm
  · exact h.reload

theorem MotionLaw.reqEventMaskWrite {n : Nat} (h : MotionLaw s) : MotionLaw (s.reqEventMaskWrite n).2 := by
  unfold State.reqEventMaskWrite
  split
  · exact h
  · exact h.setBlk

theorem MotionLaw.reqLinesWrite {a b c d e : Nat} (h : MotionLaw s) : MotionLaw (s.reqLinesWrite a b c d e).2 := by
  unfold State.reqLinesWrite
  split
  · exact h.takeLinesWrite ‹_›
  · exact h

theorem MotionLaw.reqCountersClear {a b : Nat} (h : MotionLaw s) : MotionLaw (s.reqCountersClear a b).2 := by
  unfold State.reqCountersClear
  split
  · split
    · exact h
    · exact h.setSdc rfl
  · split
    · exact h.setSdc rfl
    · exact h

/-- Every owner's answer keeps the laws of motion (R185). -/
theorem MotionLaw.handle {k : RequestKind} {p : List Byte} (h : MotionLaw s) : MotionLaw (s.handle k p).2 := by
  cases k with
  | statusRead => exact h
  | motionRead => exact h.clearEvent
  | thermalRead => exact h.clearEvent
  | linesRead => exact h.clearEvent
  | linkRead => exact h.reqLinkRead
  | countersRead => exact h
  | profileRead => exact h.clearEvent
  | jobList => exact h.clearEvent
  | resultRead => exact h.reqResultRead
  | mapRead => exact h.reqMapRead
  | eventsRead => exact h
  | jobSubmit => exact h.reqJobSubmit
  | jobCancel => exact h.reqJobCancel
  | jobSuspend => exact h.reqJobSuspend
  | jobResume => exact h.reqJobResume
  | mapPublish => exact h.reqMapPublish
  | mapExclude => exact h.reqMapExclude
  | mapInclude => exact h.reqMapInclude
  | mapClear => exact h.reqMapClear
  | spinUp => exact h.reqSpinUp
  | spinDown => exact h.reqSpinDown
  | headsLoad => exact h.reqHeadsLoad
  | headsUnload => exact h.reqHeadsUnload
  | seek => exact h.reqSeek
  | profileWrite => exact h.reqProfileWrite
  | profileSave => exact h.reqProfileSave
  | restWrite => exact h.reqRestWrite
  | eventMaskWrite => exact h.reqEventMaskWrite
  | linesWrite => exact h.reqLinesWrite
  | countersClear => exact h.reqCountersClear
  | benchReset => exact h

/-! ## The Bench Link -/

theorem MotionLaw.reloadFor {k : RequestKind} (h : MotionLaw s) : MotionLaw (s.reloadFor k) := by
  unfold State.reloadFor
  split
  · exact h.reload
  · exact h

theorem MotionLaw.answer {k : RequestKind} {f : Frame} (h : MotionLaw s) : MotionLaw (s.answer k f) := by
  refine MotionLaw.setBlk (MotionLaw.handle ?_)
  split
  · exact h
  · exact h.reloadFor

theorem MotionLaw.judge {f : Frame} (h : MotionLaw s) : MotionLaw (s.judge f) := by
  unfold State.judge
  split
  · split <;> exact h.setBlk
  · split
    · exact h.reloadFor.setBlk
    · split
      · split
        · exact h.answer
        · exact h.reloadFor.setBlk
      · exact h.answer

theorem MotionLaw.decodeNext (h : MotionLaw s) : MotionLaw s.decodeNext := by
  unfold State.decodeNext
  split
  · split
    · exact h
    · exact MotionLaw.judge (MotionLaw.setBlk h.setBlk)
  · exact h

theorem MotionLaw.rxFault {f : RxFault} {a b : Option Byte} (h : MotionLaw s) : MotionLaw (s.rxFault f a b) :=
  MotionLaw.raise h.setBlk

theorem MotionLaw.offerFrame {f : Frame} (h : MotionLaw s) : MotionLaw (s.offerFrame f) := by
  unfold State.offerFrame
  split
  · exact MotionLaw.decodeNext h.setBlk
  · exact h.rxFault

theorem MotionLaw.takeByte {b : Byte} (h : MotionLaw s) : MotionLaw (s.takeByte b) := by
  unfold State.takeByte
  dsimp only
  split
  · split
    · exact h.setBlk
    · exact h
  · split
    · exact h.setBlk
    · exact MotionLaw.rxFault h.setBlk
  · exact h.setBlk
  · unfold State.takeCheck
    dsimp only
    split
    · exact MotionLaw.offerFrame h.setBlk
    · exact MotionLaw.rxFault h.setBlk

theorem MotionLaw.expireGap (h : MotionLaw s) : MotionLaw s.expireGap := by
  unfold State.expireGap
  split
  · exact MotionLaw.rxFault (MotionLaw.setBlk h.atTick)
  · exact h

theorem MotionLaw.sent {x : Sending} (h : MotionLaw s) : MotionLaw (s.sent x) := by
  refine MotionLaw.decodeNext ?_
  have h1 : MotionLaw ((s.atTick x.due).setBlk { (s.atTick x.due).blk with sending := none }) := h.atTick.setBlk
  split
  · exact h1.benchReset
  · exact h1

theorem MotionLaw.transmitDone (h : MotionLaw s) : MotionLaw s.transmitDone := by
  unfold State.transmitDone
  split
  · exact h.sent
  · exact h

theorem MotionLaw.resetTakesEffect (h : MotionLaw s) : MotionLaw s.resetTakesEffect := by
  unfold State.resetTakesEffect
  split
  · split
    · exact h.sent
    · exact h
  · exact h

theorem MotionLaw.transmit (h : MotionLaw s) : MotionLaw s.transmit := by
  obtain ⟨x, w, e⟩ := transmit_frame s
  rw [e]
  exact h.setBlk

/-- The end of every arrival keeps the laws of motion. -/
theorem MotionLaw.finish (h : MotionLaw s) : MotionLaw s.finish := h.drain.transmit

/-! ## Deliveries and counts -/

theorem MotionLaw.deliver {r : SectorRecord} {n : Nat} (h : MotionLaw s) (hs : s.sdc.slotDue.isSome = true) :
    MotionLaw (s.deliver r n) := by
  have h1 : MotionLaw (s.endSlot r n) := h.setSdc (by rw [hs]; rfl)
  unfold State.deliver
  dsimp only
  split
  · exact h1.servoRecord.windowRecord.gateRecord.tell
  · exact h1.servoRecord.windowRecord.gateRecord

theorem MotionLaw.endWithMark {a : BitVec 10} {b : BitVec 18} {c d : BitVec 12} {n : Nat} (h : MotionLaw s) :
    MotionLaw (s.endWithMark a b c d n) := by
  unfold State.endWithMark
  split
  next x hx => exact MotionLaw.deliver h.atTick (by show s.sdc.slotDue.isSome = true; rw [hx]; rfl)
  next => exact h

theorem MotionLaw.endWithMiss (h : MotionLaw s) : MotionLaw s.endWithMiss := by
  unfold State.endWithMiss
  split
  next x hx => exact MotionLaw.deliver h.atTick (by show s.sdc.slotDue.isSome = true; rw [hx]; rfl)
  next => exact h

theorem MotionLaw.takeIndex {n : Nat} (h : MotionLaw s) : MotionLaw (s.takeIndex n) := by
  have h1 : MotionLaw ((((s.atTick n).speedMonitor n).gateIndex n).windowIndex) :=
    (MotionLaw.speedMonitor h.atTick).gateIndex.windowIndex
  unfold State.takeIndex
  dsimp only
  split
  · exact h1.tell
  · exact h1

theorem MotionLaw.paceRelease (h : MotionLaw s) : MotionLaw s.paceRelease := by
  unfold State.paceRelease
  split
  · exact h.tickPace
  · exact h

theorem MotionLaw.hotParkExpiry (h : MotionLaw s) : MotionLaw s.hotParkExpiry := by
  unfold State.hotParkExpiry
  split
  · exact h.tickHot
  · exact h

theorem MotionLaw.windowTimeout (h : MotionLaw s) : MotionLaw s.windowTimeout := by
  unfold State.windowTimeout
  split
  · split
    · exact h.windowIndex
    · exact h
  · exact h

theorem MotionLaw.overflowU (h : MotionLaw s) : MotionLaw s.overflowU := by
  unfold State.overflowU
  split
  · exact MotionLaw.endGate h.atTick
  · exact h

theorem MotionLaw.overflowL (h : MotionLaw s) : MotionLaw s.overflowL := by
  unfold State.overflowL
  split
  · exact MotionLaw.endGate h.atTick
  · exact h

theorem MotionLaw.heatTickArrives (h : MotionLaw s) : MotionLaw s.heatTickArrives :=
  MotionLaw.takeHeatTick (MotionLaw.setChm h.atTick)

theorem MotionLaw.expireRecovery (h : MotionLaw s) : MotionLaw s.expireRecovery := by
  unfold State.expireRecovery
  split
  · exact (finishActive_work _ _ _).motionLaw h.atTick
  · exact h

/-! ## Every command -/

/-- An arrival that is taken answers the state at its end. -/
theorem arrival_eq_next : arrival s = .next t ↔ s.finish = t := by simp [arrival]

/-- A request command is the arrival of its frame (log 6). -/
theorem exec_request {c : Instr} {f : Frame} (h : requestFrame c = some f) (s : State) :
    exec c s = request f.kind.toNat f.tag f.payload s := by
  cases c <;> cases h <;> rfl

/-- A request command that is taken is the arrival of its frame (log 6). -/
theorem request_eq_next {n : Nat} {tag : Byte} {p : List Byte} (h : request n tag p s = .next t) :
    (s.offerFrame { kind := byteOf n, tag := tag, payload := p }).finish = t := by
  unfold request at h
  split at h
  · exact arrival_eq_next.mp h
  · cases h

theorem MotionLaw.arrival (h : MotionLaw s) {u : State} (e : arrival s = .next u) : MotionLaw u :=
  arrival_eq_next.mp e ▸ h.finish

theorem MotionLaw.request {n : Nat} {tag : Byte} {p : List Byte} (h : MotionLaw s) (e : request n tag p s = .next t) :
    MotionLaw t := request_eq_next e ▸ h.offerFrame.finish

/-- Every command keeps the laws of motion. -/
theorem MotionLaw.exec {c : Instr} (h : MotionLaw s) (e : exec c s = .next t) : MotionLaw t := by
  cases c with
  | powerOnReset => exact (MotionLaw.powerOn s).arrival e
  | slotEndMark => exact h.endWithMark.arrival e
  | slotEndMiss => exact h.endWithMiss.arrival e
  | indexArrival => exact h.takeIndex.arrival e
  | rampSenseChange => exact h.rampLine.arrival e
  | preampFaultChange => exact h.preampLine.arrival e
  | heatTick => exact h.heatTickArrives.arrival e
  | seekPaceRelease => exact h.paceRelease.arrival e
  | hotParkCountExpiry => exact h.hotParkExpiry.arrival e
  | spinupMsExpiry => exact h.expireSpinup.arrival e
  | indexSilenceExpiry => exact h.expireSilence.arrival e
  | brakingQuietExpiry => exact h.expireQuiet.arrival e
  | loadMsExpiry => exact h.expireLoad.arrival e
  | acqMsExpiry => exact h.expireAcq.arrival e
  | seekMsExpiry => exact h.expireSeek.arrival e
  | settleMsExpiry => exact h.expireSettle.arrival e
  | unloadMsExpiry => exact h.expireUnload.arrival e
  | windowTimeout => exact h.windowTimeout.arrival e
  | gateUOverflow => exact h.overflowU.arrival e
  | gateLOverflow => exact h.overflowL.arrival e
  | restTimerExpiry => exact h.expireTimer.arrival e
  | spindleRecoveryExpiry => exact h.expireRecovery.arrival e
  | profileMemoryReadDone => exact h.endRead.arrival e
  | profileLoadLimitExpiry => exact h.expireRead.arrival e
  | profileMemoryWriteDone => exact h.confirmWrite.arrival e
  | profileMemoryFault => exact h.reportFault.arrival e
  | saveWriteLimitExpiry => exact h.expireWrite.arrival e
  | byteReceived => exact h.takeByte.arrival e
  | gapLimitExpiry => exact h.expireGap.arrival e
  | transmitComplete => exact h.transmitDone.arrival e
  | benchResetEffect => exact h.resetTakesEffect.arrival e
  | _ => exact h.request ((exec_request rfl s).symm.trans e)

/-- Settles O7: an idle tick moves the clock alone, and every command keeps the laws (`MotionLaw.exec`). -/
theorem everyStepKeepsTheMotionLaw : Obligations.EveryStepKeepsTheMotionLaw := by
  intro s t h e
  unfold step at e
  split at e
  next => cases e; exact h.setNow
  next c cs _ => exact MotionLaw.exec (s := s.setPending cs) (h.congr rfl rfl rfl rfl id rfl rfl) e

end Sys2Proof.Machine
end

section
/-! PROOF. What the Positioner, the Window Collector and the Gate Counter Unit do inside one arrival, said once: a chain of the
elementary operations that `Motion` lists. A law that each of them keeps is kept by the whole, by induction on `Motion`. -/

namespace Sys2Proof.Machine

/-- What only an index arrival changes together with the actuator state: the measured revolution (R19). -/
def Pos.gauge (p : Pos) : ActState × Option Nat × Option Nat := (p.act, p.period, p.indexRef)

/-- The state after some motion, from the state before it: the elementary operations of the blocks that a servo record, a
deadline or an order of the Job Controller sets to work. An opening order, a reclassified record and the measuring of a
revolution stand apart: a window only closes here or goes on with its head, and the per-head counters stay. -/
inductive Motion : State → State → Prop where
  | refl (s : State) : Motion s s
  | trans {s t u : State} (h : Motion s t) (k : Motion t u) : Motion s u
  /-- Reports to the Job Controller (log 15). -/
  | inbox (s : State) (x : List JctMsg) : Motion s (s.setInbox x)
  /-- A change of the Positioner that leaves the actuator state and the measured revolution. -/
  | pos (s : State) (x : Pos) (h : x.gauge = s.pos.gauge) : Motion s (s.setPos x)
  /-- The actuator comes to a state other than PARKED (R23). -/
  | act (s : State) (a : ActState) (d : Option ActDeadline) (h : a ≠ .parked) : Motion s (s.setAct a d)
  /-- The arrival at PARKED that the engine view of RAMP_SENSE confirms (R39). -/
  | park (s : State) (h : s.rampView = .onRamp) : Motion s ((s.setAct .parked none).stopSlots)
  /-- A head selection (R164). -/
  | select (s : State) (head : Nat) : Motion s (s.selectHead head)
  /-- The window closes, or goes on with its measured head (R44). -/
  | window (s : State) (x : Option Window) (h : ∀ v, x = some v → ∃ w, s.window = some w ∧ w.head = v.head) :
      Motion s (s.setWindow x)
  /-- A change of the gate (R78). -/
  | gcu (s : State) (x : Gcu) : Motion s (s.setGcu x)
  /-- A change of heat, level or counts within their bounds (R144). -/
  | chm (s : State) (x : Chm) (hh : x.heat = s.chm.heat ∨ x.heat ≤ 65535) (hp : x.pace = s.chm.pace ∨ x.pace ≤ 65535) :
      Motion s (s.setChm x)
  /-- An event (R188). -/
  | raise (s : State) (k : EventKind) : Motion s (s.raise k)

/-- A change of the Positioner that leaves the actuator state, after other motion. -/
theorem Motion.setPos {s t : State} {x : Pos} (h : Motion s t) (ha : x.gauge = t.pos.gauge) : Motion s (t.setPos x) :=
  h.trans (.pos t x ha)

theorem setPos_motion (s : State) (x : Pos) (h : x.gauge = s.pos.gauge) : Motion s (s.setPos x) := .pos s x h

/-- A change of the Coil Heat Monitor that leaves the heat and the pace count. -/
theorem setChm_motion (s : State) (x : Chm) (hh : x.heat = s.chm.heat) (hp : x.pace = s.chm.pace) :
    Motion s (s.setChm x) := .chm s x (.inl hh) (.inl hp)

theorem Motion.andThen {s t u : State} (k : Motion t u) (h : Motion s t) : Motion s u := h.trans k

variable (s : State)

theorem tell_motion (m : JctMsg) : Motion s (s.tell m) := .inbox s _

/-! ## Windows and gates -/

theorem setWindow_none_motion : Motion s (s.setWindow none) := .window s none fun _ h => nomatch h

theorem setWindow_some_motion {v : Window} (h : ∃ w, s.window = some w ∧ w.head = v.head) : Motion s (s.setWindow (some v)) :=
  .window s _ fun _ e => Option.some.inj e ▸ h

theorem closeWindow_motion (w : Window) (e : WindowEnding) : Motion s (s.closeWindow w e) := by
  unfold State.closeWindow
  extract_lets s1 s2
  have h1 : Motion s s1 := by
    show Motion s (if w.probing then s.selectHead s.prof.anchor else s)
    split
    · exact .select s _
    · exact .refl s
  have h2 : Motion s s2 := by
    show Motion s (if e.reported then s1.tell (.windowEnded (w.report e) w.attempt) else s1)
    split
    · exact h1.trans (tell_motion _ _)
    · exact h1
  exact h2.trans (setWindow_none_motion _)

theorem endWindow_motion (e : WindowEnding) : Motion s (s.endWindow e) := by
  unfold State.endWindow
  split
  · exact closeWindow_motion s _ _
  · exact .refl s

/-- An entry keeps the measured head. -/
theorem enter_head (w : Window) (r : SectorRecord) : (w.enter r).head = w.head := by
  unfold Window.enter
  cases r.cls with
  | recovery | miss | wild | weak => rfl
  | good =>
    dsimp only
    split
    · rfl
    · split <;> rfl

/-- The part after the count of a reclassified record (R51). -/
def State.reclassify (s : State) (w : Window) (r : SectorRecord) : State := if w.reclassifies r then s.countWild r.head else s

theorem reclassify_window (w : Window) (r : SectorRecord) : (s.reclassify w r).window = s.window := by
  unfold State.reclassify
  split <;> rfl

theorem enterRecord_motion {w : Window} (r : SectorRecord) (hw : ∃ v, s.window = some v ∧ v.head = w.head) :
    Motion (s.reclassify w r) (s.enterRecord w r).1 := by
  unfold State.enterRecord
  extract_lets w' s1
  have h1 : Motion (s.reclassify w r) s1 :=
    setWindow_some_motion _ (by rw [reclassify_window]; exact (enter_head w r).symm ▸ hw)
  split
  · exact h1
  · split
    · exact h1.trans (closeWindow_motion _ _ _)
    · exact h1

/-- A window that an entry leaves open stands as entered. -/
theorem enterRecord_open {w : Window} {r : SectorRecord} {t : State} (h : s.enterRecord w r = (t, true)) :
    t.window = some (w.enter r) := by
  unfold State.enterRecord at h
  dsimp only at h
  split at h
  · cases h; rfl
  · split at h
    · cases h
    · cases h; rfl

theorem visitStep_motion {w : Window} (hw : ∃ v, s.window = some v ∧ v.head = w.head) : Motion s (s.visitStep w) := by
  unfold State.visitStep
  split
  · exact setWindow_some_motion s hw
  · exact (Motion.select s _).trans (setWindow_some_motion _ (by rw [selectHead_window]; exact hw))

/-- The part after the count of a record that its window takes and reclassifies (R47, R49, R51). -/
def State.recounted (s : State) (r : SectorRecord) : State :=
  match s.window with
  | some w => if (w.anchorOnly || w.probing) = true ∧ r.head = w.head then s.reclassify w r else s
  | none => s

theorem windowRecord_motion (r : SectorRecord) : Motion (s.recounted r) (s.windowRecord r) := by
  unfold State.windowRecord State.recounted
  cases hw : s.window with
  | none => exact .refl s
  | some w =>
    have own : ∃ v, s.window = some v ∧ v.head = w.head := ⟨w, hw, rfl⟩
    dsimp only
    by_cases ha : w.anchorOnly = true
    · by_cases hr : r.head = w.head
      · rw [if_pos ha, if_pos hr, if_pos ⟨by rw [ha]; rfl, hr⟩]
        exact enterRecord_motion s r own
      · rw [if_pos ha, if_neg hr, if_neg fun k => hr k.2]
        exact .refl s
    · rw [if_neg ha]
      by_cases hp : w.probing = true
      · rw [if_pos hp]
        unfold State.visitRecord
        extract_lets w1
        by_cases hr : r.head = w.head
        · rw [if_pos hr, if_pos ⟨by rw [hp, Bool.or_true], hr⟩]
          have h1 : Motion (s.reclassify w r) (s.enterRecord w1 r).1 := enterRecord_motion (w := w1) s r own
          split
          next t e =>
            rw [e] at h1
            exact h1.trans (visitStep_motion _ ⟨_, enterRecord_open s e, rfl⟩)
          next t e => rw [e] at h1; exact h1
        · rw [if_neg hr, if_neg fun k => hr k.2]
          exact visitStep_motion s own
      · rw [if_neg hp, if_neg fun k => by simp [ha, hp] at k]
        unfold State.followRecord
        split
        · exact setWindow_some_motion s own
        · split
          · exact (Motion.select s _).trans (setWindow_some_motion _ (by rw [selectHead_window]; exact own))
          · exact closeWindow_motion s _ _

theorem windowIndex_motion : Motion s s.windowIndex := by
  unfold State.windowIndex
  split
  · exact .refl s
  next w hw =>
    dsimp only
    split
    · exact closeWindow_motion s _ _
    · exact setWindow_some_motion s ⟨w, hw, rfl⟩

theorem endGate_motion (e : GateEnding) (c : Option AbortCause) (v : Option Nat) (b : Option ClosedBy)
    (o : Option Stage) (l u : Nat) : Motion s (s.endGate e c v b o l u) := by
  unfold State.endGate
  dsimp only
  split
  · exact .gcu s _
  · exact (Motion.gcu s _).trans (tell_motion _ _)

theorem armGate_motion {s t : State} {m : GateMode} {h : Option Nat} {a : Nat} (e : s.armGate m h a = some t) :
    Motion s t := by
  unfold State.armGate at e
  split at e <;> cases e
  exact .gcu _ _

theorem abortGate_motion (c : AbortCause) : Motion s (s.abortGate c) := by
  unfold State.abortGate
  split
  · exact .refl s
  · exact endGate_motion _ _ _ _ _ _ _ _
  · exact endGate_motion _ _ _ _ _ _ _ _

theorem gateIndex_motion (n : Nat) : Motion s (s.gateIndex n) := by
  unfold State.gateIndex
  split
  · exact .refl s
  · exact .gcu s _
  · split
    · exact .refl s
    · exact endGate_motion _ _ _ _ _ _ _ _

theorem gateRecord_motion (r : SectorRecord) (n : Nat) : Motion s (s.gateRecord r n) := by
  unfold State.gateRecord
  split
  · extract_lets l
    split
    · exact endGate_motion _ _ _ _ _ _ _ _
    · split
      · exact .gcu s _
      · exact endGate_motion _ _ _ _ _ _ _ _
  · exact .refl s

/-! ## Moves and changes of state -/

theorem reportMove_motion (m : Move) (o : MoveOutcome) : Motion s (s.reportMove m o) := by
  unfold State.reportMove
  split
  · exact setPos_motion s _ (by rfl)
  · exact tell_motion s _
  · exact .refl s

theorem endActMove_motion (o : MoveOutcome) : Motion s (s.endActMove o) := by
  unfold State.endActMove
  split
  · exact (setPos_motion s { s.pos with actMove := none } (by rfl)).trans (reportMove_motion _ _ _)
  · exact .refl s

theorem endSpinMove_motion (o : MoveOutcome) : Motion s (s.endSpinMove o) := by
  unfold State.endSpinMove
  split
  · exact (setPos_motion s { s.pos with spinMove := none } (by rfl)).trans (reportMove_motion _ _ _)
  · exact .refl s

theorem discardHeld_motion (c : StopCause) : Motion s (s.discardHeld c) := by
  unfold State.discardHeld
  split
  · exact (setPos_motion s { s.pos with held := none } (by rfl)).trans (reportMove_motion _ _ _)
  · exact .refl s

theorem setSpindle_motion (x : SpindleState) : Motion s (s.setSpindle x) :=
  (setPos_motion s { s.pos with spindle := x } (by rfl)).trans (tell_motion _ _)

theorem brake_motion : Motion s s.brake := (setSpindle_motion _ _).andThen (setPos_motion s _ (by rfl))

/-- An arrival at PARKED that the engine view of RAMP_SENSE confirms (R39). -/
theorem arrivePark_motion (u : Bool) (h : s.rampView = .onRamp) : Motion s (s.arrivePark u) := by
  unfold State.arrivePark
  extract_lets p s1 s2 s3 s4
  have c2 : Carries s s2 := (endActMove_carries s1 _).andThen (setPos_carries s _ rfl rfl rfl)
  have h3 : Motion s s3 :=
    ((endActMove_motion s1 _).andThen (setPos_motion s _ (by rfl))).trans (.park s2 (c2.rampView.trans h))
  have h4 : Motion s s4 := by
    show Motion s (if u then s3.raise .motion else s3)
    split
    · exact h3.trans (.raise _ _)
    · exact h3
  split
  · exact h4.trans (brake_motion _)
  · exact h4

theorem beginUnload_motion (c : UnloadCause) : Motion s (s.beginUnload c) := by
  unfold State.beginUnload
  split
  · extract_lets s1 s2 p s3 s4
    have h2 : Motion s s2 :=
      ((discardHeld_motion s _).trans (endActMove_motion _ _)).trans (.act s1 .unloading _ (by decide))
    have h3 : Motion s s3 := h2.setPos (by rfl)
    have h4 : Motion s s4 := by
      show Motion s (if c = .bench then s3 else s3.raise .motion)
      split
      · exact h3
      · exact h3.trans (.raise _ _)
    split
    · exact h4.trans (arrivePark_motion _ _ ‹_›)
    · exact h4
  · exact .refl s

theorem restTest_motion : Motion s s.restTest := by
  unfold State.restTest
  split
  · exact beginUnload_motion s _
  · exact .refl s

/-! ## Orders -/

theorem takeSpinUp_motion {s t : State} {o : Owner} (h : s.takeSpinUp o = .ok t) : Motion s t := by
  unfold State.takeSpinUp at h
  split at h
  · cases h; exact (setSpindle_motion _ _).andThen (setPos_motion s _ (by rfl))
  · cases h; exact setPos_motion s _ (by rfl)
  iterate 2
    · split at h <;> cases h
      · exact (endSpinMove_motion _ _).andThen (setPos_motion s _ (by rfl))
      · exact .refl s
  · cases h
  · cases h

theorem takeSpinDown_motion {s t : State} {o : Owner} (h : s.takeSpinDown o = .ok t) : Motion s t := by
  unfold State.takeSpinDown at h
  split at h
  · cases h; exact .refl s
  · cases h; exact setPos_motion s _ (by rfl)
  · cases h; exact ((endSpinMove_motion s _).setPos (by rfl)).trans (brake_motion _)
  iterate 2
    · split at h <;> cases h
      · exact (brake_motion _).andThen (setPos_motion s _ (by rfl))
      · exact (beginUnload_motion _ _).andThen (Motion.setPos (setPos_motion s _ (by rfl)) (by rfl))
  · cases h

theorem takeLoad_motion {s t : State} {o : Owner} (h : s.takeLoad o = .ok t) : Motion s t := by
  unfold State.takeLoad at h
  split at h
  iterate 2 · cases h
  iterate 4 · cases h; exact .refl s
  split at h
  · cases h
  split at h
  · cases h
  split at h
  · cases h
  cases h
  exact ((Motion.select s _).trans (.act _ .loading _ (by decide))).setPos (by rfl)

theorem startSeek_motion (n : Nat) (x : Int) (o : Owner) : Motion s (s.startSeek n x o) := by
  unfold State.startSeek
  extract_lets s1 p s2 s3
  have h2 : Motion s s2 := (endActMove_motion s _).setPos (by rfl)
  exact (h2.trans (.act s2 .seeking _ (by decide))).setPos (by rfl)

theorem startJog_motion (x : Int) (o : Owner) : Motion s (s.startJog x o) := by
  unfold State.startJog
  extract_lets s1 p s2 s3
  have h2 : Motion s s2 := (endActMove_motion s _).setPos (by rfl)
  exact (h2.trans (.act s2 .settling _ (by decide))).setPos (by rfl)

theorem restartSettle_motion (x : Int) (o : Owner) : Motion s (s.restartSettle x o) := (endActMove_motion s _).setPos (by rfl)

theorem seekOrHold_motion (n : Nat) (x : Int) (o : Owner) : Motion s (s.seekOrHold n x o).2 := by
  unfold State.seekOrHold
  extract_lets s1
  have h1 : Motion s s1 := discardHeld_motion s _
  split
  · exact h1.trans (startSeek_motion _ _ _ _)
  · exact h1.setPos (by rfl)

theorem takeSeek_motion {s t : State} {n : Nat} {x : Int} {o : Owner} {k : SeekTaken} (h : s.takeSeek n x o = .ok (k, t)) :
    Motion s t := by
  have held : ∀ {k : SeekTaken} {t : State}, s.seekOrHold n x o = (k, t) → Motion s t := fun e => by
    have := seekOrHold_motion s n x o
    rw [e] at this
    exact this
  unfold State.takeSeek at h
  split at h
  iterate 4 · cases h
  · split at h
    · split at h <;> cases h
      · exact discardHeld_motion s _
      · exact (discardHeld_motion s _).trans (startJog_motion _ _ _)
    · injection h with h; exact held h
  · cases h; exact setPos_motion s _ (by rfl)
  · split at h
    · split at h <;> cases h
      · exact discardHeld_motion s _
      · exact (discardHeld_motion s _).trans (restartSettle_motion _ _ _)
    · injection h with h; exact held h

theorem takeJog_motion {s t : State} {x : Int} {o : Owner} (h : s.takeJog x o = .ok t) : Motion s t := by
  unfold State.takeJog at h
  split at h <;> cases h
  exact startJog_motion s _ _

theorem releaseHeld_motion : Motion s s.releaseHeld := by
  unfold State.releaseHeld
  split
  · split
    · exact (startSeek_motion _ _ _ _).andThen (setPos_motion s _ (by rfl))
    · exact .refl s
  · exact .refl s

/-! ## Heat -/

theorem recordLevel_motion (a : HeatLevel) (c : LevelCause) : Motion s (s.recordLevel a c) :=
  (setChm_motion s _ (by rfl) (by rfl)).trans (.raise _ _)

theorem changeLevel_motion (a : HeatLevel) (c : LevelCause) : Motion s (s.changeLevel a c) := by
  have h1 := recordLevel_motion s a c
  unfold State.changeLevel
  dsimp only
  split
  · exact .refl s
  · split
    · exact (h1.trans (.inbox _ _)).trans (discardHeld_motion _ _)
    · exact h1.trans (tell_motion _ _)
    · exact h1.trans (releaseHeld_motion _)
    · exact h1

/-- A sum that saturates stays within its bound. -/
theorem satAdd_le (cap n k : Nat) : satAdd cap n k ≤ cap := Nat.min_le_left _ _

theorem addHeat_motion (n : Nat) : Motion s (s.addHeat n) := .chm s _ (.inr (satAdd_le _ _ _)) (.inl rfl)

theorem seekCost_motion (d : Nat) : Motion s (s.seekCost d) :=
  ((addHeat_motion s _).trans (changeLevel_motion _ _ _)).trans (.chm _ _ (.inl rfl) (.inr (Nat.zero_le _)))

theorem jogCost_motion : Motion s s.jogCost := (addHeat_motion s _).trans (changeLevel_motion _ _ _)

theorem tickPace_motion : Motion s s.tickPace := by
  have h1 : Motion s (s.setChm { s.chm with pace := satAdd 65535 s.chm.pace 1 }) :=
    .chm s _ (.inl rfl) (.inr (satAdd_le _ _ _))
  unfold State.tickPace
  dsimp only
  split
  · exact h1.trans (releaseHeld_motion _)
  · exact h1

theorem tickHot_motion : Motion s s.tickHot := by
  unfold State.tickHot
  split
  · split
    · exact (setChm_motion s _ (by rfl) (by rfl)).trans (beginUnload_motion _ _)
    · exact setChm_motion s _ (by rfl) (by rfl)
  · exact setChm_motion s _ (by rfl) (by rfl)

/-! ## Records -/

theorem drive_motion (e : Int) : Motion s (s.drive e) := setPos_motion s _ (by rfl)

theorem arriveFollowing_motion : Motion s s.arriveFollowing := (Motion.act s .following none (by decide)).trans (restTest_motion _)

theorem offTrack_motion : Motion s s.offTrack := (discardHeld_motion s _).trans (.act _ .settling _ (by decide))

theorem loseServo_motion : Motion s s.loseServo :=
  ((discardHeld_motion s _).trans (endActMove_motion _ _)).trans (.act _ .acquiring _ (by decide))

theorem acquired_motion (n : Nat) : Motion s (s.acquired n) :=
  ((endActMove_motion _ _).andThen (setPos_motion s _ (by rfl))).trans (arriveFollowing_motion _)

theorem settled_motion : Motion s s.settled := by
  have h1 := (endActMove_motion s .settled).trans (.act _ .following none (by decide))
  unfold State.settled
  dsimp only
  split
  · exact (h1.trans (jogCost_motion _)).trans (restTest_motion _)
  · exact h1.trans (restTest_motion _)

theorem countLoss_motion : Motion s s.countLoss := by
  unfold State.countLoss
  split
  · exact setPos_motion s _ (by rfl)
  · exact loseServo_motion s

theorem acquireRecord_motion (r : SectorRecord) : Motion s (s.acquireRecord r) := by
  unfold State.acquireRecord
  split
  · dsimp only
    split
    · exact (drive_motion s _).trans (acquired_motion _ _)
    · exact (drive_motion s _).setPos (by rfl)
  · exact setPos_motion s _ (by rfl)

theorem followingRecord_motion (r : SectorRecord) : Motion s (s.followingRecord r) := by
  unfold State.followingRecord
  split
  · extract_lets e s1 p s2
    have h2 : Motion s s2 := (drive_motion s _).setPos (by rfl)
    split
    · split
      · exact h2.trans (offTrack_motion _)
      · exact h2.setPos (by rfl)
    · exact h2.setPos (by rfl)
  · exact (countLoss_motion _).andThen (setPos_motion s _ (by rfl))
  · exact setPos_motion s _ (by rfl)

theorem settlingRecord_motion (r : SectorRecord) : Motion s (s.settlingRecord r) := by
  unfold State.settlingRecord
  split
  · extract_lets e s1 p s2
    have h2 : Motion s s2 := (drive_motion s _).setPos (by rfl)
    split
    · split
      · exact h2.trans (settled_motion _)
      · exact h2.setPos (by rfl)
    · exact h2.setPos (by rfl)
  · exact (countLoss_motion _).andThen (setPos_motion s _ (by rfl))
  · exact setPos_motion s _ (by rfl)

theorem firstSettleRecord_motion (e : Int) : Motion s (s.firstSettleRecord e) := by
  unfold State.firstSettleRecord
  split
  · split
    · exact settled_motion s
    · exact setPos_motion s _ (by rfl)
  · exact setPos_motion s _ (by rfl)

theorem seekingRecord_motion (r : SectorRecord) : Motion s (s.seekingRecord r) := by
  unfold State.seekingRecord
  split
  · dsimp only
    split
    · exact (((drive_motion s _).trans (.act _ .settling _ (by decide))).trans (seekCost_motion _ _)).trans
        (firstSettleRecord_motion _ _)
    · exact drive_motion s _
  · exact .refl s

theorem loadingRecord_motion (r : SectorRecord) : Motion s (s.loadingRecord r) := by
  have h1 : Motion s (s.setAct .acquiring s.pos.deadline) := .act s .acquiring _ (by decide)
  unfold State.loadingRecord
  split
  · dsimp only
    split
    · exact h1
    · exact h1.trans (acquireRecord_motion _ _)
  · exact .refl s

theorem servoRecord_motion (r : SectorRecord) : Motion s (s.servoRecord r) := by
  unfold State.servoRecord
  split
  · split
    next => exact loadingRecord_motion s r
    next => split; exacts [.refl s, acquireRecord_motion s r]
    next => split; exacts [.refl s, followingRecord_motion s r]
    next => split; exacts [.refl s, seekingRecord_motion s r]
    next => split; exacts [.refl s, settlingRecord_motion s r]
    next => exact .refl s
    next => exact .refl s
  · exact .refl s

/-! ## The speed monitor -/

theorem arriveOffSpeed_motion : Motion s s.arriveOffSpeed :=
  ((((setSpindle_motion _ _).andThen (setPos_motion s _ (by rfl))).trans (.raise _ _)).trans (tell_motion _ _)).trans (beginUnload_motion _ _)

theorem arriveAtSpeed_motion : Motion s s.arriveAtSpeed :=
  ((setSpindle_motion _ _).andThen (setPos_motion s _ (by rfl))).trans (tell_motion _ _)

theorem judgeRevolution_motion (good : Bool) : Motion s (s.judgeRevolution good) := by
  have hi : Motion s (s.runInTol good) := setPos_motion s _ (by rfl)
  have ho : Motion s (s.runOutTol good) := setPos_motion s _ (by rfl)
  unfold State.judgeRevolution
  split
  · dsimp only
    split
    · exact (hi.trans (endSpinMove_motion _ _)).trans (arriveAtSpeed_motion _)
    · exact hi
  · dsimp only
    split
    · exact hi.trans (arriveAtSpeed_motion _)
    · exact hi
  · dsimp only
    split
    · exact ho.trans (arriveOffSpeed_motion _)
    · exact ho
  all_goals exact .refl s

theorem restartIndexLimits_motion : Motion s s.restartIndexLimits := by
  unfold State.restartIndexLimits
  split
  · exact setPos_motion s _ (by rfl)
  · exact setPos_motion s _ (by rfl)
  all_goals exact .refl s

end Sys2Proof.Machine
end

section
/-! PROOF. Every step keeps the bounds of the stores and counts. Motion and the Job Controller's work keep them by induction on
`Motion` and `Work`; the requests, the Bench Link, the lines, the Profile Store and the resets one operation at a time. -/

namespace Sys2Proof.Machine

variable {s t : State}

/-! ## What motion leaves to the Job Controller -/

@[simp] theorem takeHeadChange_jct (s : State) (n : Nat) : (s.takeHeadChange n).jct = s.jct := by
  unfold State.takeHeadChange; split <;> rfl

@[simp] theorem selectHead_jct (s : State) (n : Nat) : (s.selectHead n).jct = s.jct := by simp [State.selectHead]

@[simp] theorem closeWindow_jct (s : State) (w : Window) (e : WindowEnding) : (s.closeWindow w e).jct = s.jct := by
  unfold State.closeWindow
  cases w.probing <;> cases e.reported <;> simp [State.tell]

@[simp] theorem endWindow_jct (s : State) (e : WindowEnding) : (s.endWindow e).jct = s.jct := by
  unfold State.endWindow; split <;> simp

@[simp] theorem departFollowing_jct (s : State) (a : ActState) : (s.departFollowing a).jct = s.jct := by
  unfold State.departFollowing
  dsimp only
  split <;> simp [State.tell]

@[simp] theorem setAct_jct (s : State) (a : ActState) (d : Option ActDeadline) : (s.setAct a d).jct = s.jct := by
  unfold State.setAct
  dsimp only
  split <;> split <;> simp [State.tell, State.startSlots]

/-- Motion leaves the Job Controller's own state as it is: it hands on reports alone (log 15). -/
theorem Motion.jct (h : Motion s t) : t.jct = s.jct := by
  induction h with
  | refl s => rfl
  | trans _ _ h k => exact k.trans h
  | act s a d _ => exact setAct_jct s a d
  | park s _ => exact setAct_jct s _ _
  | select s n => exact selectHead_jct s n
  | _ => rfl

/-! ## What the bounds depend on -/

theorem Bounds.congr (h : Bounds s) (hj : t.jct = s.jct) (hb : t.blk.buffer = s.blk.buffer)
    (hc : t.chm = s.chm) (hs : t.sdc.counters = s.sdc.counters)
    (hl : t.blk.counters = s.blk.counters) : Bounds t where
  table := by rw [hj]; exact h.table
  finished := by rw [hj]; exact h.finished
  buffer := by rw [hb]; exact h.buffer
  heat := by rw [hc]; exact h.heat
  pace := by rw [hc]; exact h.pace
  heads := by rw [hs]; exact h.heads
  link := by rw [hl]; exact h.link

/-- What motion and jobs leave as it is keeps the bounds with the lists of jobs. -/
theorem Carries.bounds (k : Carries s t) (hj : t.jct = s.jct) (h : Bounds s) : Bounds t :=
  h.congr hj k.buffer k.chm k.counts k.counters

/-- The per-head counters within their bound (R12). -/
def HeadCounters.Bounded (c : HeadCounters) : Prop := c.miss ≤ 65535 ∧ c.weak ≤ 65535 ∧ c.wild ≤ 65535 ∧ c.slip ≤ 65535

/-- A counter that counts on stays within its bound (R12). -/
theorem bump_le (n : Nat) : bump n ≤ 65535 := satAdd_le _ _ _

theorem HeadCounters.Bounded.count {c : HeadCounters} (h : c.Bounded) (k : SectorClass) (b : Bool) : (c.count k b).Bounded := by
  obtain ⟨h1, h2, h3, h4⟩ := h
  unfold HeadCounters.count
  refine ⟨?_, ?_, ?_, ?_⟩ <;> dsimp only <;> split <;> first | exact bump_le _ | assumption

theorem Bounds.setCounters {x : Sdc} (h : Bounds s) (hx : ∀ c ∈ x.counters, c.Bounded) : Bounds (s.setSdc x) :=
  ⟨h.table, h.finished, h.buffer, h.heat, h.pace, hx, h.link⟩

/-- A change of one head's counters that keeps their bound. -/
theorem Bounds.modifyCounters {x : Sdc} {n : Nat} {f : HeadCounters → HeadCounters} (h : Bounds s)
    (hf : ∀ c, c.Bounded → (f c).Bounded) (hx : x.counters = s.sdc.counters.modify n f) : Bounds (s.setSdc x) := by
  refine h.setCounters fun c hc => ?_
  obtain ⟨i, hi, rfl⟩ := List.mem_iff_getElem.mp (hx ▸ hc)
  rw [List.length_modify] at hi
  rw [List.getElem_modify]
  split
  · exact hf _ (h.heads _ (List.getElem_mem _))
  · exact h.heads _ (List.getElem_mem _)

theorem Bounds.setChm {x : Chm} (h : Bounds s) (hh : x.heat = s.chm.heat ∨ x.heat ≤ 65535)
    (hp : x.pace = s.chm.pace ∨ x.pace ≤ 65535) : Bounds (s.setChm x) where
  table := h.table
  finished := h.finished
  buffer := h.buffer
  heat := hh.elim (fun e => by rw [State.setChm_chm, e]; exact h.heat) id
  pace := hp.elim (fun e => by rw [State.setChm_chm, e]; exact h.pace) id
  heads := h.heads
  link := h.link

theorem Bounds.setJct {x : Jct} (h : Bounds s) (ht : x.table.length ≤ s.jct.table.length)
    (hf : x.finished = s.jct.finished ∨ x.finished.length ≤ 8) : Bounds (s.setJct x) where
  table := ht.trans h.table
  finished := hf.elim (fun e => by rw [State.setJct_jct, e]; exact h.finished) id
  buffer := h.buffer
  heat := h.heat
  pace := h.pace
  heads := h.heads
  link := h.link

theorem Bounds.setInbox {x : List JctMsg} (h : Bounds s) : Bounds (s.setInbox x) := h.congr rfl rfl rfl rfl rfl

theorem Bounds.setPos {x : Pos} (h : Bounds s) : Bounds (s.setPos x) := h.congr rfl rfl rfl rfl rfl

theorem Bounds.setHmp {x : Hmp} (h : Bounds s) : Bounds (s.setHmp x) := h.congr rfl rfl rfl rfl rfl

theorem Bounds.setFlc {x : Flc} (h : Bounds s) : Bounds (s.setFlc x) := h.congr rfl rfl rfl rfl rfl

theorem Bounds.setRtm {x : Rtm} (h : Bounds s) : Bounds (s.setRtm x) := h.congr rfl rfl rfl rfl rfl

theorem Bounds.setPst {x : Pst} (h : Bounds s) : Bounds (s.setPst x) := h.congr rfl rfl rfl rfl rfl

theorem Bounds.setNow {x : Nat} (h : Bounds s) : Bounds (s.setNow x) := h.congr rfl rfl rfl rfl rfl

theorem Bounds.atTick {x : Nat} (h : Bounds s) : Bounds (s.atTick x) := h.congr rfl rfl rfl rfl rfl

theorem Bounds.raise {k : EventKind} (h : Bounds s) : Bounds (s.raise k) := (raise_carries s k).bounds rfl h

theorem Bounds.selectHead {n : Nat} (h : Bounds s) : Bounds (s.selectHead n) := (selectHead_carries s n).bounds (by simp) h

theorem Bounds.headChange {n : Nat} (h : Bounds s) : Bounds (s.takeHeadChange n) :=
  (takeHeadChange_carries s n).bounds (by simp) h

theorem Bounds.setAct {a : ActState} {d : Option ActDeadline} (h : Bounds s) : Bounds (s.setAct a d) :=
  (setAct_carries s a d).bounds (by simp) h

/-- A change of the Bench Link that leaves the receive buffer and the link counters. -/
theorem Bounds.setBlk {x : Blk} (h : Bounds s) (hb : x.buffer = s.blk.buffer)
    (hl : x.counters = s.blk.counters) : Bounds (s.setBlk x) := h.congr rfl hb rfl rfl hl

/-! ## Motion and the Job Controller's work -/

/-- Motion keeps the bounds. -/
theorem Motion.bounds (h : Motion s t) (k : Bounds s) : Bounds t := by
  induction h with
  | refl s => exact k
  | trans _ _ h1 h2 => exact h2 (h1 k)
  | inbox s x => exact k.setInbox
  | pos s x _ => exact k.setPos
  | act s a d _ => exact k.setAct
  | park s _ => exact k.setAct.congr rfl rfl rfl rfl rfl
  | select s n => exact k.selectHead
  | window s x _ => exact k.congr rfl rfl rfl rfl rfl
  | gcu s x => exact k.congr rfl rfl rfl rfl rfl
  | chm s x hh hp => exact k.setChm hh hp
  | raise s e => exact k.raise

/-- A record counted on as WILD keeps the bounds (R12, R51). -/
theorem Bounds.recounted {r : SectorRecord} (h : Bounds s) : Bounds (s.recounted r) := by
  have wild : Bounds (s.countWild r.head) :=
    h.modifyCounters (f := fun c => { c with wild := bump c.wild })
      (fun _ ⟨h1, h2, _, h4⟩ => ⟨h1, h2, bump_le _, h4⟩) rfl
  unfold State.recounted State.reclassify
  split
  · split
    · split
      · exact wild
      · exact h
    · exact h
  · exact h

theorem Bounds.openWindow {k : WindowKind} {n m a : Nat} (h : Bounds s) : Bounds (s.openWindow k n m a) := by
  have h1 : Bounds (s.endWindow (.abandoned .replaced)) := (endWindow_motion s _).bounds h
  unfold State.openWindow
  dsimp only
  split
  · exact h1.congr rfl rfl rfl rfl rfl
  · exact (closeWindow_motion _ _ _).bounds h1

theorem Bounds.speedMonitor {n : Nat} (h : Bounds s) : Bounds (s.speedMonitor n) := by
  have h1 : Bounds (s.setPos { s.pos with indexRef := some n }).restartIndexLimits := (restartIndexLimits_motion _).bounds h.setPos
  unfold State.speedMonitor
  dsimp only
  split
  · exact h1
  · split
    · exact (judgeRevolution_motion _ _).bounds h1
    · exact (judgeRevolution_motion _ _).bounds h1.setPos

theorem Bounds.reload {src : Source} (h : Bounds s) : Bounds (s.reload src) := by
  unfold State.reload
  split
  · exact h
  · exact h.setRtm
  · exact h.setRtm

/-- All the work of the Job Controller keeps the bounds. -/
theorem Work.bounds (h : Work s t) (k : Bounds s) : Bounds t := by
  induction h with
  | refl s => exact k
  | trans _ _ h1 h2 => exact h2 (h1 k)
  | inbox s x => exact k.setInbox
  | jct s x ht hf => exact k.setJct ht hf
  | capture s _ _ _ _ => exact k.setHmp
  | raise s e => exact k.raise
  | reload s src => exact k.reload
  | rest s _ => exact (beginUnload_motion s _).bounds k
  | select s n => exact k.selectHead
  | endWindow s e => exact (endWindow_motion s e).bounds k
  | openWindow s w n m a => exact k.openWindow
  | abortGate s c => exact (abortGate_motion s c).bounds k
  | armGate e => exact (armGate_motion e).bounds k
  | spinUp e => exact (takeSpinUp_motion e).bounds k
  | load e => exact (takeLoad_motion e).bounds k
  | seek e => exact (takeSeek_motion e).bounds k
  | jog e => exact (takeJog_motion e).bounds k

theorem Bounds.transmit (h : Bounds s) : Bounds s.transmit := by
  obtain ⟨x, w, e⟩ := transmit_frame s
  rw [e]
  exact h.setBlk rfl rfl

/-- The end of every arrival keeps the bounds. -/
theorem Bounds.finish (h : Bounds s) : Bounds s.finish := ((drain_work s _).bounds h).transmit

/-! ## Lines -/

/-- The arrival at PARKED, whatever the engine view (R39). -/
theorem Bounds.arrivePark {u : Bool} (h : Bounds s) : Bounds (s.arrivePark u) := by
  unfold State.arrivePark
  extract_lets p s1 s2 s3 s4
  have h2 : Bounds s2 := (endActMove_motion s1 _).bounds h.setPos
  have h3 : Bounds s3 := (h2.setAct (a := .parked) (d := none)).congr rfl rfl rfl rfl rfl
  have h4 : Bounds s4 := by
    show Bounds (if u then s3.raise .motion else s3)
    split
    · exact h3.raise
    · exact h3
  split
  · exact (brake_motion s4).bounds h4
  · exact h4

theorem Bounds.rampArrives (h : Bounds s) : Bounds s.rampArrives := by
  unfold State.rampArrives
  split
  · exact h.arrivePark
  · exact h

theorem Bounds.preampArrives (h : Bounds s) : Bounds s.preampArrives := by
  unfold State.preampArrives
  dsimp only
  split
  · exact Bounds.setInbox ((beginUnload_motion _ _).bounds h.raise)
  · exact h.raise

theorem Bounds.rampLine {l : Ramp} (h : Bounds s) : Bounds (s.rampLine l) := by
  unfold State.rampLine
  split
  · exact h
  · dsimp only
    split
    · exact Bounds.rampArrives h.setFlc
    · exact h.setFlc

theorem Bounds.preampLine {l : PreampLine} (h : Bounds s) : Bounds (s.preampLine l) := by
  unfold State.preampLine
  split
  · exact h
  · dsimp only
    split
    · exact Bounds.preampArrives h.setFlc
    · exact h.setFlc

theorem Bounds.selectToEngine (h : Bounds s) : Bounds s.selectToEngine := Bounds.headChange h.setFlc

theorem Bounds.spindleToEngine (h : Bounds s) : Bounds s.spindleToEngine := (brake_motion _).bounds h.setFlc

theorem Bounds.senseToEngine (h : Bounds s) : Bounds s.senseToEngine := by
  unfold State.senseToEngine
  extract_lets f s1 s2
  have h2 : Bounds s2 := by
    show Bounds (if s.flc.liveRamp ≠ s.flc.heldRamp ∧ s.flc.liveRamp = .onRamp then s1.rampArrives else s1)
    split
    · exact Bounds.rampArrives h.setFlc
    · exact h.setFlc
  split
  · exact h2.preampArrives
  · exact h2

theorem Bounds.toEngine {g : Group} (h : Bounds s) : Bounds (s.toEngine g) := by
  unfold State.toEngine
  split
  · split
    · exact h.selectToEngine.setInbox
    · exact h.spindleToEngine.setInbox
    · exact h.senseToEngine
  · exact h

theorem Bounds.toBench {g : Group} {a b c : Nat} (h : Bounds s) : Bounds (s.toBench g a b c) := by
  unfold State.toBench
  split
  · exact Bounds.headChange h.setFlc
  · dsimp only
    split
    · exact h.setFlc
    · exact (setSpindle_motion _ _).bounds h.setFlc
  · split
    · exact h
    · exact h.setFlc

theorem Bounds.takeLinesWrite {a b c d e : Nat} {g : Group} (h : Bounds s) (k : s.takeLinesWrite a b c d e = .ok (g, t)) :
    Bounds t := by
  unfold State.takeLinesWrite at k
  split at k
  · cases k
  · split at k
    · cases k; exact h.toEngine
    · split at k
      · split at k <;> cases k
        exact h.toBench
      · cases k

/-! ## The Profile Store -/

theorem Bounds.endStartup {p : Profile} {r : StartupRecord} (h : Bounds s) : Bounds (s.endStartup p r) := by
  unfold State.endStartup
  dsimp only
  split
  · exact Bounds.selectHead (Bounds.setHmp h.setPst)
  · exact Bounds.raise (Bounds.selectHead (Bounds.setHmp h.setPst))

theorem Bounds.takeRecord {m : ProfileMemory} (h : Bounds s) : Bounds (s.takeRecord m) := by
  unfold State.takeRecord
  repeat' split
  all_goals exact h.endStartup

theorem Bounds.endRead {a : MemRead} (h : Bounds s) : Bounds (s.endRead a) := by
  unfold State.endRead
  split
  · split
    · exact h.endStartup
    · exact h.takeRecord
    · exact Bounds.takeRecord h.setPst
  · exact h

theorem Bounds.expireRead (h : Bounds s) : Bounds s.expireRead := by
  unfold State.expireRead
  split
  · exact Bounds.endStartup h.atTick
  · exact h

/-- Empty counters are within their bound. -/
theorem zeroCounters_bounded (n : Nat) : ∀ c ∈ List.replicate n ({} : HeadCounters), c.Bounded := fun c hc => by
  rw [List.eq_of_mem_replicate hc]
  exact ⟨Nat.zero_le _, Nat.zero_le _, Nat.zero_le _, Nat.zero_le _⟩

theorem Bounds.clearDecoder (h : Bounds s) : Bounds s.clearDecoder := h.setCounters (zeroCounters_bounded 20)

theorem Bounds.acceptProfile {p : Profile} (h : Bounds s) : Bounds (s.acceptProfile p) :=
  Bounds.selectHead ((changeLevel_motion _ _ _).bounds (Bounds.setHmp (Bounds.setPos (Bounds.clearDecoder h.setPst))))

theorem Bounds.takeProfile {b : List Byte} (h : Bounds s) (k : s.takeProfile b = .ok t) : Bounds t := by
  unfold State.takeProfile at k
  repeat' split at k
  all_goals cases k
  exact h.acceptProfile

theorem Bounds.setMemory {m : ProfileMemory} (h : Bounds s) : Bounds (s.setMemory m) := h.setPst

theorem Bounds.spoilRecord (h : Bounds s) : Bounds s.spoilRecord := h.congr rfl rfl rfl rfl rfl

theorem Bounds.spoilCheck (h : Bounds s) : Bounds s.spoilCheck := h.congr rfl rfl rfl rfl rfl

/-- An answer of the memory keeps the bounds when its taking does. -/
theorem Bounds.memoryAnswer {take : Save → State → State} (h : Bounds s)
    (k : ∀ (v : Save) {r : State}, Bounds r → Bounds (take v r)) : Bounds (s.memoryAnswer take) := by
  rcases memoryAnswer_cases s take with ⟨-, e⟩ | ⟨v, -, -, e⟩ | ⟨v, -, -, e | e⟩ <;> rw [e]
  · exact h.setPst
  · exact k v h
  · exact h.congr rfl rfl rfl rfl rfl
  · exact k v (h.congr rfl rfl rfl rfl rfl)

theorem Bounds.stageDone {v : Save} (h : Bounds s) : Bounds (State.stageDone v s) := by
  unfold State.stageDone
  split
  · exact h.setPst
  · exact Bounds.setPst h.setMemory
  · exact Bounds.raise (Bounds.setPst (Bounds.setPst h.setMemory))

theorem Bounds.failSave {v : Save} (h : Bounds s) : Bounds (State.failSave v s) := by
  refine Bounds.raise (Bounds.setPst (Bounds.setPst ?_))
  unfold State.failedWrite
  split
  · exact h
  · exact h.spoilRecord
  · exact h.spoilCheck

theorem Bounds.expireWrite (h : Bounds s) : Bounds s.expireWrite := by
  unfold State.expireWrite
  split
  · exact h
  · exact Bounds.failSave (Bounds.setPst h.atTick)

theorem Bounds.resetStore (h : Bounds s) : Bounds s.resetStore := by
  unfold State.resetStore
  split
  · exact h
  · refine Bounds.setPst (Bounds.setPst ?_)
    unfold State.leftWrite
    split
    · exact h
    · exact h.spoilRecord
    · exact h.setMemory

/-! ## The resets -/

theorem Bounds.resetSpindle (h : Bounds s) : Bounds s.resetSpindle := by
  unfold State.resetSpindle
  split
  · exact (brake_motion _).bounds h.setPos
  iterate 2
    · dsimp only
      split
      · exact (brake_motion _).bounds h.setPos
      · exact Bounds.setPos h.setPos
  all_goals exact h

theorem Bounds.resetMotion (h : Bounds s) : Bounds s.resetMotion :=
  (beginUnload_motion _ _).bounds (Bounds.resetSpindle h.setPos)

theorem Bounds.resetLines (h : Bounds s) : Bounds s.resetLines := by
  unfold State.resetLines
  extract_lets s1 s2 s3
  have h1 : Bounds s1 := by
    show Bounds (if s.flc.selectBench then s.selectToEngine else s)
    split
    · exact h.selectToEngine
    · exact h
  have h2 : Bounds s2 := by
    show Bounds (if s1.flc.spindleBench then (s1.newSpinDown .bench).spindleToEngine else s1)
    split
    · exact Bounds.spindleToEngine h1.setPos
    · exact h1
  have h3 : Bounds s3 := by
    show Bounds (if s2.flc.senseBench then s2.senseToEngine else s2)
    split
    · exact h2.senseToEngine
    · exact h2
  exact h3.setFlc

theorem Bounds.resetHeat (h : Bounds s) : Bounds s.resetHeat := by
  have h1 : Bounds (s.setChm { s.chm with hot := 0 }) := h.setChm (.inl rfl) (.inl rfl)
  unfold State.resetHeat
  dsimp only
  split
  · exact h1
  · exact (recordLevel_motion _ _ _).bounds h1

/-- The Bench Link's share of a BENCH_RESET (R193): the buffer empty and the link counters 0. -/
theorem Bounds.resetLink (h : Bounds s) : Bounds s.resetLink :=
  ⟨h.table, h.finished, Nat.zero_le _, h.heat, h.pace, h.heads, ⟨Nat.zero_le _, Nat.zero_le _, Nat.zero_le _, Nat.zero_le _⟩⟩

theorem Bounds.benchReset (h : Bounds s) : Bounds s.benchReset := by
  have h1 : Bounds s.resetLink.resetJobs := h.resetLink.setJct (Nat.zero_le _) (.inr (Nat.zero_le _))
  have h2 : Bounds (s.resetLink.resetJobs.resetWindow.resetGate) :=
    (((endWindow_motion _ _).trans (abortGate_motion _ _)).trans (.gcu _ _)).bounds h1
  exact Bounds.clearDecoder (Bounds.resetStore (Bounds.setHmp (Bounds.setRtm h2.resetMotion.resetLines.resetHeat)))

/-- The bounds hold after a power-on reset, from every state. -/
theorem Bounds.powerOn (s : State) : Bounds s.powerOn where
  table := Nat.zero_le _
  finished := Nat.zero_le _
  buffer := Nat.zero_le _
  heat := Nat.zero_le _
  pace := Nat.zero_le _
  heads := zeroCounters_bounded 20
  link := ⟨Nat.zero_le _, Nat.zero_le _, Nat.zero_le _, Nat.zero_le _⟩

/-! ## The requests -/

theorem Bounds.clearEvent {k : EventKind} (h : Bounds s) : Bounds (s.clearEvent k) := h.setBlk rfl rfl

/-- A change of the records of the finished list leaves its length. -/
theorem Bounds.markRead {n : Nat} (h : Bounds s) : Bounds (s.markRead n) where
  table := h.table
  finished := by simpa [State.markRead] using h.finished
  buffer := h.buffer
  heat := h.heat
  pace := h.pace
  heads := h.heads
  link := h.link

theorem Bounds.reqLinkRead {n : Nat} (h : Bounds s) : Bounds (s.reqLinkRead n).2 := by
  unfold State.reqLinkRead
  split
  · exact h
  · dsimp only
    split
    · exact ⟨h.table, h.finished, h.buffer, h.heat, h.pace, h.heads, ⟨Nat.zero_le _, Nat.zero_le _, Nat.zero_le _, Nat.zero_le _⟩⟩
    · exact h.clearEvent

theorem Bounds.reqResultRead {a b : Nat} (h : Bounds s) : Bounds (s.reqResultRead a b).2 := by
  have look : ∀ {u : State}, Bounds u → Bounds u.lookUnread := fun k => by
    unfold State.lookUnread
    split
    · exact k.clearEvent
    · exact k
  refine look ?_
  split
  · unfold State.resultById
    split
    · exact h.markRead
    · split <;> exact h
  · split
    · unfold State.resultOldest
      split
      · exact h.markRead
      · exact h
    · exact h

theorem Bounds.reqMapRead {a b c d : Nat} (h : Bounds s) : Bounds (s.reqMapRead a b c d).2 := by
  unfold State.reqMapRead
  repeat' split
  all_goals exact h

/-- A submission that passes the checks finds fewer than 8 jobs (R100). -/
theorem submitCheck_room {x : Submission} (h : s.submitCheck x = none) : s.jct.table.length < 8 := by
  unfold State.submitCheck at h
  extract_lets n m at h
  split at h
  · cases h
  split at h
  · cases h
  split at h
  · cases h
  split at h
  · cases h
  split at h
  · cases h
  split at h
  · cases h
  split at h
  · cases h
  · omega

theorem Bounds.reqJobSubmit {p : List Byte} (h : Bounds s) : Bounds (s.reqJobSubmit p).2 := by
  unfold State.reqJobSubmit
  split
  · exact h
  · dsimp only
    split
    · exact h
    · have hroom := submitCheck_room ‹_›
      exact ⟨by simp [State.submit, State.goOn]; omega, h.finished, h.buffer, h.heat, h.pace, h.heads, h.link⟩

theorem Bounds.noJob {n : Nat} (h : Bounds s) : Bounds (s.noJob n).2 := by
  unfold State.noJob
  split <;> exact h

theorem Bounds.heldAck (h : Bounds s) : Bounds s.heldAck.2 := by
  unfold State.heldAck
  split <;> exact h

theorem Bounds.reqJobCancel {n : Nat} (h : Bounds s) : Bounds (s.reqJobCancel n).2 := by
  unfold State.reqJobCancel
  split
  · exact (finishJob_work _ _ _ _).bounds h
  · exact h.noJob

theorem Bounds.reqJobSuspend {n : Nat} (h : Bounds s) : Bounds (s.reqJobSuspend n).2 := by
  unfold State.reqJobSuspend
  split
  · exact Bounds.heldAck ((addReason_work _ _).bounds h)
  · exact h.noJob

theorem Bounds.reqJobResume {n : Nat} (h : Bounds s) : Bounds (s.reqJobResume n).2 := by
  unfold State.reqJobResume
  split
  · exact Bounds.heldAck ((dropReason_work _ _).bounds h)
  · exact h.noJob

theorem Bounds.reqMapPublish (h : Bounds s) : Bounds s.reqMapPublish.2 := by
  unfold State.reqMapPublish
  split
  · exact h
  · exact h.setHmp

theorem Bounds.setExcluded {n : Nat} {b : Bool} (h : Bounds s) : Bounds (s.setExcluded n b) := by
  unfold State.setExcluded
  split
  · exact h
  · exact h.setHmp

theorem Bounds.reqMapExclude {n : Nat} (h : Bounds s) : Bounds (s.reqMapExclude n).2 := by
  unfold State.reqMapExclude
  split
  · exact h
  · split
    · exact h
    · exact h.setExcluded

theorem Bounds.reqMapInclude {n : Nat} (h : Bounds s) : Bounds (s.reqMapInclude n).2 := by
  unfold State.reqMapInclude
  split
  · exact h
  · exact h.setExcluded

theorem Bounds.reqMapClear {a b : Nat} (h : Bounds s) : Bounds (s.reqMapClear a b).2 := by
  unfold State.reqMapClear
  repeat' split
  all_goals first | exact h | exact h.setHmp

/-- A manual motion request keeps the bounds when its order is motion. -/
theorem Bounds.motionReply {r : Except Refuse State} (h : Bounds s) (k : ∀ u, r = .ok u → Motion s u) :
    Bounds (s.motionReply r).2 := by
  unfold State.motionReply
  split
  · exact (k _ rfl).bounds h
  · exact h

theorem Bounds.reqSpinUp (h : Bounds s) : Bounds s.reqSpinUp.2 := by
  unfold State.reqSpinUp
  split
  · exact h
  · exact h.motionReply fun _ => takeSpinUp_motion

theorem Bounds.reqSpinDown (h : Bounds s) : Bounds s.reqSpinDown.2 := by
  unfold State.reqSpinDown
  split
  · exact h
  · exact h.motionReply fun _ => takeSpinDown_motion

theorem Bounds.reqHeadsLoad (h : Bounds s) : Bounds s.reqHeadsLoad.2 := by
  unfold State.reqHeadsLoad
  split
  · exact h
  · exact h.motionReply fun _ => takeLoad_motion

theorem Bounds.reqHeadsUnload (h : Bounds s) : Bounds s.reqHeadsUnload.2 := by
  unfold State.reqHeadsUnload
  split
  · exact h
  · exact h.motionReply fun _ e => by cases e; exact beginUnload_motion s _

theorem Bounds.reqSeek {n : Nat} {x : Int} (h : Bounds s) : Bounds (s.reqSeek n x).2 := by
  unfold State.reqSeek
  split
  · exact h
  · split
    · exact h
    · split
      · exact h
      · unfold State.seekReply
        dsimp only
        split
        · exact (takeSeek_motion ‹_›).bounds h
        · exact h

theorem Bounds.reqProfileWrite {p : List Byte} (h : Bounds s) : Bounds (s.reqProfileWrite p).2 := by
  unfold State.reqProfileWrite
  split
  · exact h.takeProfile ‹_›
  · exact h

theorem Bounds.reqProfileSave (h : Bounds s) : Bounds s.reqProfileSave.2 := by
  unfold State.reqProfileSave
  split
  · exact h
  · exact h.setPst

theorem Bounds.reqRestWrite {a b : Nat} {e : List Nat} (h : Bounds s) : Bounds (s.reqRestWrite a b e).2 := by
  unfold State.reqRestWrite
  split
  · unfold State.writeRest
    dsimp only
    split
    · exact (restTest_motion _).bounds (Bounds.reload h.setRtm)
    · exact Bounds.reload h.setRtm
  · exact h.reload

/-- The replacement of the mask leaves the receive side (R189). -/
theorem setMask_receive (b : Blk) (m : EventSet) : (b.setMask m).buffer = b.buffer ∧ (b.setMask m).counters = b.counters := by
  have key : ∀ (ks : List EventKind) (x : Blk), (ks.foldl (Blk.remask b.mask m) x).buffer = x.buffer ∧
      (ks.foldl (Blk.remask b.mask m) x).counters = x.counters := by
    intro ks
    induction ks with
    | nil => exact fun _ => ⟨rfl, rfl⟩
    | cons k ks ih =>
      intro x
      have hx : (Blk.remask b.mask m x k).buffer = x.buffer ∧ (Blk.remask b.mask m x k).counters = x.counters := by
        unfold Blk.remask
        repeat' split
        all_goals exact ⟨rfl, rfl⟩
      exact ⟨(ih _).1.trans hx.1, (ih _).2.trans hx.2⟩
  exact key _ _

theorem Bounds.reqEventMaskWrite {n : Nat} (h : Bounds s) : Bounds (s.reqEventMaskWrite n).2 := by
  unfold State.reqEventMaskWrite
  split
  · exact h
  · exact h.setBlk (setMask_receive _ _).1 (setMask_receive _ _).2

theorem Bounds.reqLinesWrite {a b c d e : Nat} (h : Bounds s) : Bounds (s.reqLinesWrite a b c d e).2 := by
  unfold State.reqLinesWrite
  split
  · exact h.takeLinesWrite ‹_›
  · exact h

theorem Bounds.reqCountersClear {a b : Nat} (h : Bounds s) : Bounds (s.reqCountersClear a b).2 := by
  unfold State.reqCountersClear
  split
  · split
    · exact h
    · refine h.setCounters fun c hc => ?_
      rcases List.mem_or_eq_of_mem_set hc with hc | rfl
      · exact h.heads c hc
      · exact zeroCounters_bounded 1 _ (by simp)
  · split
    · exact h.setCounters (zeroCounters_bounded 20)
    · exact h

/-- Every owner's answer keeps the bounds (R185). -/
theorem Bounds.handle {k : RequestKind} {p : List Byte} (h : Bounds s) : Bounds (s.handle k p).2 := by
  cases k with
  | statusRead => exact h
  | motionRead => exact h.clearEvent
  | thermalRead => exact h.clearEvent
  | linesRead => exact h.clearEvent
  | linkRead => exact h.reqLinkRead
  | countersRead => exact h
  | profileRead => exact h.clearEvent
  | jobList => exact h.clearEvent
  | resultRead => exact h.reqResultRead
  | mapRead => exact h.reqMapRead
  | eventsRead => exact h
  | jobSubmit => exact h.reqJobSubmit
  | jobCancel => exact h.reqJobCancel
  | jobSuspend => exact h.reqJobSuspend
  | jobResume => exact h.reqJobResume
  | mapPublish => exact h.reqMapPublish
  | mapExclude => exact h.reqMapExclude
  | mapInclude => exact h.reqMapInclude
  | mapClear => exact h.reqMapClear
  | spinUp => exact h.reqSpinUp
  | spinDown => exact h.reqSpinDown
  | headsLoad => exact h.reqHeadsLoad
  | headsUnload => exact h.reqHeadsUnload
  | seek => exact h.reqSeek
  | profileWrite => exact h.reqProfileWrite
  | profileSave => exact h.reqProfileSave
  | restWrite => exact h.reqRestWrite
  | eventMaskWrite => exact h.reqEventMaskWrite
  | linesWrite => exact h.reqLinesWrite
  | countersClear => exact h.reqCountersClear
  | benchReset => exact h

/-! ## The Bench Link -/

theorem Bounds.reloadFor {k : RequestKind} (h : Bounds s) : Bounds (s.reloadFor k) := by
  unfold State.reloadFor
  split
  · exact h.reload
  · exact h

theorem Bounds.answer {k : RequestKind} {f : Frame} (h : Bounds s) : Bounds (s.answer k f) := by
  refine Bounds.setBlk (Bounds.handle ?_) rfl rfl
  split
  · exact h
  · exact h.reloadFor

theorem Bounds.judge {f : Frame} (h : Bounds s) : Bounds (s.judge f) := by
  unfold State.judge
  split
  · split <;> exact h.setBlk rfl rfl
  · split
    · exact h.reloadFor.setBlk rfl rfl
    · split
      · split
        · exact h.answer
        · exact h.reloadFor.setBlk rfl rfl
      · exact h.answer

/-- The decoder takes from the buffer (R184). -/
theorem Bounds.decodeNext (h : Bounds s) : Bounds s.decodeNext := by
  unfold State.decodeNext
  split
  · split
    next => exact h
    next f fs hb =>
      have hle := h.buffer
      rw [hb, List.length_cons] at hle
      exact Bounds.judge ⟨h.table, h.finished, by show fs.length ≤ 4; omega, h.heat, h.pace, h.heads, h.link⟩
  · exact h

/-- The link counters saturate at 255 (R183). -/
theorem Bounds.rxFault {f : RxFault} {a b : Option Byte} (h : Bounds s) : Bounds (s.rxFault f a b) := by
  refine Bounds.raise ⟨h.table, h.finished, h.buffer, h.heat, h.pace, h.heads, ?_⟩
  obtain ⟨h1, h2, h3, h4⟩ := h.link
  cases f
  · exact ⟨h1, satAdd_le _ _ _, h3, h4⟩
  · exact ⟨h1, h2, satAdd_le _ _ _, h4⟩
  · exact ⟨satAdd_le _ _ _, h2, h3, h4⟩
  · exact ⟨h1, h2, h3, satAdd_le _ _ _⟩

/-- A frame joins a buffer of fewer than 4 (R184). -/
theorem Bounds.offerFrame {f : Frame} (h : Bounds s) : Bounds (s.offerFrame f) := by
  unfold State.offerFrame
  split
  · exact Bounds.decodeNext
      ⟨h.table, h.finished, by simp only [State.setBlk_blk, List.length_append, List.length_singleton]; omega, h.heat, h.pace,
        h.heads, h.link⟩
  · exact h.rxFault

theorem Bounds.takeByte {b : Byte} (h : Bounds s) : Bounds (s.takeByte b) := by
  unfold State.takeByte
  dsimp only
  split
  · split
    · exact h.setBlk rfl rfl
    · exact h
  · split
    · exact h.setBlk rfl rfl
    · exact Bounds.rxFault (h.setBlk rfl rfl)
  · exact h.setBlk rfl rfl
  · unfold State.takeCheck
    dsimp only
    split
    · exact Bounds.offerFrame (h.setBlk rfl rfl)
    · exact Bounds.rxFault (h.setBlk rfl rfl)

theorem Bounds.expireGap (h : Bounds s) : Bounds s.expireGap := by
  unfold State.expireGap
  split
  · exact Bounds.rxFault (Bounds.setBlk h.atTick rfl rfl)
  · exact h

theorem Bounds.sent {x : Sending} (h : Bounds s) : Bounds (s.sent x) := by
  refine Bounds.decodeNext ?_
  have h1 : Bounds ((s.atTick x.due).setBlk { (s.atTick x.due).blk with sending := none }) := h.atTick.setBlk rfl rfl
  split
  · exact h1.benchReset
  · exact h1

theorem Bounds.transmitDone (h : Bounds s) : Bounds s.transmitDone := by
  unfold State.transmitDone
  split
  · exact h.sent
  · exact h

theorem Bounds.resetTakesEffect (h : Bounds s) : Bounds s.resetTakesEffect := by
  unfold State.resetTakesEffect
  split
  · split
    · exact h.sent
    · exact h
  · exact h

/-! ## Deliveries, deadlines and counts -/

theorem Bounds.deliver {r : SectorRecord} {n : Nat} (h : Bounds s) : Bounds (s.deliver r n) := by
  have h1 : Bounds (s.endSlot r n) := h.modifyCounters (fun _ k => k.count r.cls r.slip) rfl
  have h2 := ((windowRecord_motion _ r).trans (gateRecord_motion _ r n)).bounds
    ((servoRecord_motion (s.endSlot r n) r).bounds h1).recounted
  unfold State.deliver
  dsimp only
  split
  · exact h2.setInbox
  · exact h2

theorem Bounds.endWithMark {a : BitVec 10} {b : BitVec 18} {c d : BitVec 12} {n : Nat} (h : Bounds s) :
    Bounds (s.endWithMark a b c d n) := by
  unfold State.endWithMark
  split
  · exact Bounds.deliver h.atTick
  · exact h

theorem Bounds.endWithMiss (h : Bounds s) : Bounds s.endWithMiss := by
  unfold State.endWithMiss
  split
  · exact Bounds.deliver h.atTick
  · exact h

theorem Bounds.takeIndex {n : Nat} (h : Bounds s) : Bounds (s.takeIndex n) := by
  have h1 := ((gateIndex_motion _ n).trans (windowIndex_motion _)).bounds (Bounds.speedMonitor (n := n) (h.atTick (x := n)))
  unfold State.takeIndex
  dsimp only
  split
  · exact h1.setInbox
  · exact h1

/-- The heat decays by a part of itself (R145). -/
theorem decay_le (p : Profile) (n : Nat) : decay p n ≤ n := Nat.sub_le _ _

theorem Bounds.tickHeat (h : Bounds s) : Bounds s.tickHeat := by
  have h1 : Bounds (s.setChm { s.chm with heat := decay s.prof s.chm.heat }) :=
    h.setChm (.inr ((decay_le _ _).trans h.heat)) (.inl rfl)
  unfold State.tickHeat
  dsimp only
  split
  · exact (addHeat_motion _ _).bounds h1
  · exact h1

theorem Bounds.heatTickArrives (h : Bounds s) : Bounds s.heatTickArrives :=
  ((changeLevel_motion _ _ _).trans ((tickPace_motion _).trans (tickHot_motion _))).bounds
    (Bounds.tickHeat (h.atTick.setChm (.inl rfl) (.inl rfl)))

theorem Bounds.paceRelease (h : Bounds s) : Bounds s.paceRelease := by
  unfold State.paceRelease
  split
  · exact (tickPace_motion s).bounds h
  · exact h

theorem Bounds.hotParkExpiry (h : Bounds s) : Bounds s.hotParkExpiry := by
  unfold State.hotParkExpiry
  split
  · exact (tickHot_motion s).bounds h
  · exact h

theorem Bounds.windowTimeout (h : Bounds s) : Bounds s.windowTimeout := by
  unfold State.windowTimeout
  split
  · split
    · exact (windowIndex_motion s).bounds h
    · exact h
  · exact h

theorem Bounds.overflowU (h : Bounds s) : Bounds s.overflowU := by
  unfold State.overflowU
  split
  · exact (endGate_motion _ _ _ _ _ _ _ _).bounds h.atTick
  · exact h

theorem Bounds.overflowL (h : Bounds s) : Bounds s.overflowL := by
  unfold State.overflowL
  split
  · exact (endGate_motion _ _ _ _ _ _ _ _).bounds h.atTick
  · exact h

theorem Bounds.expireSpinup (h : Bounds s) : Bounds s.expireSpinup := by
  unfold State.expireSpinup
  split
  · exact (((endSpinMove_motion _ _).trans (brake_motion _)).trans (.raise _ _)).bounds h.atTick
  · exact h

theorem Bounds.expireSilence (h : Bounds s) : Bounds s.expireSilence := by
  unfold State.expireSilence
  split
  · exact (arriveOffSpeed_motion _).bounds h.atTick
  · exact h

theorem Bounds.expireQuiet (h : Bounds s) : Bounds s.expireQuiet := by
  unfold State.expireQuiet
  split
  · exact ((endSpinMove_motion _ _).trans (setSpindle_motion _ _)).bounds (Bounds.setPos h.atTick)
  · exact h

theorem Bounds.expireLoad (h : Bounds s) : Bounds s.expireLoad := by
  unfold State.expireLoad
  split
  · exact ((endActMove_motion _ _).trans (beginUnload_motion _ _)).bounds h.atTick
  · exact h

theorem Bounds.expireAcq (h : Bounds s) : Bounds s.expireAcq := by
  unfold State.expireAcq
  split
  · exact (beginUnload_motion _ _).bounds h.atTick
  · exact h

theorem Bounds.expireSeek (h : Bounds s) : Bounds s.expireSeek := by
  unfold State.expireSeek
  split
  · exact ((endActMove_motion _ _).trans (beginUnload_motion _ _)).bounds h.atTick
  · exact h

theorem Bounds.expireSettle (h : Bounds s) : Bounds s.expireSettle := by
  unfold State.expireSettle
  split
  · exact ((endActMove_motion _ _).trans (arriveFollowing_motion _)).bounds h.atTick
  · exact h

theorem Bounds.expireUnload (h : Bounds s) : Bounds s.expireUnload := by
  unfold State.expireUnload
  split
  · exact Bounds.arrivePark h.atTick
  · exact h

theorem Bounds.expireTimer {w : RestTimer} (h : Bounds s) : Bounds (s.expireTimer w) := by
  unfold State.expireTimer
  repeat' split
  all_goals first | exact h | exact (restTest_motion _).bounds (Bounds.setRtm h.atTick)

theorem Bounds.expireRecovery (h : Bounds s) : Bounds s.expireRecovery := by
  unfold State.expireRecovery
  split
  · exact (finishActive_work _ _ _).bounds h.atTick
  · exact h

/-! ## Every command -/

theorem Bounds.arrival (h : Bounds s) {u : State} (e : arrival s = .next u) : Bounds u := arrival_eq_next.mp e ▸ h.finish

theorem Bounds.request {n : Nat} {tag : Byte} {p : List Byte} (h : Bounds s) (e : request n tag p s = .next t) : Bounds t :=
  request_eq_next e ▸ h.offerFrame.finish

/-- Every command keeps the bounds. -/
theorem Bounds.exec {c : Instr} (h : Bounds s) (e : exec c s = .next t) : Bounds t := by
  cases c with
  | powerOnReset => exact (Bounds.powerOn s).arrival e
  | slotEndMark => exact h.endWithMark.arrival e
  | slotEndMiss => exact h.endWithMiss.arrival e
  | indexArrival => exact h.takeIndex.arrival e
  | rampSenseChange => exact h.rampLine.arrival e
  | preampFaultChange => exact h.preampLine.arrival e
  | heatTick => exact h.heatTickArrives.arrival e
  | seekPaceRelease => exact h.paceRelease.arrival e
  | hotParkCountExpiry => exact h.hotParkExpiry.arrival e
  | spinupMsExpiry => exact h.expireSpinup.arrival e
  | indexSilenceExpiry => exact h.expireSilence.arrival e
  | brakingQuietExpiry => exact h.expireQuiet.arrival e
  | loadMsExpiry => exact h.expireLoad.arrival e
  | acqMsExpiry => exact h.expireAcq.arrival e
  | seekMsExpiry => exact h.expireSeek.arrival e
  | settleMsExpiry => exact h.expireSettle.arrival e
  | unloadMsExpiry => exact h.expireUnload.arrival e
  | windowTimeout => exact h.windowTimeout.arrival e
  | gateUOverflow => exact h.overflowU.arrival e
  | gateLOverflow => exact h.overflowL.arrival e
  | restTimerExpiry => exact h.expireTimer.arrival e
  | spindleRecoveryExpiry => exact h.expireRecovery.arrival e
  | profileMemoryReadDone => exact h.endRead.arrival e
  | profileLoadLimitExpiry => exact h.expireRead.arrival e
  | profileMemoryWriteDone => exact (h.memoryAnswer fun _ _ k => k.stageDone).arrival e
  | profileMemoryFault => exact (h.memoryAnswer fun _ _ k => k.failSave).arrival e
  | saveWriteLimitExpiry => exact h.expireWrite.arrival e
  | byteReceived => exact h.takeByte.arrival e
  | gapLimitExpiry => exact h.expireGap.arrival e
  | transmitComplete => exact h.transmitDone.arrival e
  | benchResetEffect => exact h.resetTakesEffect.arrival e
  | _ => exact h.request ((exec_request rfl s).symm.trans e)

/-- Settles O8: an idle tick moves the clock alone, and every command keeps the bounds (`Bounds.exec`). -/
theorem everyStepKeepsTheBounds : Obligations.EveryStepKeepsTheBounds := by
  intro s t h e
  unfold step at e
  split at e
  next => cases e; exact h.setNow
  next c cs _ => exact Bounds.exec (s := s.setPending cs) (h.congr rfl rfl rfl rfl rfl) e

end Sys2Proof.Machine
end

section
/-! PROOF. The Sector Decoder's arithmetic (R3 to R5) and the values after the power-on reset. -/

namespace Sys2Proof.Machine

/-! ## The track code (R3) -/

/-- The top `n` digits of the track number of a code, decided going down from the most significant. -/
def topDigits (code : BitVec 18) : Nat → Nat
  | 0 => 0
  | n + 1 => grayStep code (topDigits code n) (17 - n)

theorem decodeTrack_eq_topDigits (code : BitVec 18) : decodeTrack code = topDigits code 18 := rfl

/-- A decided digit joins below those decided before. -/
theorem topDigits_succ (code : BitVec 18) (n : Nat) :
    topDigits code (n + 1) = 2 * topDigits code n + (code.getLsbD (17 - n) != (topDigits code n).testBit 0).toNat := by
  show grayStep code _ _ = _
  unfold grayStep
  rw [Nat.testBit_zero, show (topDigits code n % 2 == 1) = decide (topDigits code n % 2 = 1) from rfl]
  split
  · rename_i h; rw [h]; simp
  · rename_i h; rw [bne_iff_ne.mpr h]; rfl

theorem topDigits_lt (code : BitVec 18) (n : Nat) : topDigits code n < 2 ^ n := by
  induction n with
  | zero => exact Nat.one_pos
  | succ n ih =>
    have hb := Bool.toNat_le (code.getLsbD (17 - n) != (topDigits code n).testBit 0)
    rw [topDigits_succ, Nat.pow_succ]
    omega

/-- The digits decided before stand one place higher. -/
theorem topDigits_testBit_succ (code : BitVec 18) (n i : Nat) :
    (topDigits code (n + 1)).testBit (i + 1) = (topDigits code n).testBit i := by
  have hb := Bool.toNat_le (code.getLsbD (17 - n) != (topDigits code n).testBit 0)
  rw [Nat.testBit_succ, topDigits_succ]
  congr 1
  omega

/-- The digit decided last is 1 exactly when the code digit in its place differs from the digit above it. -/
theorem topDigits_testBit_zero (code : BitVec 18) (n : Nat) :
    (topDigits code (n + 1)).testBit 0 = (code.getLsbD (17 - n) != (topDigits code n).testBit 0) := by
  rw [topDigits_succ, Nat.testBit_zero]
  cases (code.getLsbD (17 - n) != (topDigits code n).testBit 0)
  · simp
  · simp only [Bool.toNat_true, decide_eq_true_eq]; omega

/-- Every decided digit is 1 exactly when the code digit in its place differs from the digit above it. -/
theorem topDigits_testBit (code : BitVec 18) (n i : Nat) (hn : n ≤ 18) (h : i < n) :
    (topDigits code n).testBit i = (code.getLsbD (18 - n + i) != (topDigits code n).testBit (i + 1)) := by
  induction n generalizing i with
  | zero => omega
  | succ n ih =>
    cases i with
    | zero => rw [topDigits_testBit_zero, topDigits_testBit_succ, show 18 - (n + 1) + 0 = 17 - n by omega]
    | succ i =>
      rw [topDigits_testBit_succ, topDigits_testBit_succ, ih i (by omega) (by omega),
        show 18 - (n + 1) + (i + 1) = 18 - n + i by omega]

/-- Settles O9: each digit by `topDigits_testBit`; above the top digit stands no digit. -/
theorem trackCodeDecodesDigitByDigit : Obligations.TrackCodeDecodesDigitByDigit := by
  intro code
  have hlt : decodeTrack code < 2 ^ 18 := topDigits_lt code 18
  have digit : ∀ i, i < 18 →
      (decodeTrack code).testBit i = (code.getLsbD i != (decodeTrack code).testBit (i + 1)) := fun i hi => by
    have h := topDigits_testBit code 18 i (le_refl _) hi
    rwa [Nat.sub_self, Nat.zero_add, ← decodeTrack_eq_topDigits] at h
  refine ⟨hlt, ?_, fun i hi => digit i (by omega)⟩
  rw [digit 17 (by omega), Nat.testBit_lt_two_pow hlt, Bool.bne_false]

/-! ## Classes and the PES (R4, R5) -/

/-- Settles O10: the checks of R4 in their order. -/
theorem recordGetsTheFirstClassThatApplies : Obligations.RecordGetsTheFirstClassThatApplies := by
  intro p mark
  refine ⟨rfl, rfl, fun m => ⟨fun hw => ?_, fun ht ha => ?_, fun ht ha => ?_⟩⟩
  · simp [classify, hw]
  · simp [classify, Nat.not_lt.mpr ht, ha]
  · simp [classify, Nat.not_lt.mpr ht, Nat.not_lt.mpr ha]

/-- The magnitude of the PES: the quotient of the magnitudes, rounded down (R5). -/
theorem pesOf_natAbs (m : Mark) : (pesOf m).natAbs = 8192 * ((m.e : Int) - m.o).natAbs / (m.e + m.o) := by
  unfold pesOf
  rw [Int.natAbs_tdiv, Int.natAbs_mul, Int.natAbs_natCast]
  rfl

/-- The difference of the two amplitudes never exceeds their sum, so the PES never exceeds 8192 (R5). -/
theorem pesOf_natAbs_le (m : Mark) : (pesOf m).natAbs ≤ 8192 := by
  rw [pesOf_natAbs]
  refine Nat.div_le_of_le_mul ?_
  rw [Nat.mul_comm]
  exact Nat.mul_le_mul_right _ (by omega)

/-- Settles O11: the magnitude by `pesOf_natAbs`, the sign by that of the difference. -/
theorem pesIsTruncatedTowardZero : Obligations.PesIsTruncatedTowardZero := by
  intro m _
  have hle := pesOf_natAbs_le m
  refine ⟨pesOf_natAbs m, fun h => ?_, fun h => ?_, by omega, by omega⟩
  · exact Int.tdiv_nonneg (by omega) (by omega)
  · have hn : 0 ≤ (-(8192 * ((m.e : Int) - m.o))).tdiv (m.e + m.o : Nat) := Int.tdiv_nonneg (by omega) (by omega)
    rw [Int.neg_tdiv] at hn
    exact Int.neg_nonneg.mp hn

/-! ## The values after the power-on reset -/

/-- Settles O3: each value as State.reset writes it. -/
theorem resetValues : Obligations.ResetValues where
  sdc := rfl
  spindle := ⟨rfl, rfl, rfl⟩
  index := ⟨rfl, rfl⟩
  actuator := ⟨rfl, rfl, rfl, rfl⟩
  runs := ⟨rfl, rfl, rfl, rfl, rfl, rfl⟩
  moves := ⟨rfl, rfl, rfl, rfl, rfl⟩
  window := rfl
  gate := ⟨rfl, rfl, rfl, rfl, rfl, rfl, rfl⟩
  jobs := ⟨rfl, rfl, rfl, rfl, rfl⟩
  maps := ⟨rfl, rfl, rfl, rfl⟩
  heat := ⟨rfl, rfl, rfl, rfl, rfl, rfl⟩
  timers := rfl
  owners := ⟨rfl, rfl, rfl⟩
  levels := ⟨rfl, rfl, rfl, rfl, rfl, rfl⟩
  store := ⟨rfl, rfl, rfl, rfl⟩
  link := ⟨rfl, rfl, rfl, rfl, rfl, rfl, rfl, rfl, rfl, rfl⟩

/-- The power-on values hold of every state that agrees with State.reset but for the levels of the input lines, what the fixture
profile memory holds, the model's counts and the queue (log 30). -/
theorem AtPowerOn.congr {s t : State} (h : AtPowerOn s) (hn : t.now = s.now) (hs : t.sdc = s.sdc) (hp : t.pos = s.pos)
    (hw : t.window = s.window) (hg : t.gcu = s.gcu) (hj : t.jct = s.jct) (hm : t.hmp = s.hmp) (hc : t.chm = s.chm)
    (hr : t.rtm = s.rtm) (hb : t.blk = s.blk)
    (hf : t.flc = { s.flc with
      liveRamp := t.flc.liveRamp, livePreamp := t.flc.livePreamp, heldRamp := t.flc.liveRamp, heldPreamp := t.flc.livePreamp })
    (hst : t.pst = { s.pst with memory := t.pst.memory, late := t.pst.late }) : AtPowerOn t where
  sdc := hs ▸ h.sdc
  spindle := hp ▸ h.spindle
  index := hp ▸ h.index
  actuator := hp ▸ h.actuator
  runs := hp ▸ h.runs
  moves := hp ▸ h.moves
  window := hw ▸ h.window
  gate := hg ▸ h.gate
  jobs := hj ▸ h.jobs
  maps := hm ▸ h.maps
  heat := by rw [hc, hn]; exact h.heat
  timers := hr ▸ h.timers
  owners := by rw [hf]; exact h.owners
  levels := by
    obtain ⟨h1, h2, h3, h4, -, -⟩ := h.levels
    rw [hf]
    exact ⟨by rw [show t.prof = s.prof by unfold State.prof; rw [hst]]; exact h1, h2, h3, h4, rfl, rfl⟩
  store := by rw [hst, hn]; exact h.store
  link := hb ▸ h.link

/-- Settles O4: nothing is reported and nothing waits after the reset, so its arrival ends in the state that it sets. -/
theorem powerOnResetSetsEveryBlock : Obligations.PowerOnResetSetsEveryBlock := by
  intro s
  have hf : s.powerOn.finish = s.powerOn := (finish_of_nil rfl).trans (transmit_nothing rfl)
  refine ⟨s.powerOn, arrival_eq_next.mpr hf, ?_, rfl, rfl, rfl, fun hs => ?_⟩
  · exact resetValues.congr rfl rfl rfl rfl rfl rfl rfl rfl rfl rfl rfl rfl
  · have hr : s.resetStore = s := by unfold State.resetStore; rw [hs]
    exact ⟨by show s.resetStore.pst.memory = _; rw [hr], by show s.resetStore.free = _; rw [hr]⟩

/-- Settles O6: State.reset is what the power-on reset makes of itself (`MotionLaw.powerOn`, `Bounds.powerOn`). -/
theorem invariantsHoldAtReset : Obligations.InvariantsHoldAtReset :=
  ⟨MotionLaw.powerOn State.reset, Bounds.powerOn State.reset⟩

end Sys2Proof.Machine
end

section
/-! PROOF. The arrival at PARKED (R39), as one equation, and the two endings of an unload. -/

namespace Sys2Proof.Machine

variable (s : State)

/-! ## Reports that only a RUNNING job hears -/

/-- Reports that only a RUNNING job hears (R109 to R115). -/
def ForJob (ms : List JctMsg) : Prop := ms.all JctMsg.needsRunning = true

theorem ForJob.nil : ForJob [] := rfl

theorem ForJob.posChanged : ForJob [.posChanged] := rfl

theorem ForJob.moveEnded (k : MoveKind) (o : MoveOutcome) (n : Nat) : ForJob [.moveEnded k o n] := rfl

theorem ForJob.append {xs ys : List JctMsg} (hx : ForJob xs) (hy : ForJob ys) : ForJob (xs ++ ys) := by
  unfold ForJob at *
  rw [List.all_append, hx, hy]
  rfl

/-- The state with more reports handed to the Job Controller (log 15). -/
def State.tells (s : State) (ms : List JctMsg) : State := s.setInbox (s.inbox ++ ms)

@[simp] theorem State.tells_nil : s.tells [] = s := by simp [State.tells]

@[simp] theorem State.tells_tells (xs ys : List JctMsg) : (s.tells xs).tells ys = s.tells (xs ++ ys) := by
  simp [State.tells]

@[simp] theorem State.tells_pos (ms : List JctMsg) : (s.tells ms).pos = s.pos := rfl
@[simp] theorem State.tells_sdc (ms : List JctMsg) : (s.tells ms).sdc = s.sdc := rfl
@[simp] theorem State.tells_blk (ms : List JctMsg) : (s.tells ms).blk = s.blk := rfl
@[simp] theorem State.tells_inbox (ms : List JctMsg) : (s.tells ms).inbox = s.inbox ++ ms := rfl
@[simp] theorem State.tells_setPos (ms : List JctMsg) (x : Pos) : (s.tells ms).setPos x = (s.setPos x).tells ms := rfl
@[simp] theorem State.tells_setSdc (ms : List JctMsg) (x : Sdc) : (s.tells ms).setSdc x = (s.setSdc x).tells ms := rfl
@[simp] theorem State.tells_setBlk (ms : List JctMsg) (x : Blk) : (s.tells ms).setBlk x = (s.setBlk x).tells ms := rfl

/-- With no job RUNNING an arrival whose reports only a RUNNING job hears ends with the transmitter's start (log 15). -/
theorem finish_tells {ms : List JctMsg} (hr : s.running = none) (hi : s.inbox = []) (hm : ForJob ms) :
    (s.tells ms).finish = s.transmit := by
  have hx : (s.tells ms).inbox = ms := by rw [State.tells_inbox, hi, List.nil_append]
  rw [finish_noneRuns (s := s.tells ms) hr (by rw [hx]; exact hm)]
  congr 1
  show s.setInbox [] = s
  rw [← hi]
  rfl

/-! ## Moves and their outcomes (R25) -/

theorem benchOutcome_of_bench {m : Move} (h : m.owner = .bench) (b : Option (MoveKind × MoveOutcome)) (o : MoveOutcome) :
    benchOutcome b (some m) o = some (m.kind, o) := if_pos h

theorem benchOutcome_of_not_bench {m : Move} (h : m.owner ≠ .bench) (b : Option (MoveKind × MoveOutcome)) (o : MoveOutcome) :
    benchOutcome b (some m) o = b := if_neg h

/-- The Positioner once the actuator move has ended with an outcome (R25). -/
def Pos.moveDone (p : Pos) (o : MoveOutcome) : Pos :=
  { p with actMove := none, lastBench := benchOutcome p.lastBench p.actMove o }

theorem Pos.moveDone_of_none {p : Pos} (h : p.actMove = none) (o : MoveOutcome) : p.moveDone o = p := by
  cases p
  subst h
  rfl

/-- All that the end of the actuator move does (R25): a bench move is kept, a job's move is reported. -/
theorem endActMove_eq (o : MoveOutcome) :
    ∃ ms, ForJob ms ∧ s.endActMove o = (s.setPos (s.pos.moveDone o)).tells ms := by
  unfold State.endActMove
  split
  next m h =>
    unfold State.reportMove Pos.moveDone
    rw [h]
    split
    next ho => exact ⟨[], .nil, by rw [benchOutcome_of_bench ho, State.tells_nil]; rfl⟩
    next n ho =>
      exact ⟨[.moveEnded m.kind o n], .moveEnded _ _ _, by rw [benchOutcome_of_not_bench (by simp [ho])]; rfl⟩
    next ho => exact ⟨[], .nil, by rw [benchOutcome_of_not_bench (by simp [ho]), State.tells_nil]⟩
  next h => exact ⟨[], .nil, by rw [Pos.moveDone_of_none h, State.tells_nil]; rfl⟩

/-! ## The arrival at PARKED -/

/-- A change of actuator state that neither leaves PARKED nor departs from FOLLOWING (R23, R24). -/
theorem setAct_between {a : ActState} {d : Option ActDeadline} (hp : s.pos.act ≠ .parked) (hf : s.pos.act ≠ .following) :
    s.setAct a d =
      (s.setPos { s.pos with act := a, deadline := d, acqRun := 0, settleRun := 0, otRun := 0, lossRun := 0 }).tells
        [.posChanged] := by
  unfold State.setAct
  dsimp only
  rw [if_neg (fun h => hf h.1), if_neg (fun h => hp h.1)]
  rfl

/-- The Positioner after braking from tick `n` on (R22, R28). -/
def Pos.braked (p : Pos) (n : Nat) : Pos :=
  { p with
    spindle := .braking, spinDownPending := false, spinupDue := none, silenceDue := none, quietDue := some (n + 100000000) }

theorem brake_eq : s.brake = (s.setPos (s.pos.braked s.now)).tells [.posChanged] := rfl

/-- The Positioner after an arrival at PARKED (R39), before a pending spin-down is carried out. -/
def Pos.rested (p : Pos) (unconfirmed : Bool) : Pos :=
  { p with
    act := .parked, deadline := none, acqRun := 0, settleRun := 0, otRun := 0, lossRun := 0, actMove := none
    lastBench := benchOutcome p.lastBench p.actMove (if unconfirmed then .parkedUnconfirmed else .parked)
    lastPark := some (p.unloadCause, unconfirmed) }

/-- The Positioner after an arrival at PARKED at tick `n`: a pending spin-down is carried out (R28, R39). -/
def Pos.parked (p : Pos) (unconfirmed : Bool) (n : Nat) : Pos :=
  if p.spinDownPending then (p.rested unconfirmed).braked n else p.rested unconfirmed

/-- The Sector Decoder after an arrival at PARKED (R1, R6, R9). -/
def Sdc.stopped (d : Sdc) : Sdc := { d with expect := none, marker := false, slotDue := none }

/-- The Bench Link after an arrival at PARKED: UNCONFIRMED makes MOTION pending (R39). -/
def Blk.parked (b : Blk) (unconfirmed : Bool) : Blk := if unconfirmed then b.raise .motion else b

/-- The arrival at PARKED from UNLOADING, whole (R39). -/
theorem arrivePark_eq (u : Bool) (ha : s.pos.act = .unloading) : ∃ ms, ForJob ms ∧ s.arrivePark u =
    (((s.setPos (s.pos.parked u s.now)).setSdc s.sdc.stopped).setBlk (s.blk.parked u)).tells ms := by
  obtain ⟨ms, hm, e⟩ := endActMove_eq (s.setPos { s.pos with lastPark := some (s.pos.unloadCause, u) })
    (if u then .parkedUnconfirmed else .parked)
  have hs : (((s.setPos { s.pos with lastPark := some (s.pos.unloadCause, u) }).endActMove
      (if u then .parkedUnconfirmed else .parked)).setAct .parked none).stopSlots =
      ((s.setPos (s.pos.rested u)).setSdc s.sdc.stopped).tells (ms ++ [.posChanged]) := by
    rw [e, setAct_between _ (by show s.pos.act ≠ _; rw [ha]; decide) (by show s.pos.act ≠ _; rw [ha]; decide)]
    simp only [State.tells_setPos, State.tells_tells]
    rfl
  have hblk : (if u then ((s.setPos (s.pos.rested u)).setSdc s.sdc.stopped).tells (ms ++ [.posChanged]) |>.raise .motion
      else ((s.setPos (s.pos.rested u)).setSdc s.sdc.stopped).tells (ms ++ [.posChanged])) =
      (((s.setPos (s.pos.rested u)).setSdc s.sdc.stopped).setBlk (s.blk.parked u)).tells (ms ++ [.posChanged]) := by
    cases u <;> rfl
  unfold State.arrivePark
  dsimp only
  rw [hs, hblk]
  by_cases hd : s.pos.spinDownPending = true
  · refine ⟨ms ++ [.posChanged] ++ [.posChanged], (hm.append .posChanged).append .posChanged, ?_⟩
    rw [if_pos (by exact hd), brake_eq, State.tells_setPos, State.tells_tells]
    unfold Pos.parked
    rw [if_pos hd]
    rfl
  · refine ⟨ms ++ [.posChanged], hm.append .posChanged, ?_⟩
    rw [if_neg (by exact hd)]
    unfold Pos.parked
    rw [if_neg hd]

/-! ## The endings of an unload -/

/-- The Positioner and the Sector Decoder of an arrival at PARKED are those that R39 names. -/
theorem parkedFrom_of {s t : State} {u : Bool} {n : Nat} (hp : t.pos = s.pos.parked u n) (hs : t.sdc = s.sdc.stopped)
    (hc : t.chm = s.chm) (hst : t.pst = s.pst) (hm : t.hmp = s.hmp) : ParkedFrom s u t := by
  have hact : t.pos.act = .parked := by rw [hp]; unfold Pos.parked; split <;> rfl
  refine ⟨hact, State.coilDrive_parked hact, ?_, ?_, fun m hm ho => ?_, ?_, ?_, ?_, ?_, ?_, ?_, hc, hst, hm⟩
  · rw [hp]; unfold Pos.parked; split <;> rfl
  · rw [hp]; unfold Pos.parked; split <;> rfl
  · have hb : t.pos.lastBench = benchOutcome s.pos.lastBench s.pos.actMove (if u then .parkedUnconfirmed else .parked) := by
      rw [hp]; unfold Pos.parked; split <;> rfl
    rw [hb, hm]
    simp [benchOutcome, ho]
  · rw [hp]; unfold Pos.parked; split <;> rfl
  · rw [hs]; exact ⟨rfl, rfl, rfl, rfl⟩
  · rw [hp]; unfold Pos.parked; split <;> rfl
  · rw [hp]
    unfold Pos.parked
    split
    · rfl
    · rename_i h; exact Bool.eq_false_iff.mpr h
  · rw [hp]; unfold Pos.parked; split <;> rfl
  · rw [hp]; unfold Pos.parked; split <;> rfl

/-- An arrival that ends in PARKED with no job RUNNING: all of it (R39). -/
theorem arrivePark_finish {s : State} {u : Bool} (hr : s.running = none) (hi : s.inbox = []) (ha : s.pos.act = .unloading) :
    ParkedFrom s u (s.arrivePark u).finish ∧ (s.arrivePark u).finish.flc = s.flc ∧ (s.arrivePark u).finish.now = s.now ∧
      (u = true → (s.arrivePark u).finish.blk.events.motion = true) := by
  obtain ⟨ms, hm, e⟩ := arrivePark_eq s u ha
  have hf := finish_tells (((s.setPos (s.pos.parked u s.now)).setSdc s.sdc.stopped).setBlk (s.blk.parked u)) hr hi hm
  obtain ⟨x, w, hx⟩ := transmit_frame (((s.setPos (s.pos.parked u s.now)).setSdc s.sdc.stopped).setBlk (s.blk.parked u))
  rw [e, hf, hx]
  refine ⟨parkedFrom_of rfl rfl rfl rfl rfl, rfl, rfl, fun hu => ?_⟩
  subst hu
  exact raise_has s .motion

/-- Settles O19: both endings are the arrival at PARKED (`arrivePark_finish`), from the state with the new level or at the
deadline's tick. -/
theorem unloadEndsAtParked : Obligations.UnloadEndsAtParked := by
  intro s d ⟨hr, hi⟩ ha
  refine ⟨fun ho hl => ?_, fun hd => ?_⟩
  · have he : s.rampLine .onRamp = (s.setFlc { s.flc with liveRamp := .onRamp }).arrivePark false := by
      simp [State.rampLine, State.rampArrives, hl, ho, ha]
    obtain ⟨hp, hf, hn, -⟩ :=
      arrivePark_finish (s := s.setFlc { s.flc with liveRamp := .onRamp }) (u := false) hr hi ha
    refine ⟨_, rfl, ?_⟩
    rw [he]
    exact ⟨⟨hp.act, hp.coil, hp.deadline, hp.move, hp.outcome, hp.record, hp.slots, hp.spindle, hp.pending, hp.kept⟩, hf, hn⟩
  · have he : s.expireUnload = (s.atTick d).arrivePark true := by
      simp [State.expireUnload, State.deadlineOf, hd, ha, DeadlineKind.runsIn]
    obtain ⟨hp, hf, hn, hm⟩ := arrivePark_finish (s := s.atTick d) (u := true) hr hi ha
    refine ⟨_, rfl, ?_⟩
    rw [he]
    exact ⟨⟨hp.act, hp.coil, hp.deadline, hp.move, hp.outcome, hp.record, hp.slots, hp.spindle, hp.pending, hp.kept⟩, hm rfl, hf,
      hn⟩

end Sys2Proof.Machine
end

section
/-! PROOF. BENCH_RESET taking effect (R42, R170, R192): every block's share as an equation, then the whole state. -/

namespace Sys2Proof.Machine

variable (s : State)

/-! ## The Positioner's values, share by share -/

/-- The values of the reset before any motion (R42). -/
def Pos.cleared (p : Pos) : Pos :=
  { p with
    inTol := 0, outTol := 0, acqRun := 0, settleRun := 0, otRun := 0, lossRun := 0
    held := none, spinMove := none, actMove := resetMove p.actMove, lastBench := none, spinDownPending := false }

/-- A spin-down move of BENCH in flight (R42). -/
def Pos.spunDown (p : Pos) : Pos := { p with spinMove := some { kind := .spinDown, owner := .bench } }

/-- The braking of the reset at tick `n` (R42). -/
def Pos.stopping (p : Pos) (n : Nat) : Pos :=
  match p.spindle with
  | .accelerating => p.spunDown.braked n
  | .atSpeed | .offSpeed =>
    if p.act = .parked then p.spunDown.braked n else { p.spunDown with spinDownPending := true }
  | .stopped => p
  | .braking => p
  | .bench => p

/-- An unload with cause BENCH begun, its deadline at tick `due` (R38). -/
def Pos.unloadBegun (p : Pos) (due : Nat) : Pos :=
  { p.moveDone (.interrupted (.unload .bench)) with
    act := .unloading, deadline := some { kind := .unload, due := due }, acqRun := 0, settleRun := 0, otRun := 0
    lossRun := 0, actMove := some { kind := .unload, owner := .bench }, unloadCause := .bench }

/-- Loaded heads unload; on the ramp the unload ends at once (R38, R39). -/
def Pos.unloaded (p : Pos) (onRamp : Bool) (due n : Nat) : Pos :=
  if p.act.isLoaded then if onRamp then (p.unloadBegun due).parked false n else p.unloadBegun due else p

/-- The SPINDLE group's return brakes the spindle (R42, R165). -/
def Pos.spindleBack (p : Pos) (back : Bool) (n : Nat) : Pos := if back then p.spunDown.braked n else p

/-- An arrival of ON_RAMP ends an unload (R39, R166). -/
def Pos.rampBack (p : Pos) (arrives : Bool) (n : Nat) : Pos :=
  if arrives = true ∧ p.act = .unloading then p.parked false n else p

/-! ## What a share of the reset may do -/

/-- The state `t` is `s` with the Positioner `p`, the lines `f` and the Bench Link `b`, reports handed over, and the Sector
Decoder's values open but for the slot, which runs on outside PARKED. -/
def Turned (s : State) (p : Pos) (f : Flc) (b : Blk) (t : State) : Prop :=
  ∃ ms d, (p.act ≠ .parked → d.slotDue = s.sdc.slotDue) ∧ t = ((((s.setPos p).setSdc d).setFlc f).setBlk b).tells ms

/-- What reports nothing. -/
theorem Turned.still {s : State} (p : Pos) (f : Flc) (b : Blk) {d : Sdc} (hd : p.act ≠ .parked → d.slotDue = s.sdc.slotDue) :
    Turned s p f b ((((s.setPos p).setSdc d).setFlc f).setBlk b) := ⟨[], d, hd, (State.tells_nil _).symm⟩

theorem Turned.refl : Turned s s.pos s.flc s.blk s := .still s.pos s.flc s.blk (d := s.sdc) fun _ => rfl

theorem Turned.trans {s t u : State} {p q : Pos} {f g : Flc} {b c : Blk} (h : Turned s p f b t) (k : Turned t q g c u)
    (hq : q.act ≠ .parked → p.act ≠ .parked) : Turned s q g c u := by
  obtain ⟨ms, d, hd, rfl⟩ := h
  obtain ⟨ns, e, he, rfl⟩ := k
  refine ⟨ms ++ ns, e, fun hp => (he hp).trans (hd (hq hp)), ?_⟩
  rw [← State.tells_tells]
  rfl

theorem Turned.reads {s t : State} {p : Pos} {f : Flc} {b : Blk} (h : Turned s p f b t) :
    t.pos = p ∧ t.flc = f ∧ t.blk = b ∧ t.now = s.now := by
  obtain ⟨ms, d, -, rfl⟩ := h
  exact ⟨rfl, rfl, rfl, rfl⟩

theorem takeHeadChange_turned (n : Nat) : Turned s s.pos s.flc s.blk (s.takeHeadChange n) := by
  unfold State.takeHeadChange
  split
  · exact .refl s
  · exact .still s.pos s.flc s.blk (d := { s.sdc with marker := s.pos.act != .parked }) fun _ => rfl

theorem spunDown_brake_turned : Turned s (s.pos.spunDown.braked s.now) s.flc s.blk (s.newSpinDown .bench).brake :=
  ⟨[.posChanged], s.sdc, fun _ => rfl, rfl⟩

theorem Pos.parked_act (p : Pos) (u : Bool) (n : Nat) : (p.parked u n).act = .parked := by unfold Pos.parked; split <;> rfl

theorem arrivePark_turned (ha : s.pos.act = .unloading) :
    Turned s (s.pos.parked false s.now) s.flc s.blk (s.arrivePark false) := by
  obtain ⟨ms, -, e⟩ := arrivePark_eq s false ha
  exact ⟨ms, s.sdc.stopped, fun h => absurd (Pos.parked_act _ _ _) h, e⟩

/-- On the ramp an unload ends at once (R38, R39). -/
theorem Turned.parkedIf {s t : State} {p : Pos} {f : Flc} {b : Blk} {c : Prop} [Decidable c] (h : Turned s p f b t)
    (ha : p.act = .unloading) :
    Turned s (if c then p.parked false s.now else p) f b (if c then t.arrivePark false else t) := by
  obtain ⟨ms, d, hd, rfl⟩ := h
  split
  · exact Turned.trans ⟨ms, d, hd, rfl⟩ (arrivePark_turned _ (by exact ha)) (fun _ => by rw [ha]; decide)
  · exact ⟨ms, d, hd, rfl⟩

/-! ## The Positioner's share -/

theorem resetSpindle_turned : Turned s (s.pos.stopping s.now) s.flc s.blk s.resetSpindle := by
  have away : Turned s (if s.pos.act = .parked then s.pos.spunDown.braked s.now
        else { s.pos.spunDown with spinDownPending := true }) s.flc s.blk
      (if (s.newSpinDown .bench).pos.act = .parked then (s.newSpinDown .bench).brake
        else (s.newSpinDown .bench).setPos { s.pos.spunDown with spinDownPending := true }) := by
    by_cases h : s.pos.act = .parked
    · rw [if_pos h, if_pos (by exact h)]; exact spunDown_brake_turned s
    · rw [if_neg h, if_neg (by exact h)]
      exact .still { s.pos.spunDown with spinDownPending := true } s.flc s.blk (d := s.sdc) fun _ => rfl
  unfold State.resetSpindle Pos.stopping
  cases s.pos.spindle with
  | accelerating => exact spunDown_brake_turned s
  | atSpeed => exact away
  | offSpeed => exact away
  | stopped => exact .refl s
  | braking => exact .refl s
  | bench => exact .refl s

/-- A departure from FOLLOWING with no window open and no job RUNNING is told to no one (R31, R93). -/
theorem departFollowing_idle (hw : s.window = none) (hr : s.running = none) (a : ActState) : s.departFollowing a = s := by
  have he : s.endWindow (departureEnding a) = s := by unfold State.endWindow; rw [hw]
  have hp : s.runningPhase = none := by unfold State.runningPhase; rw [hr]; rfl
  unfold State.departFollowing
  dsimp only
  rw [he, hp, if_neg (by decide)]

/-- With no window open and no job, the change to UNLOADING of loaded heads reports itself and nothing else. -/
theorem setAct_unloading (hl : s.pos.act.isLoaded = true) (hw : s.window = none) (ht : s.jct.table = [])
    (d : Option ActDeadline) : s.setAct .unloading d =
      (s.setPos { s.pos with act := .unloading, deadline := d, acqRun := 0, settleRun := 0, otRun := 0, lossRun := 0 }).tells
        [.posChanged] := by
  have hp : s.pos.act ≠ .parked := fun h => by rw [h] at hl; cases hl
  by_cases hf : s.pos.act = .following
  · unfold State.setAct
    dsimp only
    rw [if_pos ⟨hf, by decide⟩, if_neg (fun h => hp h.1)]
    rw [departFollowing_idle _ (by exact hw) (by exact running_noJobs ht)]
    rfl
  · exact setAct_between s hp hf

/-- The unload of loaded heads with cause BENCH, as one equation (R38). -/
theorem unload_eq (hh : s.pos.held = none) (hw : s.window = none) (ht : s.jct.table = []) (hl : s.pos.act.isLoaded = true) :
    ∃ ms, s.beginUnload .bench =
      if s.rampView = .onRamp then ((s.setPos (s.pos.unloadBegun (s.inMs s.prof.unloadMs))).tells ms).arrivePark false
      else (s.setPos (s.pos.unloadBegun (s.inMs s.prof.unloadMs))).tells ms := by
  obtain ⟨ms, -, e⟩ := endActMove_eq s (.interrupted (.unload .bench))
  have hd : s.discardHeld (.unload .bench) = s := by unfold State.discardHeld; rw [hh]
  have hs := setAct_unloading ((s.setPos (s.pos.moveDone (.interrupted (.unload .bench)))).tells ms) hl hw ht
  refine ⟨ms ++ [.posChanged], ?_⟩
  unfold State.beginUnload
  rw [if_pos hl]
  extract_lets s1 s2 p s3 s4
  have h4 : s4 = (s.setPos (s.pos.unloadBegun (s.inMs s.prof.unloadMs))).tells (ms ++ [.posChanged]) := by
    rw [← State.tells_tells]
    simp only [s4, s3, p, s2, s1, if_true, hd, e, hs]
    rfl
  rw [h4]
  rfl

theorem beginUnload_turned (hh : s.pos.held = none) (hw : s.window = none) (ht : s.jct.table = []) :
    Turned s (s.pos.unloaded (s.rampView == .onRamp) (s.inMs s.prof.unloadMs) s.now) s.flc s.blk (s.beginUnload .bench) := by
  by_cases hl : s.pos.act.isLoaded = true
  · obtain ⟨ms, e⟩ := unload_eq s hh hw ht hl
    have hb : Turned s (s.pos.unloadBegun (s.inMs s.prof.unloadMs)) s.flc s.blk
        ((s.setPos (s.pos.unloadBegun (s.inMs s.prof.unloadMs))).tells ms) := ⟨ms, s.sdc, fun _ => rfl, rfl⟩
    have hc := hb.parkedIf (c := s.rampView = .onRamp) rfl
    rw [e]
    unfold Pos.unloaded
    rw [if_pos hl]
    simp only [beq_iff_eq]
    exact hc
  · unfold State.beginUnload Pos.unloaded
    rw [if_neg hl, if_neg hl]
    exact .refl s

/-! ## The other shares -/

/-- The lines with every group the engine's and the bench settings at their values (R170). -/
def Flc.returned (f : Flc) : Flc :=
  { f with
    selectBench := false, spindleBench := false, senseBench := false, benchHead := 0, benchMode := .standby
    benchSpin := false, heldRamp := f.liveRamp, heldPreamp := f.livePreamp }

/-- Whether the SENSE group's return is an arrival of ON_RAMP (R166). -/
def Flc.rampReturns (f : Flc) : Bool := f.senseBench && decide (f.liveRamp ≠ f.heldRamp ∧ f.liveRamp = .onRamp)

/-- Whether the SENSE group's return is an arrival of an active fault (R166, R167). -/
def Flc.faultReturns (f : Flc) : Bool :=
  f.senseBench && decide (f.livePreamp ≠ f.heldPreamp ∧ f.livePreamp = .active)

/-- A kind becomes pending when the condition holds. -/
def Blk.raiseIf (b : Blk) (c : Bool) (k : EventKind) : Blk := if c then b.raise k else b

theorem Pos.rampBack_act (p : Pos) (r : Bool) (n : Nat) (hl : p.act.isLoaded = false) :
    (p.rampBack r n).act.isLoaded = false := by
  unfold Pos.rampBack
  split
  · rw [Pos.parked_act]; rfl
  · exact hl

theorem Pos.rampBack_parked (p : Pos) (r : Bool) (n : Nat) (h : (p.rampBack r n).act ≠ .parked) : p.act ≠ .parked := by
  unfold Pos.rampBack at h
  split at h
  · exact absurd (Pos.parked_act _ _ _) h
  · exact h

theorem Pos.spindleBack_act (p : Pos) (b : Bool) (n : Nat) : (p.spindleBack b n).act = p.act := by
  unfold Pos.spindleBack
  split <;> rfl

/-- The SELECT group's return drives the engine selection again (R164). -/
theorem selectToEngine_turned : Turned s s.pos { s.flc with selectBench := false } s.blk s.selectToEngine :=
  Turned.trans (.still s.pos { s.flc with selectBench := false } s.blk (d := s.sdc) fun _ => rfl)
    (takeHeadChange_turned (s.setFlc { s.flc with selectBench := false }) s.drivenHead) id

/-- The SPINDLE group's return in the reset: BRAKING, with a spin-down move of BENCH (R42, R165). -/
theorem spindleToEngine_turned :
    Turned s (s.pos.spunDown.braked s.now) { s.flc with spindleBench := false } s.blk (s.newSpinDown .bench).spindleToEngine :=
  ⟨[.posChanged], s.sdc, fun _ => rfl, rfl⟩

/-- The ramp's share of the SENSE group's return (R39, R166). -/
theorem rampArrives_turned {t : State} {f : Flc} {b : Blk} {c : Prop} [Decidable c] {r : Bool} (hr : r = true ↔ c)
    (h : Turned s s.pos f b t) :
    Turned s (s.pos.rampBack r s.now) f b (if c then t.rampArrives else t) := by
  have hp : t.pos = s.pos := by obtain ⟨ms, d, -, rfl⟩ := h; rfl
  unfold Pos.rampBack State.rampArrives
  rw [hp]
  by_cases hc : c
  · rw [if_pos hc]
    by_cases ha : s.pos.act = .unloading
    · have hk := h.parkedIf (c := True) ha
      rw [if_pos trivial, if_pos trivial] at hk
      rw [if_pos ⟨hr.mpr hc, ha⟩, if_pos ha]
      exact hk
    · rw [if_neg (fun k => ha k.2), if_neg ha]
      exact h
  · rw [if_neg hc, if_neg (fun k => hc (hr.mp k.1))]
    exact h

/-- With no loaded heads an active fault makes PREAMP pending and no more (R167). -/
theorem preampArrives_unloaded (hl : s.pos.act.isLoaded = false) : s.preampArrives = s.raise .preamp := by
  unfold State.preampArrives
  exact if_neg (by rw [Bool.not_eq_true]; exact hl)

/-- The SENSE group's return with no loaded heads: the ramp first, then the fault (R166, log 23). -/
theorem senseToEngine_turned (hb : s.flc.senseBench = true) (hl : s.pos.act.isLoaded = false) :
    Turned s (s.pos.rampBack s.flc.rampReturns s.now) { s.flc with senseBench := false }
      (s.blk.raiseIf s.flc.faultReturns .preamp) s.senseToEngine := by
  have hr : s.flc.rampReturns = true ↔ s.flc.liveRamp ≠ s.flc.heldRamp ∧ s.flc.liveRamp = .onRamp := by
    simp [Flc.rampReturns, hb]
  have hf : s.flc.faultReturns = true ↔ s.flc.livePreamp ≠ s.flc.heldPreamp ∧ s.flc.livePreamp = .active := by
    simp [Flc.faultReturns, hb]
  have h2 := rampArrives_turned s hr
    (.still s.pos { s.flc with senseBench := false } s.blk (d := s.sdc) fun _ => rfl)
  unfold State.senseToEngine Blk.raiseIf
  extract_lets f s1 s2
  have h2 : Turned s (s.pos.rampBack s.flc.rampReturns s.now) { s.flc with senseBench := false } s.blk s2 := h2
  by_cases hc : s.flc.livePreamp ≠ s.flc.heldPreamp ∧ s.flc.livePreamp = .active
  · obtain ⟨ms, d, hd, e⟩ := h2
    rw [if_pos hc, if_pos (hf.mpr hc), preampArrives_unloaded _ (by rw [e]; exact Pos.rampBack_act _ _ _ hl), e]
    exact ⟨ms, d, hd, rfl⟩
  · rw [if_neg hc, if_neg (fun k => hc (hf.mp k))]
    exact h2

/-- A group's return that is taken only when the bench owns the group. -/
theorem Turned.returnIf {s t u : State} {p q : Pos} {f g : Flc} {b c : Blk} {o : Bool} (ht : Turned s p f b t)
    (hu : o = true → Turned t q g c u) (hv : o = false → q = p ∧ g = f ∧ c = b) (hq : q.act ≠ .parked → p.act ≠ .parked) :
    Turned s q g c (if o = true then u else t) := by
  cases o with
  | true => exact ht.trans (hu rfl) hq
  | false =>
    obtain ⟨rfl, rfl, rfl⟩ := hv rfl
    exact ht

/-- Fixture Line Control's share with no loaded heads (R170). -/
theorem resetLines_turned (hl : s.pos.act.isLoaded = false) :
    Turned s ((s.pos.spindleBack s.flc.spindleBench s.now).rampBack s.flc.rampReturns s.now) s.flc.returned
      (s.blk.raiseIf s.flc.faultReturns .preamp) s.resetLines := by
  unfold State.resetLines
  extract_lets s1 s2 s3 f
  have h1 : Turned s s.pos { s.flc with selectBench := false } s.blk s1 :=
    (Turned.refl s).returnIf (fun _ => selectToEngine_turned s) (fun h => ⟨rfl, by rw [← h], rfl⟩) id
  obtain ⟨p1, f1, b1, n1⟩ := h1.reads
  have h2 : Turned s (s.pos.spindleBack s.flc.spindleBench s.now)
      { s.flc with selectBench := false, spindleBench := false } s.blk s2 := by
    have e : s2 = if s.flc.spindleBench = true then (s1.newSpinDown .bench).spindleToEngine else s1 := by
      simp only [s2, f1]
    rw [e]
    refine h1.returnIf (fun h => ?_) (fun h => ⟨by rw [h]; rfl, by rw [← h], rfl⟩) (by rw [Pos.spindleBack_act]; exact id)
    have hk := spindleToEngine_turned s1
    rw [p1, f1, b1, n1] at hk
    rw [h]
    exact hk
  obtain ⟨p2, f2, b2, n2⟩ := h2.reads
  have h3 : Turned s ((s.pos.spindleBack s.flc.spindleBench s.now).rampBack s.flc.rampReturns s.now)
      { s.flc with selectBench := false, spindleBench := false, senseBench := false }
      (s.blk.raiseIf s.flc.faultReturns .preamp) s3 := by
    have e : s3 = if s.flc.senseBench = true then s2.senseToEngine else s2 := by simp only [s3, f2]
    rw [e]
    refine h2.returnIf (fun h => ?_) (fun h => ?_) (Pos.rampBack_parked _ _ _)
    · have hk := senseToEngine_turned s2 (by rw [f2]; exact h) (by rw [p2, Pos.spindleBack_act]; exact hl)
      rw [p2, f2, b2, n2] at hk
      exact hk
    · have hr : s.flc.rampReturns = false := by unfold Flc.rampReturns; rw [h]; rfl
      have hf : s.flc.faultReturns = false := by unfold Flc.faultReturns; rw [h]; rfl
      exact ⟨by rw [hr]; exact if_neg (fun k => Bool.noConfusion k.1), by rw [← h], by rw [hf]; rfl⟩
  obtain ⟨ms, d, hd, e⟩ := h3
  refine ⟨ms, d, hd, ?_⟩
  show s3.setFlc { s3.flc with
    benchHead := 0, benchMode := .standby, benchSpin := false, heldRamp := s3.flc.liveRamp
    heldPreamp := s3.flc.livePreamp } = _
  rw [e]
  rfl

end Sys2Proof.Machine
end

section
/-! PROOF. BENCH_RESET taking effect, whole (R192): the shares of P6 put together, and what they say block by block. -/

namespace Sys2Proof.Machine

variable (s : State)

/-! ## The shares of the other blocks -/

/-- The Bench Link after its share (R193). -/
def Blk.cleared (b : Blk) : Blk :=
  { b with
    buffer := [], counters := {}, lastFault := none, events := EventSet.all false, mask := EventSet.all true
    waiting := b.waiting.filter fun w => w.isReply }

/-- The Job Controller after its share (R124). -/
def Jct.cleared (j : Jct) : Jct :=
  { table := [], finished := [], nextId := 1, ctx := {}, attempt := j.attempt + 1, zoneFailed := false, recoverDue := none }

/-- The engine selection once the open window has ended (R61): a probing window gives the anchor back. -/
def State.headAfterWindow (s : State) : Nat :=
  match s.window with
  | some w => if w.probing then s.prof.anchor else s.flc.engineHead
  | none => s.flc.engineHead

/-- The last ending record after the abort of the reset (R84, R85, R87). -/
def Gcu.lastAborted (g : Gcu) : Option GateRecord :=
  if g.state = .idle then g.last
  else some
    { ending := .aborted, abortCause := some .reset, mode := g.mode, head := g.head, value := none
      closedBy := none, marks := none, overflowed := none }

/-- The Gate Counter Unit after its share (R87). -/
def Gcu.cleared (g : Gcu) : Gcu :=
  { g with
    state := .idle, mode := .chained, head := none, stageL := 0, stageU := 0, overflow := none, last := g.lastAborted }

/-- The Coil Heat Monitor after its share (R155). -/
def Chm.afterReset (c : Chm) (p : Profile) : Chm :=
  if levelOfHeat p c.heat = c.level then { c with hot := 0 }
  else
    { c with
      hot := 0, level := levelOfHeat p c.heat
      last := some { before := c.level, after := levelOfHeat p c.heat, cause := .reset } }

/-- The Profile Store after its share (R180), the memory's bytes open. -/
def Pst.abandoned (p : Pst) (m : ProfileMemory) : Pst :=
  match p.save with
  | none => p
  | some _ => { p with state := .ready, save := none, lastSave := .abandoned, memory := m, late := p.late + 1 }

/-- A change of the driven head touches only the recovery marker (R6). -/
theorem takeHeadChange_eq (n : Nat) : ∃ m, s.takeHeadChange n = s.setSdc { s.sdc with marker := m } := by
  unfold State.takeHeadChange
  split
  · exact ⟨s.sdc.marker, rfl⟩
  · exact ⟨_, rfl⟩

theorem resetWindow_eq : ∃ m, s.resetWindow =
    ((s.setSdc { s.sdc with marker := m }).setFlc { s.flc with engineHead := s.headAfterWindow }).setWindow none := by
  unfold State.resetWindow State.endWindow State.headAfterWindow
  cases hw : s.window with
  | none =>
    refine ⟨s.sdc.marker, ?_⟩
    show s = s.setWindow none
    rw [← hw]
    rfl
  | some w =>
    unfold State.closeWindow
    cases hp : w.probing with
    | false => exact ⟨s.sdc.marker, by simp [hp, WindowEnding.reported]; rfl⟩
    | true =>
      obtain ⟨m, e⟩ := takeHeadChange_eq (s.setFlc { s.flc with engineHead := s.prof.anchor }) s.drivenHead
      refine ⟨m, ?_⟩
      simp only [hp, if_true, WindowEnding.reported, State.selectHead, e]
      rfl

/-- The abort of the reset is reported to no one (R85). -/
theorem endGate_reset (o : Option Stage) (l u : Nat) : s.endGate .aborted (some .reset) none none o l u =
    s.setGcu
      { s.gcu with
        state := .idle, stageL := l, stageU := u, overflow := o
        last := some
          { ending := .aborted, abortCause := some .reset, mode := s.gcu.mode, head := s.gcu.head, value := none
            closedBy := none, marks := none, overflowed := none } } := by
  simp [State.endGate]

theorem resetGate_eq : s.resetGate = s.setGcu s.gcu.cleared := by
  unfold State.resetGate State.abortGate Gcu.cleared Gcu.lastAborted
  cases hg : s.gcu.state with
  | idle => simp only [if_true, hg]
  | armed => simp only [endGate_reset]; rfl
  | counting => simp only [endGate_reset]; rfl

theorem resetHeat_eq : s.resetHeat = (s.setChm (s.chm.afterReset s.prof)).setBlk
    (s.blk.raiseIf (decide ((s.chm.afterReset s.prof).level ≠ s.chm.level)) .thermal) := by
  unfold State.resetHeat Chm.afterReset Blk.raiseIf
  dsimp only
  by_cases h : levelOfHeat s.prof s.chm.heat = s.chm.level
  · rw [if_pos (by exact h), if_pos h, if_neg (by simp)]
    rfl
  · rw [if_neg (by exact h), if_neg h, if_pos (by simpa using h)]
    rfl

theorem leftWrite_eq (st : SaveStage) : ∃ m n, s.leftWrite st = (s.setMemory m).setFree n :=
  ⟨(s.leftWrite st).pst.memory, (s.leftWrite st).free, by cases st <;> rfl⟩

theorem resetStore_eq : ∃ m n, s.resetStore = (s.setPst (s.pst.abandoned m)).setFree n := by
  unfold State.resetStore Pst.abandoned
  cases hs : s.pst.save with
  | none => exact ⟨s.pst.memory, s.free, rfl⟩
  | some v =>
    obtain ⟨m, n, e⟩ := leftWrite_eq s v.stage
    exact ⟨m, n, by dsimp only; rw [e]; rfl⟩

/-! ## The whole reset -/

/-- The Positioner after the reset (R42, R170). -/
def State.resetPos (s : State) : Pos :=
  (((s.pos.cleared.stopping s.now).unloaded (s.rampView == .onRamp) (s.inMs s.prof.unloadMs) s.now).spindleBack
    s.flc.spindleBench s.now).rampBack s.flc.rampReturns s.now

/-- The Bench Link after the reset: PREAMP first, then THERMAL (log 23). -/
def State.resetBlk (s : State) : Blk :=
  (s.blk.cleared.raiseIf s.flc.faultReturns .preamp).raiseIf
    (decide ((s.chm.afterReset s.prof).level ≠ s.chm.level)) .thermal

/-- The state after the reset, the values open that it does not fix: the Sector Decoder's before its share, the memory's bytes,
the count of free values and the reports of the arrival. -/
def State.afterReset (s : State) (d : Sdc) (m : ProfileMemory) (n : Nat) (ms : List JctMsg) : State :=
  { s with
    sdc := { d with expect := none, marker := false, counters := List.replicate 20 {} }
    pos := s.resetPos
    window := none
    gcu := s.gcu.cleared
    jct := s.jct.cleared
    hmp := { s.hmp with working := s.emptyCopy, unpub := s.hmp.gen != 0 }
    chm := s.chm.afterReset s.prof
    rtm := Rtm.reset
    flc := { s.flc with engineHead := s.headAfterWindow }.returned
    pst := s.pst.abandoned m
    blk := s.resetBlk
    free := n
    inbox := ms }

theorem Pos.unloaded_act (p : Pos) (r : Bool) (due n : Nat) : (p.unloaded r due n).act.isLoaded = false := by
  unfold Pos.unloaded
  split
  · split
    · rw [Pos.parked_act]; rfl
    · rfl
  · rename_i h; exact Bool.not_eq_true _ ▸ h

/-! ## The actuator's half of the Positioner -/

/-- The Positioner's values but for the spindle's own (R22, R28): what the braking of the reset leaves as it is. -/
def Pos.arm (p : Pos) : Pos :=
  { p with
    spindle := .stopped, spinDownPending := false, spinupDue := none, silenceDue := none, quietDue := none, spinMove := none }

theorem Pos.stopping_arm (p : Pos) (n : Nat) : (p.stopping n).arm = p.arm := by
  unfold Pos.stopping
  cases p.spindle with
  | accelerating => rfl
  | atSpeed => dsimp only; split <;> rfl
  | offSpeed => dsimp only; split <;> rfl
  | stopped => rfl
  | braking => rfl
  | bench => rfl

theorem Pos.stopping_act (p : Pos) (n : Nat) : (p.stopping n).act = p.act := by
  have h := congrArg Pos.act (Pos.stopping_arm p n)
  exact h

theorem Pos.stopping_held (p : Pos) (n : Nat) : (p.stopping n).held = p.held := by
  have h := congrArg Pos.held (Pos.stopping_arm p n)
  exact h

theorem Pos.spindleBack_arm (p : Pos) (b : Bool) (n : Nat) : (p.spindleBack b n).arm = p.arm := by cases b <;> rfl

theorem Pos.parked_arm (p : Pos) (u : Bool) (n : Nat) : (p.parked u n).arm = p.arm.parked u n := by
  unfold Pos.parked
  split <;> rfl

theorem Pos.unloaded_arm (p : Pos) (r : Bool) (due n : Nat) : (p.unloaded r due n).arm = p.arm.unloaded r due n := by
  unfold Pos.unloaded
  rw [show p.arm.act = p.act from rfl]
  split
  · split
    · exact Pos.parked_arm _ _ _
    · rfl
  · rfl

theorem Pos.rampBack_arm (p : Pos) (r : Bool) (n : Nat) : (p.rampBack r n).arm = p.arm.rampBack r n := by
  unfold Pos.rampBack
  by_cases h : r = true ∧ p.act = .unloading
  · rw [if_pos h, if_pos (by exact h)]; exact Pos.parked_arm _ _ _
  · rw [if_neg h, if_neg (by exact h)]

/-- The actuator's half of the reset knows nothing of the spindle's. -/
theorem resetPos_arm : s.resetPos.arm =
    (s.pos.cleared.arm.unloaded (s.rampView == .onRamp) (s.inMs s.prof.unloadMs) s.now).rampBack s.flc.rampReturns s.now := by
  unfold State.resetPos
  rw [Pos.rampBack_arm, Pos.spindleBack_arm, Pos.unloaded_arm, Pos.stopping_arm]

/-! ## The whole -/

/-- The Positioner's share with no window open and no job (R42). -/
theorem resetMotion_turned (hw : s.window = none) (ht : s.jct.table = []) :
    Turned s ((s.pos.cleared.stopping s.now).unloaded (s.rampView == .onRamp) (s.inMs s.prof.unloadMs) s.now) s.flc s.blk
      s.resetMotion := by
  have h0 : Turned s s.pos.cleared s.flc s.blk s.clearMotion :=
    .still s.pos.cleared s.flc s.blk (d := s.sdc) fun _ => rfl
  have h1 := h0.trans (resetSpindle_turned s.clearMotion)
    (by rw [Pos.stopping_act]; exact id)
  unfold State.resetMotion
  have hk : (s.pos.cleared.stopping s.now).held = none := Pos.stopping_held s.pos.cleared s.now
  obtain ⟨ms, d, hd, e⟩ := h1
  rw [e]
  refine Turned.trans ⟨ms, d, hd, rfl⟩ (beginUnload_turned _ (by exact hk) (by exact hw) (by exact ht)) (fun h hp => h ?_)
  have hp : (s.pos.cleared.stopping s.now).act = .parked := hp
  unfold Pos.unloaded
  rw [if_neg (by rw [hp]; decide)]
  exact hp

/-- The shares behind the lines' (R9, R15, R142, R155, R162, R180). -/
theorem lastShares_eq : ∃ m n, (((s.resetHeat).setRtm Rtm.reset).resetMap.resetStore).clearDecoder =
    { s with
      sdc := { s.sdc with expect := none, marker := false, counters := List.replicate 20 {} }
      hmp := { s.hmp with working := s.emptyCopy, unpub := s.hmp.gen != 0 }
      chm := s.chm.afterReset s.prof
      rtm := Rtm.reset
      pst := s.pst.abandoned m
      blk := s.blk.raiseIf (decide ((s.chm.afterReset s.prof).level ≠ s.chm.level)) .thermal
      free := n } := by
  obtain ⟨m, n, es⟩ := resetStore_eq ((s.resetHeat).setRtm Rtm.reset).resetMap
  refine ⟨m, n, ?_⟩
  rw [es, resetHeat_eq]
  simp only [State.resetMap, State.emptyCopy, State.prof, State.setRtm_pst, State.setRtm_hmp, State.setBlk_pst,
    State.setBlk_hmp, State.setChm_pst, State.setChm_hmp, State.setHmp_pst]
  simp only [State.clearDecoder, State.setSdc, State.setFree, State.setPst, State.setHmp, State.setRtm, State.setBlk,
    State.setChm]

theorem benchReset_eq : ∃ d m n ms, (s.resetPos.act ≠ .parked → d.slotDue = s.sdc.slotDue) ∧
    s.benchReset = s.afterReset d m n ms := by
  obtain ⟨mk, ew⟩ := resetWindow_eq s.resetLink.resetJobs
  have eg := resetGate_eq s.resetLink.resetJobs.resetWindow
  rw [ew] at eg
  have h1 := resetMotion_turned s.resetLink.resetJobs.resetWindow.resetGate (by rw [ew, eg]; rfl) (by rw [ew, eg]; rfl)
  rw [ew, eg] at h1
  obtain ⟨p1, f1, b1, n1⟩ := h1.reads
  have h2 := h1.trans (resetLines_turned _ (by rw [p1]; exact Pos.unloaded_act _ _ _ _)) (by
    rw [p1]; intro h; have h := Pos.rampBack_parked _ _ _ h; rw [Pos.spindleBack_act] at h; exact h)
  rw [p1, f1, b1, n1] at h2
  obtain ⟨ms, d, hd, e⟩ := h2
  unfold State.benchReset
  rw [ew, eg, e]
  obtain ⟨m, n, es⟩ := lastShares_eq _
  rw [es]
  exact ⟨d, m, n, s.inbox ++ ms, hd, rfl⟩
end Sys2Proof.Machine
end

section
/-! PROOF. What the reset says block by block (R15, R42, R61, R87, R124, R142, R155, R162, R170, R180, R193). -/

namespace Sys2Proof.Machine

variable (s : State)

/-! ## The spindle's half -/

/-- BRAKING from tick `n` on with nothing pending and a spin-down move of BENCH in flight (R22, R42). -/
def Pos.BrakingFrom (p : Pos) (n : Nat) : Prop :=
  p.spindle = .braking ∧ p.quietDue = some (n + 100000000) ∧ p.spinMove = some { kind := .spinDown, owner := .bench } ∧
    p.spinDownPending = false

/-- The spindle's half of the Positioner that the reset speaks of. -/
def Pos.turn (p : Pos) : SpindleState × Option Nat × Option Move × Bool :=
  (p.spindle, p.quietDue, p.spinMove, p.spinDownPending)

theorem Pos.BrakingFrom.of_turn {p q : Pos} {n : Nat} (h : p.BrakingFrom n) (e : q.turn = p.turn) : q.BrakingFrom n := by
  obtain ⟨e1, e2, e3, e4⟩ : q.spindle = p.spindle ∧ q.quietDue = p.quietDue ∧ q.spinMove = p.spinMove ∧
    q.spinDownPending = p.spinDownPending := by simpa [Pos.turn] using e
  unfold Pos.BrakingFrom
  rw [e1, e2, e3, e4]
  exact h

theorem Pos.spunDown_braked (p : Pos) (n : Nat) : (p.spunDown.braked n).BrakingFrom n := ⟨rfl, rfl, rfl, rfl⟩

/-- An arrival at PARKED with no spin-down pending leaves the spindle as it is (R28). -/
theorem Pos.parked_turn {p : Pos} (h : p.spinDownPending = false) (u : Bool) (n : Nat) : (p.parked u n).turn = p.turn := by
  unfold Pos.parked
  rw [if_neg (by rw [h]; decide)]
  rfl

theorem Pos.unloaded_turn {p : Pos} (h : p.spinDownPending = false) (r : Bool) (due n : Nat) :
    (p.unloaded r due n).turn = p.turn := by
  unfold Pos.unloaded
  split
  · split
    · exact Pos.parked_turn (p := p.unloadBegun due) h _ _
    · rfl
  · rfl

theorem Pos.rampBack_turn {p : Pos} (h : p.spinDownPending = false) (r : Bool) (n : Nat) : (p.rampBack r n).turn = p.turn := by
  unfold Pos.rampBack
  split
  · exact Pos.parked_turn h _ _
  · rfl

theorem Pos.unloadBegun_act (p : Pos) (due : Nat) : (p.unloadBegun due).act = .unloading := rfl

/-- Of a spindle that turned at speed `v` (R42): braking once the arm is PARKED, until then to brake at that arrival. -/
def Pos.BrakesParked (p : Pos) (v : SpindleState) (n : Nat) : Prop :=
  p.spinMove = some { kind := .spinDown, owner := .bench } ∧ (p.act = .parked → p.BrakingFrom n) ∧
    (p.act ≠ .parked → p.spindle = v ∧ p.spinDownPending = true)

theorem Pos.BrakesParked.parked {p : Pos} {v : SpindleState} {n : Nat} (h : p.BrakesParked v n) (ha : p.act ≠ .parked) (u : Bool) :
    (p.parked u n).BrakesParked v n := by
  obtain ⟨hm, -, hb⟩ := h
  unfold Pos.parked
  rw [if_pos (hb ha).2]
  exact ⟨hm, fun _ => ⟨rfl, rfl, hm, rfl⟩, fun k => absurd rfl k⟩

theorem Pos.BrakesParked.unloaded {p : Pos} {v : SpindleState} {n : Nat} (h : p.BrakesParked v n) (r : Bool) (due : Nat) :
    (p.unloaded r due n).BrakesParked v n := by
  unfold Pos.unloaded
  split
  next hl =>
    have ha : p.act ≠ .parked := fun k => by rw [k] at hl; cases hl
    have hu : (p.unloadBegun due).act ≠ .parked := by rw [Pos.unloadBegun_act]; decide
    have hb : (p.unloadBegun due).BrakesParked v n := ⟨h.1, fun k => absurd k hu, fun _ => h.2.2 ha⟩
    split
    · exact hb.parked hu false
    · exact hb
  next => exact h

theorem Pos.BrakesParked.rampBack {p : Pos} {v : SpindleState} {n : Nat} (h : p.BrakesParked v n) (r : Bool) :
    (p.rampBack r n).BrakesParked v n := by
  unfold Pos.rampBack
  split
  next k => exact h.parked (by rw [k.2]; decide) false
  next => exact h

theorem Pos.stopping_brakesParked {p : Pos} (h : p.spindle = .atSpeed ∨ p.spindle = .offSpeed) (n : Nat) :
    (p.stopping n).BrakesParked p.spindle n := by
  have key : (if p.act = .parked then p.spunDown.braked n else { p.spunDown with spinDownPending := true }).BrakesParked
      p.spindle n := by
    split
    next ha => exact ⟨rfl, fun _ => p.spunDown_braked n, fun k => absurd ha k⟩
    next ha => exact ⟨rfl, fun k => absurd k ha, fun _ => ⟨rfl, rfl⟩⟩
  unfold Pos.stopping
  rcases h with h | h
  · rw [h] at key ⊢; exact key
  · rw [h] at key ⊢; exact key

/-- An accelerating spindle brakes at once (R42). -/
theorem resetPos_of_accelerating (h : s.pos.spindle = .accelerating) : s.resetPos.BrakingFrom s.now := by
  have h1 : (s.pos.cleared.stopping s.now).BrakingFrom s.now := by
    unfold Pos.stopping
    rw [show s.pos.cleared.spindle = .accelerating from h]
    exact Pos.spunDown_braked _ _
  have h2 := h1.of_turn (Pos.unloaded_turn h1.2.2.2 (s.rampView == .onRamp) (s.inMs s.prof.unloadMs) s.now)
  have h3 : Pos.BrakingFrom (((s.pos.cleared.stopping s.now).unloaded (s.rampView == .onRamp) (s.inMs s.prof.unloadMs)
      s.now).spindleBack s.flc.spindleBench s.now) s.now := by
    unfold Pos.spindleBack
    split
    · exact Pos.spunDown_braked _ _
    · exact h2
  exact h3.of_turn (Pos.rampBack_turn h3.2.2.2 _ _)

/-- A SPINDLE group that returns leaves its spindle BRAKING (R42, R165). -/
theorem resetPos_of_returned (h : s.flc.spindleBench = true) : s.resetPos.BrakingFrom s.now := by
  unfold State.resetPos Pos.spindleBack
  rw [if_pos h]
  exact (Pos.spunDown_braked _ _).of_turn (Pos.rampBack_turn rfl _ _)

theorem resetPos_of_turning (h : s.pos.spindle = .atSpeed ∨ s.pos.spindle = .offSpeed) (hb : s.flc.spindleBench = false) :
    s.resetPos.BrakesParked s.pos.spindle s.now := by
  unfold State.resetPos Pos.spindleBack
  rw [hb]
  exact ((Pos.stopping_brakesParked (p := s.pos.cleared) h s.now).unloaded _ _).rampBack _

/-- A spindle at rest or braking gets no move (R42). -/
theorem resetPos_of_resting (h : s.pos.spindle = .stopped ∨ s.pos.spindle = .braking) (hb : s.flc.spindleBench = false) :
    s.resetPos.turn = (s.pos.spindle, s.pos.quietDue, none, false) := by
  have h1 : s.pos.cleared.stopping s.now = s.pos.cleared := by
    unfold Pos.stopping
    rcases h with h | h <;> rw [show s.pos.cleared.spindle = _ from h]
  have h2 : (s.pos.cleared.unloaded (s.rampView == .onRamp) (s.inMs s.prof.unloadMs) s.now).turn = s.pos.cleared.turn :=
    Pos.unloaded_turn rfl _ _ _
  have h3 : (s.pos.cleared.unloaded (s.rampView == .onRamp) (s.inMs s.prof.unloadMs) s.now).spinDownPending = false :=
    congrArg (fun x => x.2.2.2) h2
  unfold State.resetPos Pos.spindleBack
  rw [hb, h1, if_neg (by decide)]
  exact (Pos.rampBack_turn h3 _ _).trans h2

/-! ## The actuator's half -/

theorem Pos.unloaded_of_unloaded {p : Pos} (h : p.act.isLoaded = false) (r : Bool) (due n : Nat) : p.unloaded r due n = p := by
  unfold Pos.unloaded
  exact if_neg (by rw [h]; decide)

/-- Parked heads stay (R42). -/
theorem resetPos_of_parked (h : s.pos.act = .parked) : s.resetPos.arm = s.pos.cleared.arm := by
  have ha : s.pos.cleared.arm.act = .parked := h
  rw [resetPos_arm, Pos.unloaded_of_unloaded (by rw [ha]; rfl)]
  unfold Pos.rampBack
  rw [if_neg (by rw [ha]; exact fun k => nomatch k.2)]

/-- An unload in flight runs on, or ends with the SENSE group's return (R42, R166). -/
theorem resetPos_of_unloading (h : s.pos.act = .unloading) :
    s.resetPos.arm = if s.flc.rampReturns = true then s.pos.cleared.arm.rested false else s.pos.cleared.arm := by
  have ha : s.pos.cleared.arm.act = .unloading := h
  rw [resetPos_arm, Pos.unloaded_of_unloaded (by rw [ha]; rfl)]
  unfold Pos.rampBack
  simp only [ha, and_true]
  rfl

/-- Loaded heads begin an unload, which ends at once on the ramp (R38, R42). -/
theorem resetPos_of_loaded (h : s.pos.act.isLoaded = true) : s.resetPos.arm =
    if s.rampView = .onRamp ∨ s.flc.rampReturns = true then (s.pos.cleared.arm.unloadBegun (s.inMs s.prof.unloadMs)).rested false
    else s.pos.cleared.arm.unloadBegun (s.inMs s.prof.unloadMs) := by
  rw [resetPos_arm]
  unfold Pos.unloaded
  rw [if_pos (by exact h)]
  by_cases hr : s.rampView = .onRamp
  · rw [if_pos (by simpa using hr), if_pos (Or.inl hr)]
    exact if_neg (fun k => by cases (Pos.parked_act _ _ _).symm.trans k.2)
  · rw [if_neg (by simpa using hr)]
    simp only [hr, false_or]
    unfold Pos.rampBack
    simp only [show (s.pos.cleared.arm.unloadBegun (s.inMs s.prof.unloadMs)).act = .unloading from rfl, and_true]
    rfl

/-- The actuator's half is one of four: as it was, at rest, an unload begun, or that unload ended. -/
theorem resetPos_arm_cases (P : Pos → Prop) (hs : P s.pos.cleared.arm) (hr : P (s.pos.cleared.arm.rested false))
    (hu : P (s.pos.cleared.arm.unloadBegun (s.inMs s.prof.unloadMs)))
    (he : P ((s.pos.cleared.arm.unloadBegun (s.inMs s.prof.unloadMs)).rested false)) : P s.resetPos.arm := by
  cases ha : s.pos.act with
  | parked => rw [resetPos_of_parked s ha]; exact hs
  | unloading =>
    rw [resetPos_of_unloading s ha]
    split
    · exact hr
    · exact hs
  | loading | acquiring | following | seeking | settling =>
    rw [resetPos_of_loaded s (by rw [ha]; rfl)]
    split
    · exact he
    · exact hu

/-- What no share of the reset touches, and the runs that every one leaves at 0 (R42). -/
theorem resetPos_kept : (s.resetPos.indexRef = s.pos.indexRef ∧ s.resetPos.period = s.pos.period ∧
      s.resetPos.target = s.pos.target ∧ s.resetPos.offset = s.pos.offset) ∧
    (s.resetPos.inTol = 0 ∧ s.resetPos.outTol = 0 ∧ s.resetPos.acqRun = 0 ∧ s.resetPos.settleRun = 0 ∧
      s.resetPos.otRun = 0 ∧ s.resetPos.lossRun = 0) ∧ s.resetPos.held = none :=
  resetPos_arm_cases s
    (fun p => (p.indexRef = s.pos.indexRef ∧ p.period = s.pos.period ∧ p.target = s.pos.target ∧ p.offset = s.pos.offset) ∧
      (p.inTol = 0 ∧ p.outTol = 0 ∧ p.acqRun = 0 ∧ p.settleRun = 0 ∧ p.otRun = 0 ∧ p.lossRun = 0) ∧ p.held = none)
    ⟨⟨rfl, rfl, rfl, rfl⟩, ⟨rfl, rfl, rfl, rfl, rfl, rfl⟩, rfl⟩ ⟨⟨rfl, rfl, rfl, rfl⟩, ⟨rfl, rfl, rfl, rfl, rfl, rfl⟩, rfl⟩
    ⟨⟨rfl, rfl, rfl, rfl⟩, ⟨rfl, rfl, rfl, rfl, rfl, rfl⟩, rfl⟩ ⟨⟨rfl, rfl, rfl, rfl⟩, ⟨rfl, rfl, rfl, rfl, rfl, rfl⟩, rfl⟩

theorem rampReturns_iff (f : Flc) :
    f.rampReturns = true ↔ f.senseBench = true ∧ f.heldRamp ≠ f.liveRamp ∧ f.liveRamp = .onRamp := by
  simp [Flc.rampReturns, ne_comm]

/-- The actuator state of the reset (R38, R39, R42, R170). -/
theorem resetPos_act : s.resetPos.act =
    if s.pos.act = .parked then .parked
    else if (s.pos.act.isLoaded = true ∧ s.rampView = .onRamp) ∨
        (s.flc.senseBench = true ∧ s.flc.heldRamp ≠ s.flc.liveRamp ∧ s.flc.liveRamp = .onRamp) then .parked
    else .unloading := by
  simp only [← rampReturns_iff]
  show s.resetPos.arm.act = _
  by_cases hp : s.pos.act = .parked
  · rw [resetPos_of_parked s hp, if_pos hp]; exact hp
  · rw [if_neg hp]
    by_cases hl : s.pos.act.isLoaded = true
    · rw [resetPos_of_loaded s hl]
      simp only [hl, true_and]
      split <;> rfl
    · have hu : s.pos.act = .unloading := by cases h : s.pos.act <;> simp_all [ActState.isLoaded]
      rw [resetPos_of_unloading s hu]
      simp only [hl, Bool.false_eq_true, false_and, false_or]
      split
      · rfl
      · exact hu

/-! ## Notices and events -/

/-- A waiting notice is one of a pending kind (R187). -/
def Blk.Noted (b : Blk) : Prop := ∀ k, Waiting.notice k ∈ b.waiting → b.events.has k = true

theorem Blk.Noted.raiseIf {b : Blk} (h : b.Noted) (c : Bool) (k : EventKind) : (b.raiseIf c k).Noted := by
  unfold Blk.raiseIf
  split
  next =>
    intro k' hk
    rcases b.raise_cases k with e | ⟨-, e⟩ | ⟨-, e⟩ <;> rw [e] at hk ⊢
    · exact h k' hk
    · rw [EventSet.has_put]
      split
      · rfl
      · exact h k' hk
    · rw [EventSet.has_put]
      split
      · rfl
      next hne =>
        rcases List.mem_append.mp hk with hk | hk
        · exact h k' hk
        · simp_all
  next => exact h

theorem resetBlk_noted : s.resetBlk.Noted := by
  refine Blk.Noted.raiseIf (Blk.Noted.raiseIf (fun k hk => ?_) _ _) _ _
  have hr := (List.mem_filter.mp hk).2
  cases hr

theorem resetBlk_events : s.resetBlk.events =
    { EventSet.all false with
      thermal := decide ((s.chm.afterReset s.prof).level ≠ s.chm.level), preamp := s.flc.faultReturns } := by
  unfold State.resetBlk
  cases s.flc.faultReturns <;> cases decide ((s.chm.afterReset s.prof).level ≠ s.chm.level) <;> rfl

/-- What the reset's events leave as it is in the Bench Link. -/
theorem raiseIf_rest (b : Blk) (c : Bool) (k : EventKind) : (b.raiseIf c k).asm = b.asm ∧ (b.raiseIf c k).buffer = b.buffer ∧
    (b.raiseIf c k).counters = b.counters ∧ (b.raiseIf c k).lastFault = b.lastFault ∧ (b.raiseIf c k).mask = b.mask ∧
    (b.raiseIf c k).sending = b.sending := by
  unfold Blk.raiseIf
  split
  · rcases b.raise_cases k with e | ⟨-, e⟩ | ⟨-, e⟩ <;> rw [e] <;> exact ⟨rfl, rfl, rfl, rfl, rfl, rfl⟩
  · exact ⟨rfl, rfl, rfl, rfl, rfl, rfl⟩

theorem resetBlk_rest : s.resetBlk.asm = s.blk.asm ∧ s.resetBlk.buffer = [] ∧ s.resetBlk.counters = {} ∧
    s.resetBlk.lastFault = none ∧ s.resetBlk.mask = EventSet.all true ∧ s.resetBlk.sending = s.blk.sending := by
  obtain ⟨a1, a2, a3, a4, a5, a6⟩ := raiseIf_rest s.blk.cleared s.flc.faultReturns .preamp
  obtain ⟨b1, b2, b3, b4, b5, b6⟩ := raiseIf_rest (s.blk.cleared.raiseIf s.flc.faultReturns .preamp)
    (decide ((s.chm.afterReset s.prof).level ≠ s.chm.level)) .thermal
  exact ⟨b1.trans a1, b2.trans a2, b3.trans a3, b4.trans a4, b5.trans a5, b6.trans a6⟩

/-- With no change that raises an event, nothing waits but the replies that waited (R193). -/
theorem resetBlk_of_noEvents (h : s.resetBlk.events = EventSet.all false) : s.resetBlk = s.blk.cleared := by
  rw [resetBlk_events] at h
  have ht : decide ((s.chm.afterReset s.prof).level ≠ s.chm.level) = false := congrArg EventSet.thermal h
  have hf : s.flc.faultReturns = false := congrArg EventSet.preamp h
  unfold State.resetBlk
  rw [ht, hf]
  rfl

/-! ## The heat level -/

theorem afterReset_level (c : Chm) (p : Profile) : (c.afterReset p).level = levelOfHeat p c.heat := by
  unfold Chm.afterReset
  split
  next h => exact h.symm
  next => rfl

theorem afterReset_last (c : Chm) (p : Profile) : (c.afterReset p).last =
    if (c.afterReset p).level = c.level then c.last
    else some { before := c.level, after := (c.afterReset p).level, cause := .reset } := by
  rw [afterReset_level]
  unfold Chm.afterReset
  split <;> rfl

theorem afterReset_kept (c : Chm) (p : Profile) : (c.afterReset p).heat = c.heat ∧ (c.afterReset p).pace = c.pace ∧
    (c.afterReset p).hot = 0 ∧ (c.afterReset p).nextTick = c.nextTick := by
  unfold Chm.afterReset
  split <;> exact ⟨rfl, rfl, rfl, rfl⟩

/-! ## The end of the arrival -/

/-- Without jobs and away from FOLLOWING every report changes nothing (R160). -/
theorem drain_resting (n : Nat) (ht : s.jct.table = []) (ha : s.pos.act ≠ .following) : s.drain n = s.setInbox [] := by
  induction n generalizing s with
  | zero => rfl
  | succ n ih =>
    unfold State.drain
    split
    next e => rw [← e]; rfl
    next m ms e =>
      have hm : (s.setInbox ms).jctTake m = s.setInbox ms := by
        by_cases hr : m = .restTest
        · subst hr
          have : (s.setInbox ms).restHolds = false := by simp [State.restHolds, ha]
          show (s.setInbox ms).restTest = _
          unfold State.restTest
          rw [this]
          rfl
        · exact jctTake_noJobs (s := s.setInbox ms) ht hr
      rw [hm]
      exact ih (s.setInbox ms) ht ha

/-- The part when the last byte of the record `x` has been sent (R187). -/
def State.freed (s : State) (x : Sending) : State := (s.atTick x.due).setBlk { s.blk with sending := none }

theorem resetPos_away : s.resetPos.act ≠ .following := by
  rw [resetPos_act]
  split
  · decide
  · split <;> decide

/-- The arrival that ends the transmission of the ACK of a BENCH_RESET (R192). -/
theorem sent_finish {x : Sending} (hx : x.reset = true) : ∃ d m n,
    ((s.freed x).resetPos.act ≠ .parked → d.slotDue = s.sdc.slotDue) ∧
      (s.sent x).finish = ((s.freed x).afterReset d m n []).transmit := by
  obtain ⟨d, m, n, ms, hd, e⟩ := benchReset_eq (s.freed x)
  have hb : ((s.freed x).afterReset d m n ms).blk.buffer = [] := (resetBlk_rest (s.freed x)).2.1
  have hs : s.sent x = (s.freed x).afterReset d m n ms := by
    have h : s.sent x = (if x.reset = true then (s.freed x).benchReset else s.freed x).decodeNext := rfl
    rw [h, if_pos hx, e]
    unfold State.decodeNext
    rw [hb]
    exact ite_id _
  refine ⟨d, m, n, hd, ?_⟩
  unfold State.finish
  rw [hs, drain_resting _ _ rfl (resetPos_away _)]
  rfl

/-- Heads that were loaded (R38, R42). -/
theorem resetPos_begun (hl : s.pos.act.isLoaded = true) : s.resetPos.unloadCause = .bench ∧
    (s.resetPos.act = .unloading →
      s.resetPos.deadline = some { kind := .unload, due := s.now + s.prof.unloadMs * 200000 } ∧
      s.resetPos.actMove = some { kind := .unload, owner := .bench } ∧ s.resetPos.lastPark = s.pos.lastPark ∧
      ((∀ m, s.pos.actMove = some m → m.kind ≠ .unload) → s.resetPos.lastBench = none)) ∧
    (s.resetPos.act = .parked → s.resetPos.actMove = none ∧ s.resetPos.lastPark = some (.bench, false) ∧
      s.resetPos.lastBench = some (.unload, .parked)) := by
  have h := resetPos_of_loaded s hl
  split at h
  · have hk {α : Type} (f : Pos → α) := congrArg f h
    have hact : s.resetPos.act = .parked := hk Pos.act
    exact ⟨hk Pos.unloadCause, fun ha => (by rw [hact] at ha; cases ha),
      fun _ => ⟨hk Pos.actMove, hk Pos.lastPark, hk Pos.lastBench⟩⟩
  · have hk {α : Type} (f : Pos → α) := congrArg f h
    have hact : s.resetPos.act = .unloading := hk Pos.act
    refine ⟨hk Pos.unloadCause, fun _ => ⟨hk Pos.deadline, hk Pos.actMove, hk Pos.lastPark, fun hm => ?_⟩,
      fun ha => (by rw [hact] at ha; cases ha)⟩
    have hn : resetMove s.pos.actMove = none := by
      unfold resetMove
      split
      next m e => exact if_neg (hm m e)
      next => rfl
    refine (hk Pos.lastBench).trans ?_
    show benchOutcome none (resetMove s.pos.actMove) _ = none
    rw [hn]
    rfl

/-- An unload that was in flight (R42). -/
theorem resetPos_continued (hu : s.pos.act = .unloading) : s.resetPos.unloadCause = s.pos.unloadCause ∧
    (s.resetPos.act = .unloading →
      s.resetPos.deadline = s.pos.deadline ∧ s.resetPos.lastPark = s.pos.lastPark ∧ s.resetPos.lastBench = none ∧
      (∀ m, s.pos.actMove = some m → m.kind = .unload → s.resetPos.actMove = some { kind := .unload, owner := .bench })) ∧
    (s.resetPos.act = .parked → s.resetPos.actMove = none ∧ s.resetPos.lastPark = some (s.pos.unloadCause, false)) := by
  have h := resetPos_of_unloading s hu
  split at h
  · have hk {α : Type} (f : Pos → α) := congrArg f h
    have hact : s.resetPos.act = .parked := hk Pos.act
    exact ⟨hk Pos.unloadCause, fun ha => (by rw [hact] at ha; cases ha), fun _ => ⟨hk Pos.actMove, hk Pos.lastPark⟩⟩
  · have hk {α : Type} (f : Pos → α) := congrArg f h
    have hact : s.resetPos.act = .unloading := (hk Pos.act).trans hu
    refine ⟨hk Pos.unloadCause, fun _ => ⟨hk Pos.deadline, hk Pos.lastPark, hk Pos.lastBench, fun m hm hkind => ?_⟩,
      fun ha => (by rw [hact] at ha; cases ha)⟩
    refine (hk Pos.actMove).trans ?_
    show resetMove s.pos.actMove = _
    unfold resetMove
    rw [hm]
    dsimp only
    rw [if_pos hkind, hkind]

/-- Heads that stood on the ramp (R42). -/
theorem resetPos_stayed (hp : s.pos.act = .parked) : s.resetPos.lastPark = s.pos.lastPark ∧ s.resetPos.lastBench = none := by
  have h := resetPos_of_parked s hp
  exact ⟨(congrArg Pos.lastPark h :), (congrArg Pos.lastBench h :)⟩

/-- A reply-free list of waiting records is emptied (R193). -/
theorem cleared_waiting (h : ∀ w ∈ s.blk.waiting, w.isReply = false) : s.blk.cleared.waiting = [] := by
  refine List.filter_eq_nil_iff.mpr fun w hw => ?_
  rw [h w hw]
  decide

theorem headAfterWindow_kept (h : ∀ w, s.window = some w → w.probing = false) : s.headAfterWindow = s.flc.engineHead := by
  unfold State.headAfterWindow
  split
  next w e => rw [h w e]; rfl
  next => rfl

theorem headAfterWindow_probing (w : Window) (e : s.window = some w) (h : w.probing = true) :
    s.headAfterWindow = s.prof.anchor := by
  unfold State.headAfterWindow
  rw [e]
  exact if_pos h

theorem abandoned_of_none {p : Pst} (h : p.save = none) (m : ProfileMemory) : p.abandoned m = p := by
  unfold Pst.abandoned
  rw [h]

/-- A save in flight ends ABANDONED, whatever it leaves in the memory (R180). -/
theorem abandoned_of_some {p : Pst} {v : Save} (h : p.save = some v) (m : ProfileMemory) : p.abandoned m =
    { p with
      state := .ready, save := none, lastSave := .abandoned, memory := (p.abandoned m).memory, late := p.late + 1 } := by
  unfold Pst.abandoned
  simp only [h]

theorem faultReturns_eq (f : Flc) : f.faultReturns =
    (f.senseBench && decide (f.heldPreamp ≠ f.livePreamp) && decide (f.livePreamp = .active)) := by
  simp [Flc.faultReturns, Bool.and_assoc, eq_comm]

/-- The reset's state meets R192's values (R15, R42, R61, R87, R124, R142, R155, R162, R170, R180, R193). -/
theorem afterReset_spec (hx : s.blk.sending = none) {d : Sdc} {m : ProfileMemory} {n : Nat}
    (hd : s.resetPos.act ≠ .parked → d.slotDue = s.sdc.slotDue) : AfterBenchReset s (s.afterReset d m n []).transmit := by
  obtain ⟨y, w, hw⟩ := transmit_frame (s.afterReset d m n [])
  have hn := resetBlk_noted s
  have hquiet : (∀ w ∈ s.blk.waiting, w.isReply = false) → s.resetBlk.events = EventSet.all false →
      (s.afterReset d m n []).transmit.blk.waiting = [] ∧ (s.afterReset d m n []).transmit.blk.sending = none := by
    intro hr he
    have hb : (s.afterReset d m n []).blk = s.blk.cleared := resetBlk_of_noEvents s he
    have hwait : (s.afterReset d m n []).blk.waiting = [] := by rw [hb]; exact cleared_waiting s hr
    rw [transmit_nothing hwait]
    exact ⟨hwait, by rw [hb]; exact hx⟩
  have hnoted : ∀ k, Waiting.notice k ∈ (s.afterReset d m n []).transmit.blk.waiting → s.resetBlk.events.has k = true := by
    intro k hk
    rcases transmit_cases (s.afterReset d m n []) with e | ⟨v, vs, -, hv, e⟩
    · rw [e] at hk; exact hn k hk
    · rw [e] at hk
      exact hn k (by rw [show s.resetBlk.waiting = v :: vs from hv]; exact List.mem_cons_of_mem _ hk)
  obtain ⟨b1, b2, b3, b4, b5, -⟩ := resetBlk_rest s
  obtain ⟨hkept, hruns, hheld⟩ := resetPos_kept s
  obtain ⟨c1, c2, c3, c4⟩ := afterReset_kept s.chm s.prof
  rw [hw] at hquiet hnoted ⊢
  exact
    { sdc := ⟨rfl, rfl, rfl, fun ha => hd (fun hp => by rw [show s.resetPos.act = .unloading from ha] at hp; cases hp)⟩
      accelerating := fun h => have ⟨k1, k2, k3, _⟩ := resetPos_of_accelerating s h; ⟨k1, k2, k3⟩
      turning := fun h hb =>
        have ⟨k1, k2, k3⟩ := resetPos_of_turning s h hb
        ⟨k1, fun ha => have ⟨b1, b2, _, b4⟩ := k2 ha; ⟨b1, b4, b2⟩, fun ha => k3 fun hp => nomatch hp.symm.trans ha⟩
      resting := fun h hb => by
        have e := resetPos_of_resting s h hb
        simp only [Pos.turn, Prod.mk.injEq] at e
        exact e
      returned := fun h => resetPos_of_returned s h
      actuator := resetPos_act s
      begun := resetPos_begun s
      continued := resetPos_continued s
      stayed := resetPos_stayed s
      kept := hkept
      runs := hruns
      held := hheld
      window := rfl
      gate := ⟨rfl, rfl, rfl, rfl, rfl, rfl, fun h => if_pos h, fun h => if_neg h⟩
      jobs := ⟨rfl, rfl, rfl, rfl, rfl⟩
      working := ⟨rfl, rfl⟩
      published := ⟨rfl, rfl⟩
      heat := ⟨c1, c2, c3, c4⟩
      level := afterReset_level s.chm s.prof
      change := afterReset_last s.chm s.prof
      timers := rfl
      owners := ⟨rfl, rfl, rfl⟩
      levels := ⟨rfl, rfl, rfl, rfl, rfl, rfl, rfl⟩
      selection := ⟨headAfterWindow_kept s, headAfterWindow_probing s⟩
      store := ⟨fun h => abandoned_of_none h m, fun v h => abandoned_of_some h m⟩
      link := ⟨b1, b2, b3, b4, b5⟩
      events := by
        show s.resetBlk.events = _
        rw [resetBlk_events, faultReturns_eq]
        rfl
      notices := ⟨hnoted, hquiet⟩ }

/-- What the reset says of the part when the last byte has been sent it says of the part before (R187). -/
theorem AfterBenchReset.of_freed {s t : State} {x : Sending} (h : AfterBenchReset (s.freed x) t) : AfterBenchReset s t :=
  ⟨h.sdc, h.accelerating, h.turning, h.resting, h.returned, h.actuator, h.begun, h.continued, h.stayed, h.kept, h.runs, h.held,
    h.window, h.gate, h.jobs, h.working, h.published, h.heat, h.level, h.change, h.timers, h.owners, h.levels, h.selection,
    h.store, h.link, h.events, h.notices⟩

/-- Settles O5: both commands end the transmission of the ACK, and the reset's state (`afterReset_spec`) is what its arrival
answers. -/
theorem benchResetTakesEffect : Obligations.BenchResetTakesEffect := by
  intro s x hs hx
  obtain ⟨d, m, n, hd, e⟩ := sent_finish s hx
  have he : s.resetTakesEffect = s.sent x := by unfold State.resetTakesEffect; rw [hs]; exact if_pos hx
  have hc : s.transmitDone = s.sent x := by unfold State.transmitDone; rw [hs]
  obtain ⟨y, w, hw⟩ := transmit_frame ((s.freed x).afterReset d m n [])
  refine ⟨((s.freed x).afterReset d m n []).transmit, arrival_eq_next.mpr (by rw [he, e]), arrival_eq_next.mpr (by rw [hc, e]),
    .of_freed (afterReset_spec (s.freed x) rfl hd), ?_⟩
  rw [hw]
  rfl

end Sys2Proof.Machine
end

section
/-! PROOF. Requests on a ready link that are answered at once, and HEADS_LOAD (R26, R29). -/

namespace Sys2Proof.Machine

variable {s : State}

/-! ## A request that is answered at once -/

/-- A reload touches the rest timers alone (R158). -/
theorem reload_eq (s : State) (src : Source) : ∃ r, s.reload src = s.setRtm r := by
  unfold State.reload
  split
  · exact ⟨s.rtm, rfl⟩
  · exact ⟨_, rfl⟩
  · exact ⟨_, rfl⟩

theorem reloadFor_eq (s : State) (k : RequestKind) : ∃ r, s.reloadFor k = s.setRtm r := by
  unfold State.reloadFor
  split
  · exact reload_eq s _
  · exact ⟨s.rtm, rfl⟩

theorem openReply_reloadFor (s : State) (tag : Byte) (k : RequestKind) :
    (s.openReply tag).reloadFor k = (s.reloadFor k).openReply tag := by
  unfold State.reloadFor
  split
  · unfold State.reload
    rw [show (s.openReply tag).rtm = s.rtm from rfl]
    split <;> rfl
  · rfl

/-- The state with the reply to `tag` in transmission, marked when it is the ACK of a BENCH_RESET (R187, R192). -/
def State.sends (s : State) (f : Frame) (reset : Bool) : State :=
  s.setBlk
    { s.blk with
      sending := some { frame := f, isReply := true, reset := reset, due := s.now + 1000 * (5 + f.payload.length) } }

/-- A request whose owner leaves the state `v`, with reports that no one takes, is answered at once (R184, R185, R187). -/
theorem request_taken {v : State} {k : RequestKind} {tag : Byte} {p : List Byte} {a : Answer} {ms : List JctMsg}
    (h : s.LinkReady) (hp : p.length ≤ 240) (hl : ∀ n, k.fixedLength = some n → p.length = n) (hk : k ≠ .restWrite)
    (ha : ((s.reloadFor k).openReply tag).handle k p = (a, (v.openReply tag).tells ms))
    (hw : v.blk.waiting = []) (hs : v.blk.sending = none) (hi : v.inbox = [])
    (hm : ms = [] ∨ v.running = none ∧ ForJob ms) :
    request k.code tag p s = .next (v.sends (a.frame tag) (isResetAck k a)) := by
  have hf : ((v.openReply tag).tells ms).fillReply (a.frame tag) (isResetAck k a) =
      (v.setBlk { v.blk with waiting := [.reply (a.frame tag) (isResetAck k a)] }).tells ms := by
    simp [State.fillReply, State.openReply, State.tells, State.setBlk, State.setInbox, hw, Waiting.fill]
  have hx : ((v.setBlk { v.blk with waiting := [.reply (a.frame tag) (isResetAck k a)] }).tells ms).finish =
      (v.setBlk { v.blk with waiting := [.reply (a.frame tag) (isResetAck k a)] }).transmit := by
    rcases hm with rfl | ⟨hr, hj⟩
    · rw [State.tells_nil]; exact finish_of_nil hi
    · exact finish_tells _ hr hi hj
  rw [request_good h k tag hp hl]
  unfold arrival State.answer
  simp only [hk, if_false, openReply_reloadFor, ha, hf, hx]
  unfold State.transmit State.sends
  simp only [State.setBlk_blk, hs]
  rw [← hw]
  rfl

/-- A request whose owner changes nothing is answered at once, its source's timer reloaded (R158, R184, R187). -/
theorem request_kept {k : RequestKind} {tag : Byte} {p : List Byte} {a : Answer}
    (h : s.LinkReady) (hp : p.length ≤ 240) (hl : ∀ n, k.fixedLength = some n → p.length = n) (hk : k ≠ .restWrite)
    (ha : ((s.reloadFor k).openReply tag).handle k p = (a, (s.reloadFor k).openReply tag)) :
    request k.code tag p s = .next ((s.reloadFor k).sends (a.frame tag) (isResetAck k a)) := by
  obtain ⟨r, e⟩ := reloadFor_eq s k
  refine request_taken (ms := []) h hp hl hk (by rw [ha, State.tells_nil]) ?_ ?_ ?_ (.inl rfl)
  · rw [e]; exact h.waiting
  · rw [e]; exact h.sending
  · rw [e]; exact h.inbox

/-! ## HEADS_LOAD (R29) -/

/-- In PARKED a head selection changes the engine selection, and clears the recovery marker if anything (R6, R164). -/
theorem selectHead_parked (ha : s.pos.act = .parked) (n : Nat) : ∃ m, (s.sdc.marker = false → m = false) ∧
    s.selectHead n = (s.setFlc { s.flc with engineHead := n }).setSdc { s.sdc with marker := m } := by
  unfold State.selectHead State.takeHeadChange
  split
  · exact ⟨s.sdc.marker, id, rfl⟩
  · exact ⟨false, fun _ => rfl, by simp [ha]⟩

/-- The heads leave the ramp: slots begin, the change is reported (R1, R23). -/
theorem setAct_from_parked (ha : s.pos.act = .parked) {a : ActState} (hn : a ≠ .parked) (d : Option ActDeadline) :
    s.setAct a d =
      ((s.setPos { s.pos with act := a, deadline := d, acqRun := 0, settleRun := 0, otRun := 0, lossRun := 0 }).startSlots).tells
        [.posChanged] := by
  unfold State.setAct
  dsimp only
  rw [if_neg (fun k => by rw [ha] at k; cases k.1), if_pos ⟨ha, hn⟩]
  rfl

/-- The Positioner after a load has begun with its deadline at tick `due` (R29). -/
def Pos.loadBegun (p : Pos) (due : Nat) : Pos :=
  { p with
    act := .loading, deadline := some { kind := .load, due := due }, acqRun := 0, settleRun := 0, otRun := 0, lossRun := 0
    actMove := some { kind := .load, owner := .bench } }

/-- A load that its checks let pass (R29). -/
theorem takeLoad_parked (ha : s.pos.act = .parked) (hb : s.flc.selectBench = false) (hs : s.pos.spindle = .atSpeed)
    (hp : s.preampView = .inactive) : ∃ m, (s.sdc.marker = false → m = false) ∧
    s.takeLoad .bench = .ok
      ((((s.setFlc { s.flc with engineHead := s.prof.anchor }).setSdc
        { s.sdc with marker := m, slotDue := some (s.now + s.slotPeriod) }).setPos
          (s.pos.loadBegun (s.now + s.prof.loadMs * 200000))).tells [.posChanged]) := by
  obtain ⟨m, hm, e⟩ := selectHead_parked ha s.prof.anchor
  have hk := setAct_from_parked (s := (s.setFlc { s.flc with engineHead := s.prof.anchor }).setSdc { s.sdc with marker := m })
    ha (a := .loading) (by decide)
  refine ⟨m, hm, ?_⟩
  unfold State.takeLoad
  rw [ha]
  dsimp only
  rw [if_neg (by rw [hb]; decide), if_neg (by rw [hs]; decide), if_neg (by rw [hp]; decide), e, hk]
  rfl

/-- HEADS_LOAD past the BUSY gate (R26). -/
theorem reqHeadsLoad_eq (hr : s.running = none) : s.reqHeadsLoad = s.motionReply (s.takeLoad .bench) := by
  unfold State.reqHeadsLoad State.motionGate
  rw [hr]
  rfl

/-- HEADS_LOAD that its checks refuse (R29). -/
theorem headsLoad_refused {tag : Byte} {c : RefuseCode} (h : s.LinkReady) (hr : s.running = none)
    (ht : ((s.reload .motionReq).openReply tag).takeLoad .bench = .error { code := c }) :
    exec (.headsLoad tag) s = .next ((s.reload .motionReq).refuses tag c 0) := by
  obtain ⟨r, e⟩ := reload_eq s .motionReq
  refine request_kept (k := .headsLoad) (p := []) (a := .refuse { code := c }) h (Nat.zero_le _) (fun n hn => by cases hn; rfl) (by decide) ?_
  show ((s.reload .motionReq).openReply tag).reqHeadsLoad = _
  rw [reqHeadsLoad_eq (by rw [e]; exact hr), ht]
  rfl

/-- A reload keeps the rest source table (R158). -/
theorem reload_table (s : State) (src : Source) : (s.reload src).rtm.table = s.rtm.table := by
  unfold State.reload
  split <;> rfl

/-- A motion request taken, its reply in transmission (R26). -/
theorem MotionTaken.of_sends {v : State} {tag : Byte} (hf : MotionFrame s v) (ht : v.rtm = (s.reload .motionReq).rtm)
    (ho : v.jct = s.jct ∧ v.hmp = s.hmp ∧ v.gcu = s.gcu) :
    MotionTaken s tag false false (v.sends ((Answer.ack (v.motionAck false false)).frame tag) false) where
  frame := ⟨hf.now, hf.chm, hf.pst, hf.free, hf.pending, hf.period, hf.indexRef, hf.counts, hf.flc, hf.published, hf.gen,
    hf.table, hf.asm, hf.buffer, hf.counters, hf.lastFault, hf.mask, hf.raised⟩
  timers := ht
  others := ho
  reply := by rw [← hf.now]; rfl

/-- HEADS_LOAD that the Positioner takes (R29). -/
theorem headsLoad_taken {v : State} {tag : Byte} {ms : List JctMsg} (h : s.LinkReady) (hr : s.running = none)
    (ht : ((s.reload .motionReq).openReply tag).takeLoad .bench = .ok ((v.openReply tag).tells ms))
    (hb : v.blk = s.blk) (hi : v.inbox = s.inbox) (hv : v.running = none) (hm : ForJob ms) :
    exec (.headsLoad tag) s = .next (v.sends ((Answer.ack (v.motionAck false false)).frame tag) false) := by
  obtain ⟨r, e⟩ := reload_eq s .motionReq
  refine request_taken (v := v) (k := .headsLoad) (p := []) (a := .ack (v.motionAck false false)) (ms := ms) h (Nat.zero_le _)
    (fun n hn => by cases hn; rfl) (by decide) ?_ (by rw [hb]; exact h.waiting) (by rw [hb]; exact h.sending)
    (by rw [hi]; exact h.inbox) (.inr ⟨hv, hm⟩)
  show ((s.reload .motionReq).openReply tag).reqHeadsLoad = _
  rw [reqHeadsLoad_eq (by rw [e]; exact hr), ht]
  rfl

/-- Settles O27: the checks of `State.takeLoad` in their order, each with its answer (`headsLoad_refused`, `headsLoad_taken`). -/
theorem headsLoadChecksInOrder : Obligations.HeadsLoadChecksInOrder := by
  intro s tag h ⟨hr, _⟩
  obtain ⟨r, e⟩ := reload_eq s .motionReq
  have htab := reload_table s .motionReq
  rw [e] at htab
  refine ⟨fun ha => ?_, fun ha => ?_, fun ha => ⟨fun hb => ?_, fun hb => ⟨fun hs => ?_, fun hs => ⟨fun hp => ?_, fun hp => ?_⟩⟩⟩⟩
  · refine headsLoad_refused h hr ?_
    rw [e]
    unfold State.takeLoad
    rcases ha with ha | ha <;> rw [show ((s.setRtm r).openReply tag).pos.act = _ from ha]
  · have ht : ((s.reload .motionReq).openReply tag).takeLoad .bench = .ok ((s.reload .motionReq).openReply tag) := by
      rw [e]
      unfold State.takeLoad
      rcases ha with ha | ha | ha | ha <;> rw [show ((s.setRtm r).openReply tag).pos.act = _ from ha]
    refine ⟨_, headsLoad_taken (v := s.reload .motionReq) (ms := []) h hr (by rw [ht, State.tells_nil]) (by rw [e]; rfl)
      (by rw [e]; rfl) (by rw [e]; exact hr) .nil, .of_sends ?_ rfl (by rw [e]; exact ⟨rfl, rfl, rfl⟩), ?_⟩
    · rw [e]
      exact ⟨rfl, rfl, rfl, rfl, rfl, rfl, rfl, rfl, rfl, rfl, rfl, htab, rfl, rfl, rfl, rfl, rfl, fun _ => id⟩
    · rw [e]
      exact ⟨rfl, rfl, rfl, rfl⟩
  · refine headsLoad_refused h hr ?_
    rw [e]
    simp [State.takeLoad, State.openReply, ha, hb]
  · refine headsLoad_refused h hr ?_
    rw [e]
    simp [State.takeLoad, State.openReply, ha, hb, hs]
  · refine headsLoad_refused h hr ?_
    have hp : ((s.setRtm r).openReply tag).preampView = .active := hp
    rw [e]
    unfold State.takeLoad
    simp [hp]
    simp [State.openReply, ha, hb, hs]
  · obtain ⟨m, hm, ht⟩ := takeLoad_parked (s := (s.setRtm r).openReply tag) ha hb hs hp
    let v := (((s.setRtm r).setFlc { s.flc with engineHead := s.prof.anchor }).setSdc
        { s.sdc with marker := m, slotDue := some (s.now + s.slotPeriod) }).setPos
          (s.pos.loadBegun (s.now + s.prof.loadMs * 200000))
    refine ⟨_, headsLoad_taken (v := v) (ms := [.posChanged]) h hr (by rw [e]; exact ht) rfl rfl hr .posChanged,
      .of_sends ?_ (by rw [e]; rfl) ⟨rfl, rfl, rfl⟩, rfl, rfl, ?_, State.coilDrive_loading rfl, rfl, rfl, hm, rfl⟩
    · exact ⟨rfl, rfl, rfl, rfl, rfl, rfl, rfl, rfl, rfl, rfl, rfl, htab, rfl, rfl, rfl, rfl, rfl, fun _ => id⟩
    · show (if s.flc.selectBench then _ else s.prof.anchor) = _
      rw [hb]
      rfl

end Sys2Proof.Machine
end

section
/-! PROOF. EVENT_MASK_WRITE, COUNTERS_CLEAR and BENCH_RESET (R14, R189, R192). -/

namespace Sys2Proof.Machine

variable {s : State}

/-! ## The notice mask (R189) -/

theorem has_ofBits (n : Nat) (k : EventKind) : (EventSet.ofBits n).has k = n.testBit k.code := by cases k <;> rfl

/-- A mask byte names the set whose byte it is (R189). -/
theorem bits_ofBits : ∀ n < 128, (EventSet.ofBits n).bits = n := by decide

/-- The kinds whose notices a new mask lets join: on now, off before, pending (R189). -/
def joining (before after events : EventSet) (k : EventKind) : Bool := after.has k && !before.has k && events.has k

/-- Notices of other kinds stay when one kind's notice is withdrawn. -/
theorem filter_not_isNotice {k : EventKind} {ns : List EventKind} (h : k ∉ ns) :
    (ns.map Waiting.notice).filter (fun w => !w.isNotice k) = ns.map .notice := by
  refine List.filter_eq_self.mpr fun w hw => ?_
  obtain ⟨n, hn, rfl⟩ := List.mem_map.mp hw
  have : n ≠ k := fun e => h (e ▸ hn)
  simp [Waiting.isNotice, this]

/-- What EVENT_MASK_WRITE does for one kind with only a reply and notices of other kinds waiting (R187, R189). -/
theorem remask_behind (before after : EventSet) {b : Blk} {g : Frame} {r : Bool} {ns : List EventKind} {k : EventKind}
    (hw : b.waiting = .reply g r :: ns.map .notice) (hk : k ∉ ns) : Blk.remask before after b k =
      { b with waiting := .reply g r :: (ns ++ [k].filter (joining before after b.events)).map .notice } := by
  unfold Blk.remask
  by_cases ha : after.has k = true
  · rw [if_pos ha]
    by_cases hj : (!before.has k && b.events.has k) = true
    · have : joining before after b.events k = true := by unfold joining; rw [ha, Bool.and_assoc, hj]; rfl
      rw [if_pos hj, List.filter_cons_of_pos this]
      simp [Blk.joinNotice, hw]
    · have : ¬joining before after b.events k = true := by unfold joining; rw [ha, Bool.and_assoc]; simpa using hj
      rw [if_neg hj, List.filter_cons_of_neg this, List.filter_nil, List.append_nil, ← hw]
  · have : ¬joining before after b.events k = true := by simp [joining, ha]
    rw [if_neg ha, List.filter_cons_of_neg this, List.filter_nil, List.append_nil]
    unfold Blk.withdraw
    rw [hw, List.filter_cons_of_pos (by rfl), filter_not_isNotice hk]

/-- The notices of a new mask join behind the reply in the order of the kinds (R187, R189). -/
theorem remask_all (before after : EventSet) {g : Frame} {r : Bool} (ks : List EventKind) (hd : ks.Nodup) (b : Blk)
    (ns : List EventKind) (hw : b.waiting = .reply g r :: ns.map .notice) (hn : ∀ k ∈ ks, k ∉ ns) :
    ks.foldl (Blk.remask before after) b =
      { b with waiting := .reply g r :: (ns ++ ks.filter (joining before after b.events)).map .notice } := by
  induction ks generalizing b ns with
  | nil => rw [List.filter_nil, List.append_nil, ← hw]; rfl
  | cons k ks ih =>
    obtain ⟨hk, hd⟩ := List.nodup_cons.mp hd
    rw [List.foldl_cons, remask_behind before after hw (hn k (by simp))]
    rw [ih hd _ (ns ++ [k].filter (joining before after b.events)) rfl]
    · rw [List.append_assoc, ← List.filter_append]
      rfl
    · intro j hj hmem
      rcases List.mem_append.mp hmem with h | h
      · exact hn j (List.mem_cons_of_mem _ hj) h
      · rw [List.mem_singleton.mp (List.mem_filter.mp h).1] at hj
        exact hk hj

/-- The mask replaced while one reply waits (R189). -/
theorem setMask_behind {b : Blk} {g : Frame} {r : Bool} (hw : b.waiting = [.reply g r]) (m : EventSet) : b.setMask m =
    { b with
      mask := m, waiting := .reply g r :: (EventKind.inOrder.filter (joining b.mask m b.events)).map .notice } :=
  remask_all b.mask m EventKind.inOrder (by decide) { b with mask := m } [] hw (fun _ _ => List.not_mem_nil)

/-- A request whose owner lets notices join behind its reply is answered at once, the notices waiting (R187). -/
theorem request_behind {v : State} {k : RequestKind} {tag : Byte} {p : List Byte} {a : Answer} {g : Frame}
    {ns : List EventKind} (h : s.LinkReady) (hp : p.length ≤ 240) (hl : ∀ n, k.fixedLength = some n → p.length = n)
    (hk : k ≠ .restWrite)
    (ha : ((s.reloadFor k).openReply tag).handle k p =
      (a, v.setBlk { v.blk with waiting := .reply g false :: ns.map .notice }))
    (hs : v.blk.sending = none) (hi : v.inbox = []) :
    request k.code tag p s = .next ((v.sends (a.frame tag) (isResetAck k a)).setBlk
      { (v.sends (a.frame tag) (isResetAck k a)).blk with waiting := ns.map .notice }) := by
  have hf : (v.setBlk { v.blk with waiting := .reply g false :: ns.map .notice }).fillReply (a.frame tag) (isResetAck k a) =
      v.setBlk { v.blk with waiting := .reply (a.frame tag) (isResetAck k a) :: ns.map .notice } := by
    have : (ns.map Waiting.notice).map (fun w => w.fill (a.frame tag) (isResetAck k a)) = ns.map .notice := by
      rw [List.map_map]; rfl
    unfold State.fillReply
    simp only [State.setBlk_blk, List.map_cons, this]
    rfl
  rw [request_good h k tag hp hl]
  unfold arrival State.answer
  simp only [hk, if_false, openReply_reloadFor, ha, hf]
  rw [finish_of_nil (by exact hi)]
  unfold State.transmit State.sends
  simp only [State.setBlk_blk, hs]
  rfl

/-- EVENT_MASK_WRITE taken with its reply alone waiting (R189). -/
theorem reqEventMaskWrite_opened (v : State) (tag : Byte) {mask : Byte} (hm : mask.toNat < 128) (hw : v.blk.waiting = []) :
    (v.openReply tag).reqEventMaskWrite mask.toNat =
      (.ack [mask, byteOf v.blk.events.bits],
        (v.setBlk { v.blk with mask := EventSet.ofBits mask.toNat }).setBlk
          { v.blk with
            mask := EventSet.ofBits mask.toNat
            waiting := .reply { kind := 0x80, tag := tag, payload := [] } false ::
              (EventKind.inOrder.filter (joining v.blk.mask (EventSet.ofBits mask.toNat) v.blk.events)).map .notice }) := by
  have hset := setMask_behind (b := (v.openReply tag).blk) (g := { kind := 0x80, tag := tag, payload := [] }) (r := false)
    (by simp [State.openReply, hw]) (EventSet.ofBits mask.toNat)
  have hbyte : b1 (EventSet.ofBits mask.toNat).bits = [mask] := by
    rw [bits_ofBits _ hm]
    exact congrArg (fun b => [b]) (BitVec.ofNat_toNat (x := mask) (m := 8) |>.trans (by simp))
  unfold State.reqEventMaskWrite
  rw [if_neg (Nat.not_le.mpr hm), hset]
  refine Prod.ext ?_ rfl
  show Answer.ack (b1 (EventSet.ofBits mask.toNat).bits ++ b1 v.blk.events.bits) = _
  rw [hbyte]
  rfl

/-- Settles O59: each request by its owner's rule, EVENT_MASK_WRITE with its notices behind the reply (`setMask_behind`). -/
theorem maskCountersAndResetRequests : Obligations.MaskCountersAndResetRequests := by
  intro s tag mask head h
  obtain ⟨r, e⟩ := reload_eq s .configReq
  have hclear : ∀ {sel : Byte} {a : Answer} {v : State}, v.blk = s.blk → v.inbox = s.inbox →
      ((s.reload .configReq).openReply tag).reqCountersClear sel.toNat head.toNat = (a, v.openReply tag) →
      exec (.countersClear tag sel head) s = .next (v.sends (a.frame tag) false) := by
    intro sel a v hb hi ha
    refine request_taken (k := .countersClear) (p := [sel, head]) (ms := []) h (Nat.le_of_ble_eq_true rfl) (fun n hn => by cases hn; rfl) (by decide)
      (by rw [State.tells_nil]; exact ha) (by rw [hb]; exact h.waiting) (by rw [hb]; exact h.sending) (by rw [hi]; exact h.inbox)
      (.inl rfl)
  refine ⟨fun hm => ?_, fun hm => ?_, fun hh => ?_, fun hh => ?_, ?_, ?_⟩
  · refine request_kept (k := .eventMaskWrite) (p := [mask]) (a := .refuse { code := .badValue }) h (Nat.le_of_ble_eq_true rfl)
      (fun n hn => by cases hn; rfl) (by decide) ?_
    exact if_pos hm
  · have hans := request_behind (v := (s.reload .configReq).setBlk
        { (s.reload .configReq).blk with mask := EventSet.ofBits mask.toNat }) (k := .eventMaskWrite) (p := [mask])
      h (Nat.le_of_ble_eq_true rfl) (fun n hn => by cases hn; rfl) (by decide)
      (reqEventMaskWrite_opened (s.reload .configReq) tag hm (by rw [e]; exact h.waiting)) (by rw [e]; exact h.sending)
      (by rw [e]; exact h.inbox)
    refine ⟨_, hans, ?_⟩
    rw [e]
    refine ⟨rfl, has_ofBits mask.toNat, ?_, rfl, rfl, rfl, rfl⟩
    exact congrArg (List.map Waiting.notice) (List.filter_congr fun k _ => by unfold joining; rw [has_ofBits]; rfl)
  · refine hclear (v := s.reload .configReq) (a := .refuse { code := .badValue, detail := 1 }) (by rw [e]; rfl) (by rw [e]; rfl) ?_
    rw [e]
    exact if_pos hh
  · refine hclear (a := .ack []) (v := (s.reload .configReq).setSdc { s.sdc with counters := s.sdc.counters.set head.toNat {} })
      (by rw [e]; rfl) (by rw [e]; rfl) ?_
    rw [e]
    exact if_neg (Nat.not_le.mpr hh)
  · refine hclear (a := .ack []) (v := (s.reload .configReq).setSdc { s.sdc with counters := List.replicate 20 {} })
      (by rw [e]; rfl) (by rw [e]; rfl) ?_
    rw [e]
    rfl
  · exact request_kept (k := .benchReset) (p := []) (a := .ack []) h (by decide) (fun n hn => by cases hn; rfl) (by decide) rfl

end Sys2Proof.Machine
end

section
/-! PROOF. The bytes of the reads (R13, R41, R105, R139, R154, R169, R176, R190, R191, R194). -/

namespace Sys2Proof.Machine

variable (s : State)

/-! ## Parts of a payload (R194) -/

theorem bitsByte_two (a b : Bool) : bitsByte [a, b] = byteOf ((if a then 1 else 0) + if b then 2 else 0) := by
  cases a <;> cases b <;> rfl

theorem bitsByte_three (a b c : Bool) :
    bitsByte [a, b, c] = byteOf ((if a then 1 else 0) + (if b then 2 else 0) + if c then 4 else 0) := by
  cases a <;> cases b <;> cases c <;> rfl

theorem jobFlags_byte (f : JobFlags) : f.byte = byteOf ((if f.duplicates then 1 else 0) + (if f.window then 2 else 0) +
    (if f.jog then 4 else 0) + (if f.centre then 8 else 0) + if f.skewRevs then 16 else 0) := by
  obtain ⟨a, b, c, d, e⟩ := f
  revert a b c d e
  decide

theorem optItem_map {α : Type} (x : Option α) (f : α → List Byte) : optItem (x.map f) = x.elim [0] fun a => 1 :: f a := by
  cases x <;> rfl

theorem getD_map_byte {α : Type} (x : Option α) (f : α → Nat) :
    byteOf ((x.map f).getD 255) = x.elim 255 fun a => byteOf (f a) := by cases x <;> rfl

/-- The number itself or its low bytes: the bytes are the same (R194). -/
theorem leBytes_mod (w n : Nat) : leBytes w (n % 256 ^ w) = leBytes w n := by
  induction w generalizing n with
  | zero => rfl
  | succ w ih =>
    have hb : byteOf (n % 256 ^ (w + 1)) = byteOf n := by
      refine BitVec.eq_of_toNat_eq ?_
      simp only [byteOf, BitVec.toNat_ofNat]
      exact Nat.mod_mod_of_dvd n ⟨256 ^ w, by rw [Nat.pow_succ, Nat.mul_comm]⟩
    have hq : n % 256 ^ (w + 1) / 256 = n / 256 % 256 ^ w := by
      rw [Nat.pow_succ, Nat.mul_comm, Nat.mod_mul_right_div_self]
    unfold leBytes
    rw [hb, hq, ih]

theorem leSigned_ofNat (w n : Nat) : leSigned w (Int.ofNat n) = leBytes w n := by
  unfold leSigned
  rw [← leBytes_mod w n]
  congr 1

/-! ## MOTION_READ, THERMAL_READ, LINES_READ, LINK_READ, COUNTERS_READ -/

theorem motionBytes_eq : s.motionBytes =
    [byteOf s.pos.spindle.code,
        (match s.pos.spindle with
          | .stopped | .braking => 0
          | .accelerating | .atSpeed | .offSpeed => 1
          | .bench => 2),
        if s.pos.spinDownPending then 1 else 0] ++
        (s.pos.period.elim [0] fun n => 1 :: leBytes 4 n) ++
        byteOf s.pos.act.code :: leBytes 4 s.pos.target ++ leSigned 2 s.pos.offset ++
        (s.pos.held.elim [0] fun h => 1 :: leBytes 4 h.track ++ leSigned 2 h.offset ++ [byteOf h.owner.code]) ++
        (s.pos.spinMove.elim [0] fun m => [1, byteOf m.kind.code, byteOf m.owner.code]) ++
        (s.pos.actMove.elim [0] fun m => [1, byteOf m.kind.code, byteOf m.owner.code]) ++
        (s.pos.lastBench.elim [0] fun x => [1, byteOf x.1.code, byteOf x.2.code]) ++
        (s.pos.lastPark.elim [0] fun x => [1, byteOf x.1.code, if x.2 then 1 else 0]) := by
  have hspin : byteOf s.pos.spindle.engineSpin.code = (match s.pos.spindle with
      | .stopped | .braking => 0
      | .accelerating | .atSpeed | .offSpeed => 1
      | .bench => 2) := by
    cases s.pos.spindle <;> rfl
  unfold State.motionBytes
  simp only [optItem_map, b1, b4, Move.bytes, boolByte, hspin, List.cons_append, List.nil_append, List.append_assoc]

theorem thermalBytes_eq : s.thermalBytes =
    leBytes 2 s.chm.heat ++ [byteOf s.chm.level.code] ++ leBytes 2 s.chm.pace ++
        [if s.chm.level = .cool ∨ (s.chm.level = .warm ∧ s.prof.paceTicks ≤ s.chm.pace) then 1 else 0] ++
        leBytes 2 s.chm.hot ++
        (match s.chm.last with
          | some c => [1, byteOf c.before.code, byteOf c.after.code, byteOf c.cause.code]
          | none => [0]) := by
  have hseek : boolByte (s.chm.maySeek s.prof) =
      if s.chm.level = .cool ∨ (s.chm.level = .warm ∧ s.prof.paceTicks ≤ s.chm.pace) then 1 else 0 := by
    unfold Chm.maySeek boolByte
    cases s.chm.level <;> simp
  unfold State.thermalBytes
  rw [hseek]
  cases s.chm.last <;> rfl

theorem linesBytes_eq : s.linesBytes =
    [if s.flc.selectBench then 1 else 0, if s.flc.spindleBench then 1 else 0, if s.flc.senseBench then 1 else 0,
        byteOf (if s.flc.selectBench then s.flc.benchHead else s.flc.engineHead),
        byteOf (if s.flc.selectBench then s.flc.benchMode.code else if s.pos.act = .parked then 1 else 2),
        byteOf s.flc.engineHead, if s.pos.act = .parked then 1 else 2, byteOf s.flc.benchHead, byteOf s.flc.benchMode.code,
        if s.spinEnable then 0 else 1, if s.flc.benchSpin then 0 else 1, if s.flc.liveRamp = .onRamp then 0 else 1,
        if s.rampView = .onRamp then 0 else 1] ++
        (if s.flc.senseBench then [1, if s.flc.heldRamp = .onRamp then 0 else 1] else [0]) ++
        [if s.flc.livePreamp = .active then 0 else 1, if s.preampView = .active then 0 else 1] ++
        (if s.flc.senseBench then [1, if s.flc.heldPreamp = .active then 0 else 1] else [0]) := by
  have howner : ∀ b : Bool, byteOf (ownerCode b) = if b then 1 else 0 := by decide
  have hlevel : ∀ b : Bool, byteOf (levelCode b) = if b then 0 else 1 := by decide
  have hramp : ∀ r : Ramp, byteOf (rampCode r) = if r = .onRamp then 0 else 1 := fun r => by cases r <;> rfl
  have hpreamp : ∀ p : PreampLine, byteOf (preampCode p) = if p = .active then 0 else 1 := fun p => by cases p <;> rfl
  have hengine : s.engineMode.code = if s.pos.act = .parked then 1 else 2 := by unfold State.engineMode; split <;> rfl
  have hbyte : byteOf (if s.pos.act = .parked then 1 else 2) = if s.pos.act = .parked then 1 else 2 := by split <;> rfl
  have hdriven : s.drivenMode.code = if s.flc.selectBench then s.flc.benchMode.code else if s.pos.act = .parked then 1 else 2 := by
    unfold State.drivenMode; rw [← hengine]; split <;> rfl
  have hheld : ∀ b : Byte, optItem (if s.flc.senseBench = true then some [b] else none) =
      if s.flc.senseBench = true then [1, b] else [0] := fun b => by split <;> rfl
  unfold State.linesBytes State.selectBytes State.spindleBytes State.senseBytes
  simp only [b1, howner, hlevel, hramp, hpreamp, hdriven, hengine, hbyte, hheld, State.drivenHead, List.cons_append,
    List.nil_append, List.append_assoc]

theorem linkBytes_eq (hb : s.blk.buffer = []) : s.linkBytes =
    [byteOf s.blk.counters.check, byteOf s.blk.counters.length, byteOf s.blk.counters.gap,
          byteOf s.blk.counters.overrun] ++
        (s.blk.lastFault.elim [0] fun x => 1 :: byteOf x.fault.code :: (x.kind.elim [0] fun k => [1, k]) ++
          (x.tag.elim [0] fun g => [1, g])) ++
        [byteOf s.blk.asm.state.code, 0] := by
  unfold State.linkBytes
  rw [hb]
  simp only [optItem_map, b1, LinkFault.bytes, List.cons_append, List.nil_append, List.append_assoc]
  rfl

theorem countersBytes_eq : s.countersBytes =
    byteOf s.prof.headCount ::
        ((List.range s.prof.headCount).map fun h =>
          leBytes 2 (s.sdc.counters.getD h {}).miss ++ leBytes 2 (s.sdc.counters.getD h {}).weak ++
            leBytes 2 (s.sdc.counters.getD h {}).wild ++ leBytes 2 (s.sdc.counters.getD h {}).slip).flatten ++
        [byteOf (if s.flc.selectBench then s.flc.benchHead else s.flc.engineHead)] ++
        (s.sdc.expect.elim [0] fun n => 1 :: leBytes 2 n) ++ [if s.sdc.marker then 1 else 0] := by
  unfold State.countersBytes listItem
  rw [optItem_map, List.length_map, List.length_range]
  rfl

/-! ## PROFILE_READ -/

theorem record_eq (p : Profile) : p.record =
    (([p.headCount, p.zoneCount, p.anchor, p.sectors].map (leBytes 2)).flatten ++ leBytes 4 p.trackMax ++
          leBytes 4 p.nRevNom ++
          ([p.speedTolPm, p.ampFloor, p.window, p.windowRevs, p.follow, p.visit, p.jog].map (leBytes 2)).flatten ++
          leSigned 2 p.jogCentre ++
          ([p.retries, p.skewRevs, p.settleTol, p.settleCount, p.settleMs, p.otTol, p.otCount, p.acqCount, p.acqMs,
            p.loadMs, p.seekMs, p.unloadMs, p.spinupMs, p.speedRecoverMs, p.gainMinQ8, p.gainMaxQ8, p.ampMin,
            p.weakMaxPm, p.missMaxPm, p.zoneStepMax, p.skewStepMax, p.warmOff, p.warmOn, p.hotOff, p.hotOn, p.decayQ8,
            p.holdCost, p.seekBase, p.seekDiv, p.jogCost, p.paceTicks, p.hotParkTicks].map (leBytes 2)).flatten ++
          (p.zoneTracks.map (leBytes 4)).flatten) := by
  unfold Profile.record Profile.fields
  simp only [List.map_cons, List.map_nil, List.cons_append, List.nil_append, fieldsFrom, leSigned_ofNat, List.flatten_cons,
    List.flatten_nil, List.append_nil, List.append_assoc]
  rfl

theorem profileBytes_eq : s.profileBytes = s.prof.record ++
          [byteOf s.pst.state.code, byteOf s.pst.source.code,
            byteOf ((if s.pst.defaulted then 1 else 0) + if s.pst.unsaved then 2 else 0)] ++
          (match s.pst.startup with
            | .loaded => [0, 0, 0]
            | .read => [1, 0, 0]
            | .check => [2, 0, 0]
            | .value i => 3 :: leBytes 2 i) ++
          [s.pst.save.elim 255 fun v => byteOf v.stage.code] ++
          (match s.pst.lastSave with
            | .none => [0, 0]
            | .done => [1, 0]
            | .failed st => [2, byteOf st.code]
            | .abandoned => [3, 0]) := by
  have hstart : b1 s.pst.startup.code ++ b2 s.pst.startup.field =
      (match s.pst.startup with
        | .loaded => [0, 0, 0]
        | .read => [1, 0, 0]
        | .check => [2, 0, 0]
        | .value i => 3 :: leBytes 2 i) := by
    cases s.pst.startup <;> rfl
  have hlast : b1 s.pst.lastSave.code ++ b1 s.pst.lastSave.stageCode =
      (match s.pst.lastSave with
        | .none => [0, 0]
        | .done => [1, 0]
        | .failed st => [2, byteOf st.code]
        | .abandoned => [3, 0]) := by
    cases s.pst.lastSave <;> rfl
  unfold State.profileBytes
  rw [← hstart, ← hlast, bitsByte_two]
  simp only [b1, getD_map_byte, List.cons_append, List.nil_append, List.append_assoc]

end Sys2Proof.Machine
end

section
/-! PROOF. The bytes of JOB_LIST, MAP_READ and STATUS_READ (R105, R139, R191, R194). -/

namespace Sys2Proof.Machine

variable (s : State)

/-! ## JOB_LIST -/

theorem jobItem_eq (j : Job) : s.jobItem j =
    [byteOf j.id, byteOf j.kind.code, byteOf j.state.code,
            byteOf ((if j.reasons.bench then 1 else 0) + (if j.reasons.thermal then 2 else 0) +
              if j.reasons.spindle then 4 else 0)] ++
          (j.cursor.elim [0] fun c =>
            [1, byteOf c.zone, byteOf c.head, byteOf c.phase.code, byteOf c.retries, byteOf c.failedZones]) ++
          leBytes 2 j.counts.ok ++ leBytes 2 j.counts.reference ++ leBytes 2 j.counts.fault ++
          leBytes 2 j.counts.skipped ++
          (j.first.elim [0] fun x => [1, byteOf x.head, byteOf x.zone, byteOf x.reason.code]) ++
          [byteOf ((if j.flags.duplicates then 1 else 0) + (if j.flags.window then 2 else 0) +
            (if j.flags.jog then 4 else 0) + (if j.flags.centre then 8 else 0) + if j.flags.skewRevs then 16 else 0)] ++
          (if j.state = .running ∧ (j.cursor.any fun c => c.phase == .prepare || c.phase == .zoneSeek) = true then
            s.jct.ctx.waits.elim [0] fun w => [1, byteOf w.code]
          else [0]) := by
  have hwait : optItem ((s.waitOf j).map fun w => b1 w.code) =
      if j.state = .running ∧ (j.cursor.any fun c => c.phase == .prepare || c.phase == .zoneSeek) = true then
        s.jct.ctx.waits.elim [0] fun w => [1, byteOf w.code]
      else [0] := by
    unfold State.waitOf
    rw [optItem_map]
    by_cases hr : j.state = .running
    · simp only [hr, if_true, true_and]
      cases j.cursor with
      | none => rfl
      | some c => cases hc : c.phase <;> simp [hc, b1]
    · simp only [hr, if_false, false_and]
      rfl
  unfold State.jobItem
  rw [hwait, jobFlags_byte]
  simp only [Reasons.byte, bitsByte_three, optItem_map, Counts.bytes, Cursor.bytes, FirstFault.bytes, b1, b2,
    List.cons_append, List.nil_append, List.append_assoc]

theorem queueWait_eq : optItem (s.queueWait.map fun w => b1 w.code) =
    if s.jct.table.all fun j => j.state != .queued then [0]
    else if s.jct.table.any fun j => j.state != .queued then [1, 0]
    else if s.flc.selectBench then [1, 1]
    else if s.flc.spindleBench then [1, 2]
    else if s.chm.level = .hot then [1, 3]
    else [0] := by
  have hactive : s.active.isSome = s.jct.table.any fun j => j.state != .queued := List.isSome_find?
  unfold State.queueWait
  by_cases hall : (s.jct.table.all fun j => j.state != .queued) = true
  · have hnone : s.queueHead = none := by
      unfold State.queueHead
      rw [List.find?_eq_none]
      intro j hj
      simpa [Job.isActive] using List.all_eq_true.mp hall j hj
    rw [if_pos hall, hnone]
    rfl
  · obtain ⟨j, hj⟩ : ∃ j, s.queueHead = some j := by
      refine Option.isSome_iff_exists.mp ?_
      unfold State.queueHead
      rw [List.isSome_find?, List.any_eq_true]
      simpa [Job.isActive] using hall
    rw [if_neg hall, hj]
    show optItem (s.waitingCause.map fun w => b1 w.code) = _
    unfold State.waitingCause
    rw [hactive]
    split
    · rfl
    · split
      · rfl
      · split
        · rfl
        · split <;> rfl

theorem jobListBytes_eq : s.jobListBytes =
    byteOf s.jct.table.length ::
        (s.jct.table.map fun j =>
          [byteOf j.id, byteOf j.kind.code, byteOf j.state.code,
            byteOf ((if j.reasons.bench then 1 else 0) + (if j.reasons.thermal then 2 else 0) +
              if j.reasons.spindle then 4 else 0)] ++
          (j.cursor.elim [0] fun c =>
            [1, byteOf c.zone, byteOf c.head, byteOf c.phase.code, byteOf c.retries, byteOf c.failedZones]) ++
          leBytes 2 j.counts.ok ++ leBytes 2 j.counts.reference ++ leBytes 2 j.counts.fault ++
          leBytes 2 j.counts.skipped ++
          (j.first.elim [0] fun x => [1, byteOf x.head, byteOf x.zone, byteOf x.reason.code]) ++
          [byteOf ((if j.flags.duplicates then 1 else 0) + (if j.flags.window then 2 else 0) +
            (if j.flags.jog then 4 else 0) + (if j.flags.centre then 8 else 0) + if j.flags.skewRevs then 16 else 0)] ++
          (if j.state = .running ∧ (j.cursor.any fun c => c.phase == .prepare || c.phase == .zoneSeek) = true then
            s.jct.ctx.waits.elim [0] fun w => [1, byteOf w.code]
          else [0])).flatten ++
        (if s.jct.table.all fun j => j.state != .queued then [0]
          else if s.jct.table.any fun j => j.state != .queued then [1, 0]
          else if s.flc.selectBench then [1, 1]
          else if s.flc.spindleBench then [1, 2]
          else if s.chm.level = .hot then [1, 3]
          else [0]) ++
        byteOf s.jct.finished.length ::
        (s.jct.finished.map fun x =>
          [byteOf x.id, byteOf x.kind.code, byteOf x.final.code, if x.read then 1 else 0]).flatten := by
  unfold State.jobListBytes listItem
  rw [queueWait_eq, List.length_map, List.length_map, List.map_congr_left fun j _ => jobItem_eq s j]
  rfl

/-! ## MAP_READ -/

theorem qualifyBlock_eq (q : Option (Entry QualifyResult)) : qualifyBlock q =
    (match q with
      | none => List.replicate 10 0
      | some { result := .pass x, job := id } =>
        [1, 0, 0] ++ leBytes 2 (x.amp.getD 65535) ++ leBytes 2 (x.weak.getD 65535) ++
          leBytes 2 (x.miss.getD 65535) ++ [byteOf id]
      | some { result := .fail why x, job := id } =>
        [1, 1, byteOf why.code] ++ leBytes 2 (x.amp.getD 65535) ++ leBytes 2 (x.weak.getD 65535) ++
          leBytes 2 (x.miss.getD 65535) ++ [byteOf id]) := by
  match q with
  | none => rfl
  | some { result := .pass x, job := id } => rfl
  | some { result := .fail why x, job := id } => rfl

theorem spanBlock_eq (q : Option (Entry SpanResult)) : spanBlock q =
    (match q with
      | none => List.replicate 25 0
      | some { result := .ok x, job := id } =>
        [1, 0, 0] ++ leSigned 4 x.d ++ leSigned 1 x.dt ++ leBytes 2 x.df ++ leSigned 2 x.g ++ leSigned 4 x.v1 ++
          leSigned 4 x.v2 ++ leSigned 2 x.o1 ++ leSigned 2 x.o2 ++ [byteOf id]
      | some { result := .reference, job := id } =>
        [1, 1, 0] ++ List.replicate 7 0 ++ leBytes 2 256 ++ List.replicate 12 0 ++ [byteOf id]
      | some { result := .fault why, job := id } =>
        [1, 2, byteOf why.code] ++ List.replicate 21 0 ++ [byteOf id]) := by
  match q with
  | none => rfl
  | some { result := .ok x, job := id } => rfl
  | some { result := .reference, job := id } => rfl
  | some { result := .fault why, job := id } => rfl

theorem skewBlock_eq (q : Option (Entry SkewResult)) : skewBlock q =
    (match q with
      | none => List.replicate 13 0
      | some { result := .ok x, job := id } =>
        [1, 0, 0] ++ leSigned 2 x.skew ++ [byteOf x.ra, byteOf x.rh] ++ leBytes 4 x.nRev ++
          [if x.saturated then 1 else 0, byteOf id]
      | some { result := .reference, job := id } => [1, 1, 0] ++ List.replicate 9 0 ++ [byteOf id]
      | some { result := .fault why, job := id } =>
        [1, 2, byteOf why.code] ++ List.replicate 9 0 ++ [byteOf id]) := by
  match q with
  | none => rfl
  | some { result := .ok x, job := id } => rfl
  | some { result := .reference, job := id } => rfl
  | some { result := .fault why, job := id } => rfl

theorem mapHeader_eq {m : List HeadRecord} {h : Nat} {r : HeadRecord} (hr : m[h]? = some r) :
    s.mapHeader m h = leBytes 2 s.hmp.gen ++ [if r.excluded then 1 else 0, byteOf r.derived.code] := by
  unfold State.mapHeader excludedIn derivedIn
  rw [hr]
  rfl

theorem slotsOf_eq {m : List HeadRecord} {h : Nat} {r : HeadRecord} (hr : m[h]? = some r) (z : Nat) :
    slotsOf m h z = r.zones.getD z {} := by
  unfold slotsOf
  rw [hr]

theorem outcomes_eq (z : ZoneSlots) : z.outcomes =
    [match z.qualify with
      | none => 255
      | some { result := .pass _, job := _ } => 0
      | some { result := .fail _ _, job := _ } => 1,
      match z.span with
      | none => 255
      | some { result := .ok _, job := _ } => 0
      | some { result := .reference, job := _ } => 1
      | some { result := .fault _, job := _ } => 2,
      match z.skew with
      | none => 255
      | some { result := .ok _, job := _ } => 0
      | some { result := .reference, job := _ } => 1
      | some { result := .fault _, job := _ } => 2] := by
  have hq : byteOf ((z.qualify.map fun e => e.result.codes.1).getD 255) =
      (match z.qualify with
        | none => 255
        | some { result := .pass _, job := _ } => 0
        | some { result := .fail _ _, job := _ } => 1) := by
    match z.qualify with
    | none => rfl
    | some { result := .pass _, job := _ } => rfl
    | some { result := .fail _ _, job := _ } => rfl
  have hp : byteOf ((z.span.map fun e => e.result.codes.1).getD 255) =
      (match z.span with
        | none => 255
        | some { result := .ok _, job := _ } => 0
        | some { result := .reference, job := _ } => 1
        | some { result := .fault _, job := _ } => 2) := by
    match z.span with
    | none => rfl
    | some { result := .ok _, job := _ } => rfl
    | some { result := .reference, job := _ } => rfl
    | some { result := .fault _, job := _ } => rfl
  have hk : byteOf ((z.skew.map fun e => e.result.codes.1).getD 255) =
      (match z.skew with
        | none => 255
        | some { result := .ok _, job := _ } => 0
        | some { result := .reference, job := _ } => 1
        | some { result := .fault _, job := _ } => 2) := by
    match z.skew with
    | none => rfl
    | some { result := .ok _, job := _ } => rfl
    | some { result := .reference, job := _ } => rfl
    | some { result := .fault _, job := _ } => rfl
  rw [← hq, ← hp, ← hk]
  rfl

/-- A list is read whole by its indices. -/
theorem map_range_getD {α β : Type} (xs : List α) (d : α) (f : α → β) :
    (List.range xs.length).map (fun i => f (xs.getD i d)) = xs.map f := by
  refine List.ext_getElem (by simp) fun i h1 h2 => ?_
  simp at h1
  simp [h1]

theorem headForm_eq {m : List HeadRecord} {h : Nat} {r : HeadRecord} (hr : m[h]? = some r)
    (hz : r.zones.length = s.prof.zoneCount) :
    s.headForm m h = s.mapHeader m h ++ (r.zones.map ZoneSlots.outcomes).flatten := by
  unfold State.headForm
  simp only [slotsOf_eq hr]
  rw [← hz, map_range_getD]

theorem entryForm_eq {m : List HeadRecord} {h n : Nat} {r : HeadRecord} {z : ZoneSlots} (hr : m[h]? = some r)
    (hz : r.zones[n]? = some z) : s.entryForm m h n =
    leBytes 2 s.hmp.gen ++ [if r.excluded then 1 else 0, byteOf r.derived.code] ++ qualifyBlock z.qualify ++ spanBlock z.span ++
      skewBlock z.skew := by
  have hslots : slotsOf m h n = z := by rw [slotsOf_eq hr, List.getD_eq_getElem?_getD, hz]; rfl
  unfold State.entryForm
  rw [hslots, mapHeader_eq s hr]

/-! ## STATUS_READ -/

theorem overflow_byte (o : Option Stage) : byteOf (overflowCode o) = o.elim 0 fun x => if x = .l then 1 else 2 := by
  match o with
  | none => rfl
  | some .l => rfl
  | some .u => rfl

theorem remaining_of_due {t : Timer} {d : Nat} (h : t.due = some d) (n : Nat) :
    t.remaining n = max 1 ((d - n + (Config.ticksPerMs - 1)) / Config.ticksPerMs) := by
  unfold Timer.remaining
  rw [h]

theorem remaining_eq (t : Timer) (n : Nat) :
    t.remaining n = t.due.elim 0 fun d => max 1 ((d - n + 199999) / 200000) := by
  have hpred : Config.ticksPerMs - 1 = 199999 := rfl
  have hms : Config.ticksPerMs = 200000 := rfl
  cases h : t.due with
  | none =>
    unfold Timer.remaining
    rw [h]
    rfl
  | some d => rw [remaining_of_due h, hpred, hms, Option.elim_some]

theorem statusBytes_eq : s.statusBytes =
    [byteOf s.pst.state.code, byteOf ((if s.pst.defaulted then 1 else 0) + if s.pst.unsaved then 2 else 0),
          byteOf s.pos.spindle.code, byteOf s.pos.act.code, byteOf s.chm.level.code,
          byteOf ((if s.flc.selectBench then 1 else 0) + (if s.flc.spindleBench then 2 else 0) +
            if s.flc.senseBench then 4 else 0)] ++ s.statusJob ++ s.statusWindow ++
        [byteOf s.gcu.state.code, byteOf s.gcu.mode.code, byteOf (s.gcu.head.getD 255)] ++
        leBytes 2 (s.gcu.liveL s.now) ++ leBytes 2 (s.gcu.liveU s.now) ++
        [s.gcu.overflow.elim 0 fun x => if x = .l then 1 else 2, s.gcu.last.elim 255 fun r => byteOf r.ending.code,
          byteOf ((s.gcu.last.bind fun r => r.marks).getD 0)] ++ leBytes 4 ((s.gcu.last.bind fun r => r.value).getD 0) ++
        leBytes 2 s.hmp.gen ++
        [if s.hmp.unpub then 1 else 0,
          byteOf ((if s.rtm.a.due.isSome then 1 else 0) + if s.rtm.b.due.isSome then 2 else 0)] ++
        leBytes 4 (s.rtm.a.due.elim 0 fun d => max 1 ((d - s.now + 199999) / 200000)) ++
        leBytes 4 (s.rtm.b.due.elim 0 fun d => max 1 ((d - s.now + 199999) / 200000)) ++
        [byteOf s.blk.events.bits, byteOf s.blk.mask.bits] := by
  unfold State.statusBytes State.statusGate State.eventBytes
  simp only [bitsByte_two, Flc.ownerBits, bitsByte_three, State.timerBits, Timer.isRunning, remaining_eq, overflow_byte,
    getD_map_byte, boolByte, b1, b2, b4, List.cons_append, List.nil_append, List.append_assoc]

theorem statusJob_length : s.statusJob.length = 6 := by
  unfold State.statusJob
  split <;> rfl

theorem statusWindow_length : s.statusWindow.length = 10 := by
  unfold State.statusWindow
  split <;> rfl

theorem statusBytes_length : s.statusBytes.length = 50 := by
  rw [statusBytes_eq]
  simp [statusJob_length, statusWindow_length]

theorem statusJob_of_active {x : Job} {c : Cursor} (hx : s.active = some x) (hc : x.cursor = some c) :
    s.statusJob = [byteOf x.id, byteOf x.state.code, byteOf c.phase.code, byteOf (x.zones.getD c.zone 0),
      byteOf (x.heads.getD c.head 0),
      byteOf ((if x.reasons.bench then 1 else 0) + (if x.reasons.thermal then 2 else 0) +
        if x.reasons.spindle then 4 else 0)] := by
  unfold State.statusJob
  rw [hx]
  simp only [hc, Option.getD_some, ← bitsByte_three]
  rfl

theorem statusWindow_of_open {w : Window} (hw : s.window = some w) :
    s.statusWindow = [if w.probing then 2 else 1, byteOf w.kind.code, byteOf w.head] ++ leBytes 2 w.size ++ leBytes 2 w.used ++
      leBytes 2 (w.miss + w.wild) ++ [byteOf w.revs] := by
  unfold State.statusWindow
  rw [hw]
  cases h : w.probing <;> simp [b1, b2, byteOf, h]

/-- The two stages of a COUNTING gate in CHAINED mode are the halves of its ticks (R81). -/
theorem live_chained {g : Gcu} (hs : g.state = .counting) (hm : g.mode = .chained) (n : Nat) :
    g.liveL n < 65536 ∧ g.liveU n * 65536 + g.liveL n = min 4294967295 (n - g.start) := by
  unfold Gcu.liveL Gcu.liveU
  rw [hs, hm]
  exact ⟨Nat.mod_lt _ (by decide), Nat.div_add_mod' _ _⟩

theorem live_split {g : Gcu} (hs : g.state = .counting) (hm : g.mode = .split) (n : Nat) :
    g.liveL n = min 65535 (n - g.start) ∧ g.liveU n = g.stageU := by
  unfold Gcu.liveL Gcu.liveU
  rw [hs, hm]
  exact ⟨rfl, rfl⟩

theorem live_still {g : Gcu} (hs : g.state ≠ .counting) (n : Nat) : g.liveL n = g.stageL ∧ g.liveU n = g.stageU := by
  unfold Gcu.liveL Gcu.liveU
  cases h : g.state with
  | idle => exact ⟨rfl, rfl⟩
  | armed => exact ⟨rfl, rfl⟩
  | counting => exact absurd h hs

end Sys2Proof.Machine
end

section
/-! PROOF. The reads as requests (R186, R188). -/

namespace Sys2Proof.Machine

variable {s : State}

/-- With nothing waiting, a kind is cleared behind an opened reply as before it (R187, R188). -/
theorem openReply_clearEvent (hw : s.blk.waiting = []) (tag : Byte) (k : EventKind) :
    (s.openReply tag).clearEvent k = (s.clearEvent k).openReply tag := by
  simp [State.clearEvent, State.openReply, Blk.clear, Blk.withdraw, State.setBlk, hw, Waiting.isNotice]

theorem clearEvent_waiting (hw : s.blk.waiting = []) (k : EventKind) : (s.clearEvent k).blk.waiting = [] := by
  simp [State.clearEvent, Blk.clear, Blk.withdraw, hw]

theorem isResetAck_of_ne {k : RequestKind} (hr : k ≠ .benchReset) (a : Answer) : isResetAck k a = false := by
  unfold isResetAck
  split
  · exact absurd rfl hr
  · rfl

/-- The length of a request that has no payload (R186). -/
theorem fits_nil {k : RequestKind} (h : k.fixedLength = some 0) : ∀ n, k.fixedLength = some n → ([] : List Byte).length = n := by
  intro n hn
  rw [h] at hn
  cases hn
  rfl

/-- A read that changes nothing (R186). -/
theorem read_kept {k : RequestKind} {tag : Byte} {p bytes : List Byte} (h : s.LinkReady) (hp : p.length ≤ 240)
    (hl : ∀ n, k.fixedLength = some n → p.length = n) (hk : k ≠ .restWrite) (hr : k ≠ .benchReset)
    (ha : ((s.reloadFor k).openReply tag).handle k p = (.ack bytes, (s.reloadFor k).openReply tag)) :
    request k.code tag p s = .next ((s.reloadFor k).acks tag bytes) := by
  rw [request_kept h hp hl hk ha, isResetAck_of_ne hr]
  rfl

/-- A read that clears its block's event (R188). -/
theorem read_clearing {k : RequestKind} {e : EventKind} {tag : Byte} {p bytes : List Byte} (h : s.LinkReady) (hp : p.length ≤ 240)
    (hl : ∀ n, k.fixedLength = some n → p.length = n) (hk : k ≠ .restWrite) (hr : k ≠ .benchReset)
    (ha : ((s.reloadFor k).openReply tag).handle k p = (.ack bytes, ((s.reloadFor k).openReply tag).clearEvent e)) :
    request k.code tag p s = .next (((s.reloadFor k).clearEvent e).acks tag bytes) := by
  obtain ⟨r, he⟩ := reloadFor_eq s k
  have hw : (s.reloadFor k).blk.waiting = [] := by rw [he]; exact h.waiting
  rw [openReply_clearEvent hw] at ha
  rw [request_taken (v := (s.reloadFor k).clearEvent e) (ms := []) h hp hl hk (by rw [ha, State.tells_nil])
    (clearEvent_waiting hw e) (by rw [he]; exact h.sending) (by rw [he]; exact h.inbox) (.inl rfl), isResetAck_of_ne hr]
  rfl

/-- A read of a block's state `g`, which no timer and no waiting reply touches, changing nothing (R186). -/
theorem read_block {k : RequestKind} {src : Source} {g : State → List Byte} {tag : Byte} (h : s.LinkReady)
    (hl : k.fixedLength = some 0) (hs : k.source = some src) (hh : ∀ w : State, w.handle k [] = (.ack (g w), w))
    (hg : ∀ r, g ((s.setRtm r).openReply tag) = g s) :
    request k.code tag [] s = .next ((s.reload src).acks tag (g s)) := by
  have hk : s.reloadFor k = s.reload src := by unfold State.reloadFor; rw [hs]
  obtain ⟨r, e⟩ := reload_eq s src
  rw [← hk]
  refine read_kept h (Nat.zero_le _) (fits_nil hl) (fun e => by rw [e] at hl; cases hl) (fun e => by rw [e] at hs; cases hs) ?_
  rw [hh, hk, e, hg r]

/-- A read of a block's state `g` that clears the block's event (R188). -/
theorem read_block_clearing {k : RequestKind} {src : Source} {ev : EventKind} {g : State → List Byte} {tag : Byte}
    (h : s.LinkReady) (hl : k.fixedLength = some 0) (hs : k.source = some src)
    (hh : ∀ w : State, w.handle k [] = (.ack (g w), w.clearEvent ev)) (hg : ∀ r, g ((s.setRtm r).openReply tag) = g s) :
    request k.code tag [] s = .next (((s.reload src).clearEvent ev).acks tag (g s)) := by
  have hk : s.reloadFor k = s.reload src := by unfold State.reloadFor; rw [hs]
  obtain ⟨r, e⟩ := reload_eq s src
  rw [← hk]
  refine read_clearing h (Nat.zero_le _) (fits_nil hl) (fun e => by rw [e] at hl; cases hl) (fun e => by rw [e] at hs; cases hs) ?_
  rw [hh, hk, e, hg r]

/-! ## STATUS_READ, LINK_READ and MAP_READ -/

theorem exec_statusRead (h : s.LinkReady) (tag : Byte) :
    exec (.statusRead tag) s = .next ((s.reload .readReq).acks tag (s.reload .readReq).statusBytes) := by
  refine read_kept (k := .statusRead) h (Nat.zero_le _) (fits_nil rfl) (by decide) (by decide) ?_
  show (Answer.ack ((s.reload .readReq).openReply tag).statusBytes, _) = _
  rw [statusBytes_eq, statusBytes_eq]
  rfl

theorem exec_linkRead_refused (h : s.LinkReady) (tag : Byte) {c : Byte} (hc : 1 < c.toNat) :
    exec (.linkRead tag c) s = .next ((s.reload .readReq).refuses tag .badValue 0) :=
  request_kept (k := .linkRead) (p := [c]) (a := .refuse { code := .badValue }) h (Nat.le_of_ble_eq_true rfl)
    (fun n hn => by cases hn; rfl) (by decide) (if_pos hc)

theorem exec_linkRead (h : s.LinkReady) (tag : Byte) :
    exec (.linkRead tag 0) s = .next (((s.reload .readReq).clearEvent .link).acks tag s.linkBytes) := by
  obtain ⟨r, e⟩ := reload_eq s .readReq
  refine read_clearing (k := .linkRead) (p := [0]) h (Nat.le_of_ble_eq_true rfl) (fun n hn => by cases hn; rfl) (by decide)
    (by decide) ?_
  show ((s.reload .readReq).openReply tag).reqLinkRead 0 = _
  have hb : ((s.setRtm r).openReply tag).linkBytes = s.linkBytes := rfl
  unfold State.reqLinkRead
  rw [show s.reloadFor .linkRead = _ from e, e, hb]
  rfl

/-- LINK_READ with 1 sets the counters to 0 after its report (R190). -/
theorem exec_linkRead_clear (h : s.LinkReady) (tag : Byte) :
    exec (.linkRead tag 1) s = .next ((((s.reload .readReq).clearEvent .link).setBlk
      { (s.clearEvent .link).blk with counters := {} }).acks tag s.linkBytes) := by
  obtain ⟨r, e⟩ := reload_eq s .readReq
  have hw : (s.reload .readReq).blk.waiting = [] := by rw [e]; exact h.waiting
  refine request_taken (k := .linkRead) (p := [1]) (a := .ack s.linkBytes) (ms := []) h (Nat.le_of_ble_eq_true rfl)
    (fun n hn => by cases hn; rfl) (by decide) ?_ (clearEvent_waiting h.waiting .link) h.sending (by rw [e]; exact h.inbox)
    (.inl rfl)
  show ((s.reload .readReq).openReply tag).reqLinkRead 1 = _
  have hb : ((s.setRtm r).openReply tag).linkBytes = s.linkBytes := rfl
  unfold State.reqLinkRead
  rw [openReply_clearEvent hw, State.tells_nil, e, hb]
  rfl

/-- MAP_READ that its checks refuse (R139). -/
theorem exec_mapRead_refused {tag copy form head zone : Byte} {d : Nat} (h : s.LinkReady)
    (hq : ∀ w : State, w.prof = s.prof →
      w.reqMapRead copy.toNat form.toNat head.toNat zone.toNat = w.refused .badValue d) :
    exec (.mapRead tag copy form head zone) s = .next ((s.reload .mapReq).refuses tag .badValue d) := by
  obtain ⟨r, e⟩ := reload_eq s .mapReq
  exact request_kept (k := .mapRead) (p := [copy, form, head, zone]) (a := .refuse { code := .badValue, detail := d }) h
    (Nat.le_of_ble_eq_true rfl) (fun n hn => by cases hn; rfl) (by decide) (hq _ (by rw [show s.reloadFor .mapRead = _ from e]; rfl))

/-- MAP_READ that is answered (R139). -/
theorem exec_mapRead {tag copy form head zone : Byte} {bytes : List Byte} (h : s.LinkReady)
    (hq : ∀ r, ((s.setRtm r).openReply tag).reqMapRead copy.toNat form.toNat head.toNat zone.toNat =
      (.ack bytes, (s.setRtm r).openReply tag)) :
    exec (.mapRead tag copy form head zone) s = .next ((s.reload .mapReq).acks tag bytes) := by
  obtain ⟨r, e⟩ := reload_eq s .mapReq
  exact read_kept (k := .mapRead) (p := [copy, form, head, zone]) h (Nat.le_of_ble_eq_true rfl) (fun n hn => by cases hn; rfl)
    (by decide) (by decide) (by rw [show s.reloadFor .mapRead = _ from e]; exact hq r)

/-- The copy that MAP_READ names (R139). -/
def State.mapCopy (s : State) (copy : Byte) : List HeadRecord := if copy = 0 then s.hmp.working else s.hmp.published

theorem mapCopy_eq (s : State) (copy : Byte) :
    (if copy.toNat = 0 then s.hmp.working else s.hmp.published) = s.mapCopy copy := by
  have : copy.toNat = 0 ↔ copy = 0 := by rw [BitVec.toNat_eq]; rfl
  unfold State.mapCopy
  simp only [this]

/-- Both forms of MAP_READ past their checks (R139). -/
theorem reqMapRead_form {copy : Byte} {form head zone : Nat} (hc : copy.toNat ≤ 1) (hf : form ≤ 1) (hh : head < s.prof.headCount)
    (hz : form = 0 → zone < s.prof.zoneCount) : s.reqMapRead copy.toNat form head zone =
      (.ack (if form = 0 then s.entryForm (s.mapCopy copy) head zone else s.headForm (s.mapCopy copy) head), s) := by
  unfold State.reqMapRead
  rw [if_neg (by omega), if_neg (by omega), if_neg (by omega), if_neg (fun k => by have := hz k.1; omega), mapCopy_eq]

/-- Settles O58: every read by its owner's rule, its bytes as `statusBytes_eq` to `headForm_eq` lay them out. -/
theorem readsAnswerAndClearTheirEvent : Obligations.ReadsAnswerAndClearTheirEvent := by
  intro s tag copy form head zone h
  obtain ⟨r, e⟩ := reload_eq s .readReq
  refine ⟨exec_statusRead h tag, statusBytes_length _, ?_, ?_, ?_, ?_, ?_, ?_, ?_, ?_, ?_, ?_, ?_, ?_, ?_, ?_, ?_⟩
  · rw [e]
    refine ⟨s.statusJob, s.statusWindow, s.gcu.liveL s.now, s.gcu.liveU s.now, statusBytes_eq (s.setRtm r), fun ha => ?_,
      fun x c ha hc => statusJob_of_active s ha hc, fun hw => ?_, fun w hw => statusWindow_of_open s hw,
      fun hg => live_still hg s.now, fun hg hm => live_chained hg hm s.now, fun hg hm => live_split hg hm s.now⟩
    · unfold State.statusJob; rw [ha]; rfl
    · unfold State.statusWindow; rw [hw]
  · exact (read_block_clearing (k := .motionRead) h rfl rfl (fun _ => rfl) (fun _ => rfl)).trans (congrArg _ (congrArg _ (motionBytes_eq s)))
  · exact (read_block_clearing (k := .thermalRead) h rfl rfl (fun _ => rfl) (fun _ => rfl)).trans (congrArg _ (congrArg _ (thermalBytes_eq s)))
  · exact (read_block_clearing (k := .linesRead) h rfl rfl (fun _ => rfl) (fun _ => rfl)).trans (congrArg _ (congrArg _ (linesBytes_eq s)))
  · intro link hlink
    rw [hlink, ← linkBytes_eq s h.buffer]
    exact ⟨exec_linkRead h tag, exec_linkRead_clear h tag⟩
  · exact fun hc => exec_linkRead_refused h tag hc
  · exact (read_block (k := .countersRead) h rfl rfl (fun _ => rfl) (fun _ => rfl)).trans (congrArg _ (congrArg _ (countersBytes_eq s)))
  · rintro p rfl
    exact (read_block_clearing (k := .profileRead) h rfl rfl (fun _ => rfl) (fun _ => rfl)).trans
      (congrArg _ (congrArg _ ((profileBytes_eq s).trans (congrArg (fun b => b ++ _ ++ _ ++ _ ++ _) (record_eq s.prof)))))
  · exact (read_block_clearing (k := .jobList) h rfl rfl (fun _ => rfl) (fun _ => rfl)).trans (congrArg _ (congrArg _ (jobListBytes_eq s)))
  · exact read_block (k := .eventsRead) h rfl rfl (fun _ => rfl) (fun _ => rfl)
  · exact fun hc => exec_mapRead_refused h fun w hw => if_pos hc
  · intro hc hf
    refine exec_mapRead_refused h fun w hw => ?_
    unfold State.reqMapRead
    rw [if_neg (by omega), if_pos hf]
  · intro hc hf hh
    refine exec_mapRead_refused h fun w hw => ?_
    unfold State.reqMapRead
    rw [if_neg (by omega), if_neg (by omega), if_pos (by rw [hw]; exact hh)]
  · intro hc hh hz
    refine exec_mapRead_refused h fun w hw => ?_
    unfold State.reqMapRead
    rw [if_neg (by omega), if_neg (by decide), if_neg (by rw [hw]; omega), if_pos (by rw [hw]; exact ⟨rfl, hz⟩)]
  · intro hc hh x hx hlen
    have hx : (s.mapCopy copy)[head.toNat]? = some x := hx
    refine ⟨fun z hz => exec_mapRead h fun r => ?_, exec_mapRead h fun r => ?_⟩
    · have hzone : zone.toNat < s.prof.zoneCount := by rw [← hlen]; exact (List.getElem?_eq_some_iff.mp hz).1
      have hform := reqMapRead_form (s := (s.setRtm r).openReply tag) (form := (0 : Byte).toNat) hc (by decide) hh fun _ => hzone
      have hbytes := entryForm_eq ((s.setRtm r).openReply tag) hx hz
      rw [qualifyBlock_eq, spanBlock_eq, skewBlock_eq] at hbytes
      exact hform.trans (congrArg (fun b => (Answer.ack b, _)) hbytes)
    · have hform := reqMapRead_form (s := (s.setRtm r).openReply tag) (form := (1 : Byte).toNat) (zone := zone.toNat) hc (by decide)
        hh fun k => absurd k (by decide)
      have hbytes := headForm_eq ((s.setRtm r).openReply tag) hx hlen
      rw [mapHeader_eq _ hx, List.map_congr_left fun z _ => outcomes_eq z] at hbytes
      exact hform.trans (congrArg (fun b => (Answer.ack b, _)) hbytes)

end Sys2Proof.Machine
end

section
/-! PROOF. What the end of a slot leaves as it is, and what it counts (R1, R7, R8, R12, R51). -/

namespace Sys2Proof.Machine

variable {s t u : State}

/-! ## Outside PARKED and off the ramp the slot runs on -/

/-- With the engine view of RAMP_SENSE at OFF_RAMP and the actuator outside PARKED the slot in progress runs on. -/
def SlotRuns (s t : State) : Prop :=
  s.rampView = .offRamp → s.pos.act ≠ .parked →
    t.rampView = .offRamp ∧ t.pos.act ≠ .parked ∧ t.sdc.slotDue = s.sdc.slotDue

theorem SlotRuns.trans (h : SlotRuns s t) (k : SlotRuns t u) : SlotRuns s u := fun hr ha => by
  obtain ⟨hr1, ha1, h1⟩ := h hr ha
  obtain ⟨hr2, ha2, h2⟩ := k hr1 ha1
  exact ⟨hr2, ha2, h2.trans h1⟩

theorem SlotRuns.of_same (hf : t.rampView = s.rampView) (ha : t.pos.act = s.pos.act) (hs : t.sdc.slotDue = s.sdc.slotDue) :
    SlotRuns s t := fun hr hp => ⟨hf.trans hr, ha ▸ hp, hs⟩

/-- A change of actuator state outside PARKED leaves the slot in progress. -/
theorem setAct_slotDue (hp : s.pos.act ≠ .parked) (a : ActState) (d : Option ActDeadline) :
    (s.setAct a d).sdc.slotDue = s.sdc.slotDue := by
  have depart : ∀ v : State, (v.departFollowing a).sdc.slotDue = v.sdc.slotDue := by
    intro v
    have he : (v.endWindow (departureEnding a)).sdc.slotDue = v.sdc.slotDue := by
      unfold State.endWindow
      split
      next w _ => exact (closeWindow_facts v w _).2.2.1
      next => rfl
    unfold State.departFollowing
    dsimp only
    split <;> exact he
  unfold State.setAct
  dsimp only
  rw [if_neg (fun k : _ ∧ _ => hp k.1)]
  split
  · exact depart _
  · rfl

theorem Motion.slotRuns (h : Motion s t) : SlotRuns s t := by
  induction h with
  | refl s => exact .of_same rfl rfl rfl
  | trans _ _ h k => exact h.trans k
  | inbox s x => exact .of_same rfl rfl rfl
  | pos s x h => exact .of_same rfl (congrArg Prod.fst h) rfl
  | act s a d h =>
    intro hr hp
    exact ⟨(setAct_carries s a d).rampView.trans hr, by rw [(setAct_facts s a d).1]; exact h, setAct_slotDue hp a d⟩
  | park s h => exact fun hr => by rw [h] at hr; cases hr
  | select s n => exact .of_same (selectHead_carries s n).rampView (by simp) (by simp)
  | window s x _ => exact .of_same rfl rfl rfl
  | gcu s x => exact .of_same rfl rfl rfl
  | chm s x _ _ => exact .of_same rfl rfl rfl
  | raise s k => exact .of_same rfl rfl rfl

theorem Work.slotRuns (h : Work s t) : SlotRuns s t := by
  induction h with
  | refl s => exact .of_same rfl rfl rfl
  | trans _ _ h k => exact h.trans k
  | inbox s x => exact .of_same rfl rfl rfl
  | jct s x _ _ => exact .of_same rfl rfl rfl
  | capture s _ _ _ _ => exact .of_same rfl rfl rfl
  | raise s k => exact .of_same rfl rfl rfl
  | reload s src => obtain ⟨r, e⟩ := reload_eq s src; rw [e]; exact .of_same rfl rfl rfl
  | rest s _ => exact (beginUnload_motion s _).slotRuns
  | select s n => exact (Motion.select s n).slotRuns
  | endWindow s e => exact (endWindow_motion s e).slotRuns
  | openWindow s k n m a =>
    have h1 := (endWindow_motion s (.abandoned .replaced)).slotRuns
    unfold State.openWindow
    dsimp only
    split
    · exact h1.trans (.of_same rfl rfl rfl)
    · exact h1.trans (closeWindow_motion _ _ _).slotRuns
  | abortGate s c => exact (abortGate_motion s c).slotRuns
  | armGate e => exact (armGate_motion e).slotRuns
  | spinUp e => exact (takeSpinUp_motion e).slotRuns
  | load e => exact (takeLoad_motion e).slotRuns
  | seek e => exact (takeSeek_motion e).slotRuns
  | jog e => exact (takeJog_motion e).slotRuns

/-! ## What motion leaves as it is -/

/-- What the end of a slot leaves as it is once the decoder has taken its share. -/
structure Untouched (s t : State) : Prop where
  now : t.now = s.now
  pst : t.pst = s.pst
  period : t.pos.period = s.pos.period
  indexRef : t.pos.indexRef = s.pos.indexRef
  counts : t.sdc.counters = s.sdc.counters
  flc : t.flc = { s.flc with engineHead := t.flc.engineHead }
  published : t.hmp.published = s.hmp.published
  gen : t.hmp.gen = s.hmp.gen
  asm : t.blk.asm = s.blk.asm
  buffer : t.blk.buffer = s.blk.buffer
  counters : t.blk.counters = s.blk.counters
  expect : s.rampView = .offRamp → t.sdc.expect = s.sdc.expect

theorem Carries.untouched (h : Carries s t) : Untouched s t :=
  ⟨h.now, h.pst, h.period, h.indexRef, h.counts, h.flc, h.published, h.gen, h.asm, h.buffer, h.counters, h.expect⟩

theorem Untouched.rampView (h : Untouched s t) : t.rampView = s.rampView := by unfold State.rampView; rw [h.flc]

theorem Untouched.trans (h : Untouched s t) (k : Untouched t u) : Untouched s u :=
  ⟨k.now.trans h.now, k.pst.trans h.pst, k.period.trans h.period, k.indexRef.trans h.indexRef, k.counts.trans h.counts,
    by rw [k.flc, h.flc], k.published.trans h.published, k.gen.trans h.gen, k.asm.trans h.asm, k.buffer.trans h.buffer,
    k.counters.trans h.counters, fun e => (k.expect (h.rampView.trans e)).trans (h.expect e)⟩

theorem Motion.untouched (h : Motion s t) : Untouched s t := by
  induction h with
  | refl s => exact (Carries.refl s).untouched
  | trans _ _ h k => exact h.trans k
  | inbox s x => exact (setInbox_carries s x).untouched
  | pos s x h =>
    exact ⟨rfl, rfl, congrArg (fun g => g.2.1) h, congrArg (fun g => g.2.2) h, rfl, rfl, rfl, rfl, rfl, rfl, rfl, fun _ => rfl⟩
  | act s a d _ => exact (setAct_carries s a d).untouched
  | park s h =>
    have h1 := setAct_carries s .parked none
    exact (h1.trans (stopSlots_carries _ (h1.rampView.trans h))).untouched
  | select s n => exact (selectHead_carries s n).untouched
  | window s x _ => exact (setWindow_carries s x).untouched
  | gcu s x => exact (setGcu_carries s x).untouched
  | chm s x _ _ => exact ⟨rfl, rfl, rfl, rfl, rfl, rfl, rfl, rfl, rfl, rfl, rfl, fun _ => rfl⟩
  | raise s k => exact (raise_carries s k).untouched

/-- Motion opens no window and keeps the measured head of one that stays open (R44, R56). -/
theorem Motion.window_head (h : Motion s t) : ∀ v, t.window = some v → ∃ w, s.window = some w ∧ w.head = v.head := by
  induction h with
  | refl s => exact fun v e => ⟨v, e, rfl⟩
  | trans _ _ h k =>
    intro v e
    obtain ⟨w, ew, hw⟩ := k v e
    obtain ⟨x, ex, hx⟩ := h w ew
    exact ⟨x, ex, hx.trans hw⟩
  | inbox s x => exact fun v e => ⟨v, e, rfl⟩
  | pos s x _ => exact fun v e => ⟨v, e, rfl⟩
  | act s a d _ =>
    intro v e
    rw [(setAct_facts s a d).2.2.1] at e
    split at e
    · cases e
    · exact ⟨v, e, rfl⟩
  | park s h =>
    intro v e
    have e : (s.setAct .parked none).window = some v := e
    rw [(setAct_facts s .parked none).2.2.1] at e
    split at e
    · cases e
    · exact ⟨v, e, rfl⟩
  | select s n => exact fun v e => ⟨v, by rw [selectHead_window] at e; exact e, rfl⟩
  | window s x h => exact h
  | gcu s x => exact fun v e => ⟨v, e, rfl⟩
  | chm s x _ _ => exact fun v e => ⟨v, e, rfl⟩
  | raise s k => exact fun v e => ⟨v, e, rfl⟩

end Sys2Proof.Machine
end

section
/-! PROOF. The end of a slot (R1, R7, R8, R12, R51). -/

namespace Sys2Proof.Machine

variable {s t u : State}

/-! ## The records that the Positioner takes -/

/-- The Positioner leaves a record of another head than the anchor unused (R11). -/
theorem servoRecord_of_other {r : SectorRecord} (h : r.head ≠ s.prof.anchor) : s.servoRecord r = s := if_neg h

/-- A record that leaves FOLLOWING as it is touches the Positioner alone (R24, R31, R37). -/
theorem servoRecord_following {r : SectorRecord} (ha : s.pos.act = .following) (ho : s.pos.otRun + 1 < s.prof.otCount)
    (hl : s.pos.lossRun < 3) : ∃ p, s.servoRecord r = s.setPos p := by
  have hrec : ∃ p, s.followingRecord r = s.setPos p := by
    unfold State.followingRecord
    split
    · dsimp only
      split
      · exact ⟨_, if_neg (by show ¬s.prof.otCount ≤ s.pos.otRun + 1; omega)⟩
      · exact ⟨_, rfl⟩
    · exact ⟨_, if_pos (by show s.pos.lossRun + 1 < 4; omega)⟩
    · exact ⟨_, rfl⟩
  unfold State.servoRecord
  split
  · rw [ha]
    dsimp only
    split
    · exact ⟨s.pos, rfl⟩
    · exact hrec
  · exact ⟨s.pos, rfl⟩

/-! ## The counters -/

/-- The record of the slot is reclassified when its window takes it and finds it GOOD and far away (R51). -/
theorem reclassifiedBy_eq (s : State) (w : Window) (mark : Option Mark) :
    s.reclassifiedBy w mark = (decide ((formRecord s mark).head = w.head) && w.reclassifies (formRecord s mark)) := by
  unfold State.reclassifiedBy Window.reclassifies formRecord
  rw [Bool.and_assoc]
  congr 2
  show mark.any _ = mark.any _
  refine congrArg (fun f => mark.any f) (funext fun m => ?_)
  rw [← decide_not]
  exact decide_eq_decide.mpr Nat.not_le.symm

/-- What the window collector has counted on before its own motion (R47, R49, R51). -/
theorem recounted_of_window {w : Window} {r : SectorRecord} (hw : t.window = some w) :
    t.recounted r = if ((w.anchorOnly || w.probing) && (decide (r.head = w.head) && w.reclassifies r)) = true then
      t.countWild r.head else t := by
  unfold State.recounted State.reclassify
  rw [hw]
  dsimp only
  by_cases hc : (w.anchorOnly || w.probing) = true ∧ r.head = w.head
  · rw [if_pos hc]
    simp [hc.1, hc.2]
  · rw [if_neg hc, if_neg]
    simp only [Bool.and_eq_true, decide_eq_true_eq]
    exact fun k => hc ⟨k.1, k.2.1⟩

/-- A window that a record does not concern counts nothing on. -/
theorem recounted_of_other {r : SectorRecord} (h : ∀ w, t.window = some w → r.head ≠ w.head) : t.recounted r = t := by
  cases hw : t.window with
  | none => unfold State.recounted; rw [hw]
  | some w => rw [recounted_of_window hw]; simp [h w hw]

/-- The counters after the record is counted and, if so, counted on as WILD (R7, R12, R51). -/
theorem countedBy_of {mark : Option Mark} {b : Bool}
    (ht : t.sdc.counters = s.sdc.counters.modify s.drivenHead
      fun c => c.count (classify s.prof s.sdc.marker mark) (slipDue s.sdc.expect mark)) :
    (if b = true then t.countWild s.drivenHead else t).sdc.counters = s.countedBy mark b := by
  unfold State.countedBy
  cases b with
  | false => exact ht
  | true =>
    show t.sdc.counters.modify s.drivenHead _ = _
    rw [ht, List.modify_modify_eq]
    rfl

/-! ## The whole slot -/

/-- What a slot's delivery makes of the state behind the count of a reclassified record: motion and the Job Controller's work. -/
theorem deliver_finish (s : State) (r : SectorRecord) (n : Nat) :
    Untouched (((s.endSlot r n).servoRecord r).recounted r) (s.deliver r n).finish ∧
      SlotRuns (((s.endSlot r n).servoRecord r).recounted r) (s.deliver r n).finish := by
  have hm : Motion (((s.endSlot r n).servoRecord r).recounted r) (s.deliver r n) := by
    have h := (windowRecord_motion ((s.endSlot r n).servoRecord r) r).trans (gateRecord_motion _ r n)
    unfold State.deliver
    dsimp only
    split
    · exact h.trans (tell_motion _ _)
    · exact h
  have hw := drain_work (s.deliver r n) Config.drainFuel
  obtain ⟨x, w, e⟩ := transmit_frame ((s.deliver r n).drain Config.drainFuel)
  have hu := hm.untouched.trans hw.carries.untouched
  have hs := hm.slotRuns.trans hw.slotRuns
  unfold State.finish
  rw [e]
  exact ⟨hu.trans ⟨rfl, rfl, rfl, rfl, rfl, rfl, rfl, rfl, rfl, rfl, rfl, fun _ => rfl⟩, hs.trans (.of_same rfl rfl rfl)⟩

/-- The delivery of a slot's record behind the count of a reclassified record, from the state before the slot's end. -/
theorem slotTaken_of (s : State) (mark : Option Mark) (n : Nat) :
    SlotTaken s mark n (((s.atTick n).deliver (formRecord (s.atTick n) mark) n).finish) := by
  let r := formRecord s mark
  let s1 := (s.atTick n).endSlot r n
  let s2 := s1.servoRecord r
  have hm : Motion s1 s2 := servoRecord_motion s1 r
  have hu := hm.untouched
  have hcount : s2.sdc.counters = s.sdc.counters.modify s.drivenHead
      fun c => c.count (classify s.prof s.sdc.marker mark) (slipDue s.sdc.expect mark) := hu.counts
  obtain ⟨hf, hr⟩ := deliver_finish (s.atTick n) r n
  have hf : Untouched (s2.recounted r) _ := hf
  have hr : SlotRuns (s2.recounted r) _ := hr
  -- A reclassified record changes the counters alone.
  have hre : ∃ c, s2.recounted r = s2.setSdc { s2.sdc with counters := c } := by
    unfold State.recounted State.reclassify
    split
    · split
      · split
        · exact ⟨_, rfl⟩
        · exact ⟨s2.sdc.counters, rfl⟩
      · exact ⟨s2.sdc.counters, rfl⟩
    · exact ⟨s2.sdc.counters, rfl⟩
  obtain ⟨c, hc⟩ := hre
  have hflc : (s2.recounted r).flc = { s.flc with engineHead := s2.flc.engineHead } := by rw [hc]; exact hu.flc
  show SlotTaken s mark n ((s.atTick n).deliver r n).finish
  refine ⟨?_, fun ha hv => ?_, fun hw => ?_, fun w hw ho hh => ?_, fun w hw ho ha hot hl => ?_, fun hv => ?_, ?_, ?_, ?_, ?_, ?_⟩
  · rw [hf.now, hc]; exact hu.now
  · obtain ⟨hv2, ha2, h2⟩ := hm.slotRuns hv ha
    have hrun := hr (by rw [hc]; exact hv2) (by rw [hc]; exact ha2)
    rw [hrun.2.2, hc]
    exact h2
  · have hn : ∀ w, s2.window = some w → r.head ≠ w.head := fun v e => by
      obtain ⟨w, ew, -⟩ := hm.window_head v e
      rw [show s1.window = none from hw] at ew
      cases ew
    rw [hf.counts, recounted_of_other hn]
    exact countedBy_of (b := false) hcount
  · rw [hf.counts]
    by_cases hanchor : r.head = s.prof.anchor
    · have hn : ∀ v, s2.window = some v → r.head ≠ v.head := fun v e => by
        obtain ⟨x, ex, hx⟩ := hm.window_head v e
        rw [show s1.window = some w from hw] at ex
        cases ex
        rw [hanchor, ← hx]
        exact hh.symm
      have hb : s.reclassifiedBy w mark = false := by
        rw [reclassifiedBy_eq, show (formRecord s mark).head = s.prof.anchor from hanchor]
        simp [hh.symm]
      rw [recounted_of_other hn, hb, Bool.and_false]
      exact countedBy_of (b := false) hcount
    · have hsame : s2 = s1 := servoRecord_of_other (s := s1) hanchor
      have hw2 : s2.window = some w := by rw [hsame]; exact hw
      rw [recounted_of_window hw2, ← reclassifiedBy_eq, ho, Bool.false_or]
      exact countedBy_of hcount
  · have hw2 : s2.window = some w := by
      obtain ⟨p, hp⟩ := servoRecord_following (s := s1) (r := r) ha hot hl
      show (s1.servoRecord r).window = some w
      rw [hp]
      exact hw
    rw [hf.counts, recounted_of_window hw2, ← reclassifiedBy_eq, ho, Bool.true_or, Bool.true_and]
    exact countedBy_of hcount
  · have hv2 : s2.rampView = .offRamp := hu.rampView.trans hv
    rw [hf.expect (by rw [hc]; exact hv2), hc]
    exact hu.expect hv
  · rw [hf.period, hf.indexRef, hc]; exact ⟨hu.period, hu.indexRef⟩
  · rw [hf.pst, hc]; exact hu.pst
  · rw [hf.flc, hflc]
  · rw [hf.published, hf.gen, hc]; exact ⟨hu.published, hu.gen⟩
  · rw [hf.asm, hf.buffer, hf.counters, hc]; exact ⟨hu.asm, hu.buffer, hu.counters⟩

/-- Settles O12: a slot that ends with a mark or with a miss delivers its record (`slotTaken_of`), at the tick of the mark or of
the slot's end. -/
theorem slotEndIsCountedAndTracked : Obligations.SlotEndIsCountedAndTracked := by
  intro s d sector code e o ticks hd
  refine ⟨⟨_, rfl, ?_⟩, ⟨_, rfl, ?_⟩⟩
  · have h := slotTaken_of s (markOf s.prof.sectors sector code e o) (s.pos.indexRef.getD s.now + ticks)
    unfold State.endWithMark
    rw [hd]
    exact h
  · have h := slotTaken_of s none d
    unfold State.endWithMiss
    rw [hd]
    exact h

end Sys2Proof.Machine
end

section
/-! PROOF. Follow runs and probe visits take turns (R6, R46, R47, R50, R54). -/

namespace Sys2Proof.Machine

variable {s v : State} {w : Window} {r : SectorRecord}

/-! ## The miss of a slot, block by block -/

/-- The slot of an unarmed marker that ends with a miss is a MISS (R4). -/
theorem formRecord_miss (hm : s.sdc.marker = false) : (formRecord s none).cls = .miss := by
  show classify s.prof s.sdc.marker none = .miss
  rw [hm]
  rfl

/-- An idle gate unit leaves a record unused (R78). -/
theorem gateRecord_of_idle (h : s.gcu.state = .idle) (n : Nat) : s.gateRecord r n = s :=
  if_neg fun k => by have e := k.1; rw [h] at e; cases e

/-- The first miss of a loss run keeps FOLLOWING and touches the Positioner alone (R24, R37). -/
theorem servoRecord_firstMiss (ha : s.pos.act = .following) (hr : r.cls = .miss) (hl : s.pos.lossRun = 0) :
    ∃ p : Pos, p.act = .following ∧ s.servoRecord r = s.setPos p := by
  have hloss : s.followingRecord r = s.setPos { s.pos with otRun := 0, lossRun := s.pos.lossRun + 1 } := by
    unfold State.followingRecord
    rw [hr]
    exact if_pos (by show s.pos.lossRun + 1 < 4; omega)
  unfold State.servoRecord
  split
  · rw [ha]
    dsimp only
    rw [if_neg (by rw [hr]; exact SectorClass.noConfusion), hloss]
    exact ⟨{ s.pos with otRun := 0, lossRun := s.pos.lossRun + 1 }, ha, rfl⟩
  · exact ⟨s.pos, ha, rfl⟩

/-- While SELECT is engine-owned the engine selection is driven (R164). -/
theorem drivenHead_of_engineOwned (h : s.flc.selectBench = false) : s.drivenHead = s.flc.engineHead :=
  if_neg (by rw [h]; exact Bool.false_ne_true)

/-- Asking for another head while SELECT is engine-owned drives it and arms the recovery marker outside PARKED (R6, R164). -/
theorem selectHead_other {h : Nat} (hb : s.flc.selectBench = false) (hd : s.drivenHead ≠ h) (ha : s.pos.act ≠ .parked) :
    s.selectHead h = (s.setFlc { s.flc with engineHead := h }).setSdc { s.sdc with marker := true } := by
  have hdriven : (s.setFlc { s.flc with engineHead := h }).drivenHead = h :=
    drivenHead_of_engineOwned (by exact hb)
  unfold State.selectHead State.takeHeadChange
  rw [if_neg (by rw [hdriven]; exact fun e => hd e.symm)]
  have hmark : (s.pos.act != .parked) = true := by simpa using ha
  show State.setSdc _ { s.sdc with marker := s.pos.act != .parked } = _
  rw [hmark]

/-- In a follow run a record is one more of the run (R46). -/
theorem windowRecord_of_follow (hw : s.window = some w) (ho : w.anchorOnly = false) (hp : w.probing = false) :
    s.windowRecord r = s.followRecord w := by
  unfold State.windowRecord
  rw [hw]
  dsimp only
  rw [if_neg (by rw [ho]; exact Bool.false_ne_true), if_neg (by rw [hp]; exact Bool.false_ne_true)]

/-- In a probe visit a record is one more of the visit (R47). -/
theorem windowRecord_of_visit (hw : s.window = some w) (ho : w.anchorOnly = false) (hp : w.probing = true) :
    s.windowRecord r = s.visitRecord w r := by
  unfold State.windowRecord
  rw [hw]
  dsimp only
  rw [if_neg (by rw [ho]; exact Bool.false_ne_true), if_pos hp]

/-- A MISS of the measured head in PROBE_VISIT adds one to the miss count, and a window within its bounds goes on (R50, R54). -/
theorem visitRecord_miss (hh : r.head = w.head) (hr : r.cls = .miss) (hu : w.used < w.size)
    (hb : w.miss + 1 + w.wild ≤ w.size / 4) (hm : w.miss < 65535) :
    s.visitRecord w r =
      (s.setWindow (some { w with pos := w.pos + 1, miss := w.miss + 1 })).visitStep
        { w with pos := w.pos + 1, miss := w.miss + 1 } := by
  have hbump : bump w.miss = w.miss + 1 := Nat.min_eq_right (by omega)
  have henter : ({ w with pos := w.pos + 1 } : Window).enter r = { w with pos := w.pos + 1, miss := w.miss + 1 } := by
    unfold Window.enter
    rw [hr]
    dsimp only
    rw [hbump]
  have hopen : ({ w with pos := w.pos + 1, miss := w.miss + 1 } : Window).entryEnding = none := by
    unfold Window.entryEnding
    rw [if_neg (Nat.not_le.mpr hu), if_neg (Nat.not_lt.mpr hb)]
  have hkeep : ({ w with pos := w.pos + 1 } : Window).reclassifies r = false := by
    unfold Window.reclassifies
    rw [hr]
    rfl
  have hentered : s.enterRecord { w with pos := w.pos + 1 } r =
      (s.setWindow (some { w with pos := w.pos + 1, miss := w.miss + 1 }), true) := by
    unfold State.enterRecord
    rw [hkeep, henter, if_neg Bool.false_ne_true]
    dsimp only
    rw [if_neg (by rw [hr]; exact SectorClass.noConfusion), hopen]
  unfold State.visitRecord
  dsimp only
  rw [if_pos hh, hentered, henter]

/-! ## The turn of the window -/

/-- The record before the window's turn: the slot counted and timed by the decoder, and the Positioner's share `p`. -/
def State.beforeTurn (s : State) (d : Nat) (p : Pos) : State :=
  ((s.atTick d).endSlot (formRecord (s.atTick d) none) d).setPos p

/-- With the gate unit idle and no switch point awaited, a slot that ends with a miss is the window's turn behind the
Positioner's share (R11). -/
theorem slotEndMiss_of_turn {d : Nat} {p : Pos} (hd : s.sdc.slotDue = some d) (hs : s.awaitsSwitch = false)
    (hservo : ((s.atTick d).endSlot (formRecord (s.atTick d) none) d).servoRecord (formRecord (s.atTick d) none) =
      s.beforeTurn d p)
    (hturn : (s.beforeTurn d p).windowRecord (formRecord (s.atTick d) none) = v) (hg : v.gcu.state = .idle)
    (hi : v.inbox = []) : ∃ b, exec .slotEndMiss s = .next (v.setBlk b) := by
  have hdeliver : s.endWithMiss = v := by
    unfold State.endWithMiss
    rw [hd]
    unfold State.deliver
    dsimp only
    rw [if_neg (fun k => by have e : s.awaitsSwitch = true := k.1; rw [hs] at e; cases e), hservo, hturn]
    exact gateRecord_of_idle hg d
  obtain ⟨x, y, e⟩ := transmit_frame v
  refine ⟨{ v.blk with sending := x, waiting := y }, ?_⟩
  show Host.Outcome.next s.endWithMiss.finish = _
  rw [hdeliver, finish_of_nil hi, e]

/-- The window of a turn goes on to the other kind of run on head `h`, position 0, the marker armed by the change of head
(R6, R46, R47). -/
def State.turnedTo (s : State) (h : Nat) (w : Window) : State :=
  ((s.setFlc { s.flc with engineHead := h }).setSdc { s.sdc with marker := true }).setWindow (some w)

/-- Before its F-th record a follow run goes on (R46). -/
theorem followRecord_goesOn (hp : w.pos + 1 < w.follow) : s.followRecord w = s.setWindow (some { w with pos := w.pos + 1 }) :=
  if_pos hp

/-- The F-th record of a follow run begins a probe visit (R46). -/
theorem followRecord_turns (ha : s.pos.act = .following) (hb : s.flc.selectBench = false) (hd : s.drivenHead ≠ w.head)
    (hp : w.follow ≤ w.pos + 1) : s.followRecord w = s.turnedTo w.head { w with probing := true, pos := 0 } := by
  unfold State.followRecord
  rw [if_neg (Nat.not_lt.mpr hp), if_pos ha, selectHead_other hb hd (by rw [ha]; exact ActState.noConfusion)]
  rfl

/-- Before its V-th record a probe visit goes on (R47). -/
theorem visitStep_goesOn (hp : w.pos < w.visit) : s.visitStep w = s.setWindow (some w) := if_pos hp

/-- The V-th record of a probe visit begins a follow run (R47). -/
theorem visitStep_turns (ha : s.pos.act ≠ .parked) (hb : s.flc.selectBench = false) (hd : s.drivenHead ≠ s.prof.anchor)
    (hp : w.visit ≤ w.pos) : s.visitStep w = s.turnedTo s.prof.anchor { w with probing := false, pos := 0 } := by
  unfold State.visitStep
  rw [if_neg (Nat.not_lt.mpr hp), selectHead_other hb hd ha]
  rfl

/-- Settles O32: each turn of the window is one case of its schedule, for the follow run `followRecord` and for the probe visit
`visitRecord_miss` and `visitStep`. -/
theorem followRunsAndProbeVisitsAlternate : Obligations.FollowRunsAndProbeVisitsAlternate := by
  intro s w d hd hw hord hne ha hl hm hb hi hs hg
  have hmiss : (formRecord (s.atTick d) none).cls = .miss := formRecord_miss (s := s.atTick d) hm
  refine ⟨fun hprobing hdriven => ?_, fun hprobing hdriven hused hbound hcount => ?_⟩
  · -- FOLLOW_RUN: the anchor's MISS is the first of a loss run, which FOLLOWING outlasts.
    obtain ⟨p, hp, hservo⟩ := servoRecord_firstMiss (s := (s.atTick d).endSlot (formRecord (s.atTick d) none) d) ha hmiss hl
    have hturn : (s.beforeTurn d p).windowRecord (formRecord (s.atTick d) none) = (s.beforeTurn d p).followRecord w :=
      windowRecord_of_follow (by exact hw) hord hprobing
    by_cases hpos : w.pos + 1 < w.follow
    · obtain ⟨b, e⟩ := slotEndMiss_of_turn hd hs hservo (hturn.trans (followRecord_goesOn hpos)) hg hi
      exact ⟨_, e, rfl, hp, fun _ => ⟨rfl, rfl, rfl⟩, fun k => absurd hpos (Nat.not_lt.mpr k)⟩
    · have hdriven : (s.beforeTurn d p).drivenHead ≠ w.head := by
        rw [show (s.beforeTurn d p).drivenHead = s.prof.anchor from hdriven]
        exact hne.symm
      rw [followRecord_turns (s := s.beforeTurn d p) hp hb hdriven (Nat.not_lt.mp hpos)] at hturn
      obtain ⟨b, e⟩ := slotEndMiss_of_turn hd hs hservo hturn hg hi
      exact ⟨_, e, rfl, hp, fun k => absurd k hpos, fun _ => ⟨rfl, drivenHead_of_engineOwned hb, rfl⟩⟩
  · -- PROBE_VISIT: the MISS is not the anchor's, so the Positioner leaves it unused.
    have hhead : (formRecord (s.atTick d) none).head = w.head := hdriven
    have hservo : ((s.atTick d).endSlot (formRecord (s.atTick d) none) d).servoRecord (formRecord (s.atTick d) none) =
        s.beforeTurn d s.pos :=
      servoRecord_of_other (by rw [hhead]; exact hne)
    have hturn : (s.beforeTurn d s.pos).windowRecord (formRecord (s.atTick d) none) =
        ((s.beforeTurn d s.pos).setWindow (some { w with pos := w.pos + 1, miss := w.miss + 1 })).visitStep
          { w with pos := w.pos + 1, miss := w.miss + 1 } :=
      (windowRecord_of_visit (by exact hw) hord hprobing).trans (visitRecord_miss hhead hmiss hused hbound hcount)
    by_cases hpos : w.pos + 1 < w.visit
    · obtain ⟨b, e⟩ := slotEndMiss_of_turn hd hs hservo (hturn.trans (visitStep_goesOn hpos)) hg hi
      exact ⟨_, e, rfl, rfl, fun _ => ⟨rfl, rfl, rfl⟩, fun k => absurd hpos (Nat.not_lt.mpr k)⟩
    · have hparked : s.pos.act ≠ .parked := by rw [ha]; exact ActState.noConfusion
      have hdriven : s.drivenHead ≠ s.prof.anchor := by rw [hdriven]; exact hne
      rw [visitStep_turns (s := (s.beforeTurn d s.pos).setWindow _) hparked hb hdriven (Nat.not_lt.mp hpos)] at hturn
      obtain ⟨b, e⟩ := slotEndMiss_of_turn hd hs hservo hturn hg hi
      exact ⟨_, e, rfl, rfl, fun k => absurd k hpos,
        fun _ => ⟨rfl, drivenHead_of_engineOwned hb, rfl⟩⟩

end Sys2Proof.Machine
end

section
/-! PROOF. Moves, departures and unloads with no job RUNNING, each as one equation (R25, R31, R33, R38, R39). -/

namespace Sys2Proof.Machine

variable (s : State)

/-! ## What handing on reports leaves -/

@[simp] theorem State.tells_now (ms : List JctMsg) : (s.tells ms).now = s.now := rfl
@[simp] theorem State.tells_window (ms : List JctMsg) : (s.tells ms).window = s.window := rfl
@[simp] theorem State.tells_gcu (ms : List JctMsg) : (s.tells ms).gcu = s.gcu := rfl
@[simp] theorem State.tells_jct (ms : List JctMsg) : (s.tells ms).jct = s.jct := rfl
@[simp] theorem State.tells_hmp (ms : List JctMsg) : (s.tells ms).hmp = s.hmp := rfl
@[simp] theorem State.tells_chm (ms : List JctMsg) : (s.tells ms).chm = s.chm := rfl
@[simp] theorem State.tells_rtm (ms : List JctMsg) : (s.tells ms).rtm = s.rtm := rfl
@[simp] theorem State.tells_flc (ms : List JctMsg) : (s.tells ms).flc = s.flc := rfl
@[simp] theorem State.tells_pst (ms : List JctMsg) : (s.tells ms).pst = s.pst := rfl
@[simp] theorem State.tells_free (ms : List JctMsg) : (s.tells ms).free = s.free := rfl
@[simp] theorem State.tells_pending (ms : List JctMsg) : (s.tells ms).pending = s.pending := rfl
@[simp] theorem State.tells_prof (ms : List JctMsg) : (s.tells ms).prof = s.prof := rfl
@[simp] theorem State.tells_rampView (ms : List JctMsg) : (s.tells ms).rampView = s.rampView := rfl
@[simp] theorem State.tells_running (ms : List JctMsg) : (s.tells ms).running = s.running := rfl

/-! ## Reports that no one takes -/

/-- Reports that change nothing in `s` (log 15): those of a RUNNING job while none runs, and without jobs any but a rest
test. -/
def State.Unheard (s : State) (ms : List JctMsg) : Prop :=
  (s.running = none ∧ ForJob ms) ∨ (s.jct.table = [] ∧ ∀ m ∈ ms, m ≠ .restTest)

/-- No report of a RUNNING job is a rest test. -/
theorem ForJob.not_restTest {ms : List JctMsg} (h : ForJob ms) : ∀ m ∈ ms, m ≠ .restTest := by
  rintro m hm rfl
  cases List.all_eq_true.mp h _ hm

/-- Without jobs one more report but a rest test is not heard either. -/
theorem unheard_append {ms ns : List JctMsg} (ht : s.jct.table = []) (hm : ForJob ms) (hn : ∀ m ∈ ns, m ≠ .restTest) :
    s.Unheard (ms ++ ns) := .inr ⟨ht, fun m h => (List.mem_append.mp h).elim (hm.not_restTest m) (hn m)⟩

/-- An arrival whose reports no one hears ends with the transmitter's start. -/
theorem finish_unheard {ms : List JctMsg} (hi : s.inbox = []) (h : s.Unheard ms) : (s.tells ms).finish = s.transmit := by
  rcases h with ⟨hr, hm⟩ | ⟨ht, hm⟩
  · exact finish_tells s hr hi hm
  · rw [finish_noJobs (s := s.tells ms) ht (by rw [State.tells_inbox, hi]; exact hm)]
    congr 1
    show s.setInbox [] = s
    rw [← hi]
    rfl

/-- An arrival whose reports no one hears changes nothing more but the record in transmission and those waiting. -/
theorem finish_unheard_frame {ms : List JctMsg} (hi : s.inbox = []) (h : s.Unheard ms) :
    ∃ x w, (s.tells ms).finish = s.setBlk { s.blk with sending := x, waiting := w } := by
  rw [finish_unheard s hi h]
  exact transmit_frame s

/-! ## Moves that end -/

/-- The Positioner once a held seek, if any, has been discarded (R25, R33). -/
def Pos.heldDone (p : Pos) (c : StopCause) : Pos :=
  { p with
    held := none
    lastBench := benchOutcome p.lastBench (p.held.map fun h => { kind := .seek, owner := h.owner }) (.interrupted c) }

theorem Pos.heldDone_of_none {p : Pos} (h : p.held = none) (c : StopCause) : p.heldDone c = p := by
  cases p
  subst h
  rfl

/-- A move's outcome reaches the bench or the Job Controller (R25). -/
theorem reportMove_eq (m : Move) (o : MoveOutcome) : ∃ ms, ForJob ms ∧
    s.reportMove m o = (s.setPos { s.pos with lastBench := benchOutcome s.pos.lastBench (some m) o }).tells ms := by
  unfold State.reportMove
  split
  next h => exact ⟨[], .nil, by rw [benchOutcome_of_bench h, State.tells_nil]⟩
  next n h => exact ⟨[.moveEnded m.kind o n], .moveEnded _ _ _, by rw [benchOutcome_of_not_bench (by simp [h])]; rfl⟩
  next h => exact ⟨[], .nil, by rw [benchOutcome_of_not_bench (by simp [h]), State.tells_nil]; rfl⟩

theorem discardHeld_of_none {c : StopCause} (h : s.pos.held = none) : s.discardHeld c = s := by
  unfold State.discardHeld
  rw [h]

/-- All that discarding a held seek does (R25, R33). -/
theorem discardHeld_eq (c : StopCause) : ∃ ms, ForJob ms ∧ s.discardHeld c = (s.setPos (s.pos.heldDone c)).tells ms := by
  cases h : s.pos.held with
  | none => exact ⟨[], .nil, by rw [discardHeld_of_none s h, Pos.heldDone_of_none h, State.tells_nil]; rfl⟩
  | some x =>
    obtain ⟨ms, hm, e⟩ := reportMove_eq (s.setPos { s.pos with held := none }) { kind := .seek, owner := x.owner } (.interrupted c)
    refine ⟨ms, hm, ?_⟩
    unfold State.discardHeld Pos.heldDone
    rw [h]
    exact e

/-- The Positioner once the spindle move has ended with an outcome (R25). -/
def Pos.spinDone (p : Pos) (o : MoveOutcome) : Pos :=
  { p with spinMove := none, lastBench := benchOutcome p.lastBench p.spinMove o }

theorem Pos.spinDone_of_none {p : Pos} (h : p.spinMove = none) (o : MoveOutcome) : p.spinDone o = p := by
  cases p
  subst h
  rfl

/-- All that the end of the spindle move does (R25). -/
theorem endSpinMove_eq (o : MoveOutcome) : ∃ ms, ForJob ms ∧ s.endSpinMove o = (s.setPos (s.pos.spinDone o)).tells ms := by
  unfold State.endSpinMove
  split
  next m h =>
    obtain ⟨ms, hm, e⟩ := reportMove_eq (s.setPos { s.pos with spinMove := none }) m o
    refine ⟨ms, hm, ?_⟩
    unfold Pos.spinDone
    rw [e, h]
    rfl
  next h => exact ⟨[], .nil, by rw [State.tells_nil, Pos.spinDone_of_none h]; rfl⟩

/-! ## Departures from FOLLOWING -/

/-- The state with Positioner `p`, window `w`, engine selection `n` and recovery marker `m`. -/
def State.moved (s : State) (p : Pos) (w : Option Window) (n : Nat) (m : Bool) : State :=
  (((s.setPos p).setWindow w).setFlc { s.flc with engineHead := n }).setSdc { s.sdc with marker := m }

@[simp] theorem State.moved_now (p : Pos) (w : Option Window) (n : Nat) (m : Bool) : (s.moved p w n m).now = s.now := rfl
@[simp] theorem State.moved_gcu (p : Pos) (w : Option Window) (n : Nat) (m : Bool) : (s.moved p w n m).gcu = s.gcu := rfl
@[simp] theorem State.moved_jct (p : Pos) (w : Option Window) (n : Nat) (m : Bool) : (s.moved p w n m).jct = s.jct := rfl
@[simp] theorem State.moved_hmp (p : Pos) (w : Option Window) (n : Nat) (m : Bool) : (s.moved p w n m).hmp = s.hmp := rfl
@[simp] theorem State.moved_chm (p : Pos) (w : Option Window) (n : Nat) (m : Bool) : (s.moved p w n m).chm = s.chm := rfl
@[simp] theorem State.moved_rtm (p : Pos) (w : Option Window) (n : Nat) (m : Bool) : (s.moved p w n m).rtm = s.rtm := rfl
@[simp] theorem State.moved_pst (p : Pos) (w : Option Window) (n : Nat) (m : Bool) : (s.moved p w n m).pst = s.pst := rfl
@[simp] theorem State.moved_blk (p : Pos) (w : Option Window) (n : Nat) (m : Bool) : (s.moved p w n m).blk = s.blk := rfl
@[simp] theorem State.moved_free (p : Pos) (w : Option Window) (n : Nat) (m : Bool) : (s.moved p w n m).free = s.free := rfl
@[simp] theorem State.moved_inbox (p : Pos) (w : Option Window) (n : Nat) (m : Bool) : (s.moved p w n m).inbox = s.inbox := rfl
@[simp] theorem State.moved_pending (p : Pos) (w : Option Window) (n : Nat) (m : Bool) : (s.moved p w n m).pending = s.pending := rfl
@[simp] theorem State.moved_pos (p : Pos) (w : Option Window) (n : Nat) (m : Bool) : (s.moved p w n m).pos = p := rfl
@[simp] theorem State.moved_window (p : Pos) (w : Option Window) (n : Nat) (m : Bool) : (s.moved p w n m).window = w := rfl
@[simp] theorem State.moved_flc (p : Pos) (w : Option Window) (n : Nat) (m : Bool) :
    (s.moved p w n m).flc = { s.flc with engineHead := n } := rfl
@[simp] theorem State.moved_sdc (p : Pos) (w : Option Window) (n : Nat) (m : Bool) :
    (s.moved p w n m).sdc = { s.sdc with marker := m } := rfl
@[simp] theorem State.moved_prof (p : Pos) (w : Option Window) (n : Nat) (m : Bool) : (s.moved p w n m).prof = s.prof := rfl
@[simp] theorem State.moved_rampView (p : Pos) (w : Option Window) (n : Nat) (m : Bool) :
    (s.moved p w n m).rampView = s.rampView := rfl
@[simp] theorem State.tells_moved (ms : List JctMsg) (p : Pos) (w : Option Window) (n : Nat) (m : Bool) :
    (s.tells ms).moved p w n m = (s.moved p w n m).tells ms := rfl

/-- What a motion with no job RUNNING makes of `s`: the Positioner is `p`, the window `w`, and reports of a RUNNING job are handed
on. A window that closes may have the anchor selected; with the window as it was, heads and marker are too. -/
def Moved (s : State) (p : Pos) (w : Option Window) (t : State) : Prop :=
  ∃ n m ms, ForJob ms ∧ (w = s.window → n = s.flc.engineHead ∧ m = s.sdc.marker) ∧ t = (s.moved p w n m).tells ms

/-- A motion that changes the Positioner alone. -/
theorem Moved.pos {ms : List JctMsg} (p : Pos) (h : ForJob ms) : Moved s p s.window ((s.setPos p).tells ms) :=
  ⟨s.flc.engineHead, s.sdc.marker, ms, h, fun _ => ⟨rfl, rfl⟩, rfl⟩

variable {s} in
/-- One motion after another: the window of the first stays, or there was none to close. -/
theorem Moved.trans {t u : State} {p q : Pos} {w x : Option Window} (h : Moved s p w t) (k : Moved t q x u)
    (hx : x = s.window → w = x) : Moved s q x u := by
  obtain ⟨n, m, ms, hms, hk, rfl⟩ := h
  obtain ⟨n', m', ns, hns, hk', rfl⟩ := k
  refine ⟨n', m', ms ++ ns, hms.append hns, fun e => ?_, by rw [← State.tells_tells]; rfl⟩
  obtain ⟨rfl, rfl⟩ := hk' (hx e).symm
  exact hk ((hx e).trans e)

/-- A further change of the Positioner. -/
theorem Moved.setPos {s t : State} {p : Pos} {w : Option Window} (h : Moved s p w t) (q : Pos) : Moved s q w (t.setPos q) := by
  obtain ⟨n, m, ms, hms, hk, rfl⟩ := h
  exact ⟨n, m, ms, hms, hk, rfl⟩

/-- A further report to a RUNNING job. -/
theorem Moved.tells {s t : State} {p : Pos} {w : Option Window} (h : Moved s p w t) {ns : List JctMsg} (hn : ForJob ns) :
    Moved s p w (t.tells ns) := by
  obtain ⟨n, m, ms, hms, hk, rfl⟩ := h
  exact ⟨n, m, ms ++ ns, hms.append hn, hk, by rw [State.tells_tells]⟩

theorem Moved.reads {s t : State} {p : Pos} {w : Option Window} (h : Moved s p w t) :
    t.pos = p ∧ t.window = w ∧ t.jct = s.jct ∧ t.now = s.now ∧ t.pst = s.pst ∧ t.chm = s.chm ∧ t.rampView = s.rampView := by
  obtain ⟨n, m, ms, -, -, rfl⟩ := h
  exact ⟨rfl, rfl, rfl, rfl, rfl, rfl, rfl⟩

theorem Moved.blk {s t : State} {p : Pos} {w : Option Window} (h : Moved s p w t) : t.blk = s.blk := by
  obtain ⟨n, m, ms, -, -, rfl⟩ := h
  rfl

theorem discardHeld_moved (c : StopCause) : Moved s (s.pos.heldDone c) s.window (s.discardHeld c) := by
  obtain ⟨ms, hm, e⟩ := discardHeld_eq s c
  rw [e]
  exact .pos s _ hm

theorem endActMove_moved (o : MoveOutcome) : Moved s (s.pos.moveDone o) s.window (s.endActMove o) := by
  obtain ⟨ms, hm, e⟩ := endActMove_eq s o
  rw [e]
  exact .pos s _ hm

/-- A window's end (R57, R58). -/
theorem closeWindow_moved (hw : s.window.isSome = true) (w : Window) (e : WindowEnding) :
    Moved s s.pos none (s.closeWindow w e) := by
  have hsel : ∀ n, ∃ m, s.selectHead n = (s.setFlc { s.flc with engineHead := n }).setSdc { s.sdc with marker := m } :=
    fun n => takeHeadChange_eq _ _
  have hone : ForJob [.windowEnded (w.report e) w.attempt] := rfl
  have hno : none = s.window → ∀ n m, n = s.flc.engineHead ∧ m = s.sdc.marker := fun k => by rw [← k] at hw; cases hw
  unfold State.closeWindow
  obtain ⟨m, hm⟩ := hsel s.prof.anchor
  cases w.probing <;> cases e.reported
  · exact ⟨s.flc.engineHead, s.sdc.marker, [], .nil, fun _ => ⟨rfl, rfl⟩, by rw [State.tells_nil]; rfl⟩
  · exact ⟨s.flc.engineHead, s.sdc.marker, _, hone, fun _ => ⟨rfl, rfl⟩, rfl⟩
  · exact ⟨s.prof.anchor, m, [], .nil, fun k => hno k _ _, by rw [State.tells_nil]; simp only [if_true, hm]; rfl⟩
  · exact ⟨s.prof.anchor, m, _, hone, fun k => hno k _ _, by simp only [if_true, hm]; rfl⟩

theorem endWindow_moved (e : WindowEnding) : Moved s s.pos none (s.endWindow e) := by
  unfold State.endWindow
  split
  next w hw => exact closeWindow_moved s (by rw [hw]; rfl) w e
  next hw => exact ⟨s.flc.engineHead, s.sdc.marker, [], .nil, fun _ => ⟨rfl, rfl⟩, by rw [State.tells_nil, ← hw]; rfl⟩

/-- The Positioner in actuator state `a` with deadline `d`, its run counts 0 (R24). -/
def Pos.arrived (p : Pos) (a : ActState) (d : Option ActDeadline) : Pos :=
  { p with act := a, deadline := d, acqRun := 0, settleRun := 0, otRun := 0, lossRun := 0 }

/-- The window after the actuator comes to `a`: leaving FOLLOWING closes it (R56). -/
def State.windowAt (s : State) (a : ActState) : Option Window :=
  if s.pos.act = .following ∧ a ≠ .following then none else s.window

@[simp] theorem State.tells_windowAt (ms : List JctMsg) (a : ActState) : (s.tells ms).windowAt a = s.windowAt a := rfl

/-- A change of actuator state off the ramp with no job RUNNING (R23, R24, R31). -/
theorem setAct_moved (hr : s.running = none) (hp : s.pos.act ≠ .parked) (a : ActState) (d : Option ActDeadline) :
    Moved s (s.pos.arrived a d) (s.windowAt a) (s.setAct a d) := by
  unfold State.setAct State.windowAt
  dsimp only
  rw [if_neg (fun k : _ ∧ _ => hp k.1)]
  split
  · have hph : (s.setPos (s.pos.arrived a d)).runningPhase = none := by
      show s.running.bind _ = none
      rw [hr]
      rfl
    have hd : (s.setPos (s.pos.arrived a d)).departFollowing a =
        (s.setPos (s.pos.arrived a d)).endWindow (departureEnding a) := by
      unfold State.departFollowing
      dsimp only
      rw [hph]
      exact if_neg (by decide)
    have hm := endWindow_moved (s.setPos (s.pos.arrived a d)) (departureEnding a)
    rw [← hd] at hm
    exact ((Moved.pos s (ms := []) (s.pos.arrived a d) .nil).trans (by rw [State.tells_nil]; exact hm)
      (fun e => e.symm)).tells .posChanged
  · exact Moved.pos s (s.pos.arrived a d) .posChanged

/-! ## Unloads -/

/-- The Positioner of an unload with cause `c` begun, its deadline at tick `due` (R38). -/
def Pos.unloadBegunBy (p : Pos) (c : UnloadCause) (due : Nat) : Pos :=
  { ((p.heldDone (.unload c)).moveDone (.interrupted (.unload c))).arrived .unloading (some { kind := .unload, due := due }) with
    actMove := some { kind := .unload, owner := if c = .bench then .bench else .nobody }, unloadCause := c }

/-- The Bench Link once an unload has begun: MOTION is pending but for the cause BENCH (R38). -/
def Blk.unloadBegunBy (b : Blk) (c : UnloadCause) : Blk := if c = .bench then b else b.raise .motion

theorem raise_unless_bench (c : UnloadCause) :
    (if c = .bench then s else s.raise .motion) = s.setBlk (s.blk.unloadBegunBy c) := by
  unfold Blk.unloadBegunBy
  split <;> rfl

/-- An unload of loaded heads, whole: UNLOADING, and at once PARKED on the ramp (R38, R39). -/
theorem beginUnload_moved (hr : s.running = none) (hl : s.pos.act.isLoaded = true) (c : UnloadCause) :
    ∃ t, Moved s (s.pos.unloadBegunBy c (s.now + s.prof.unloadMs * 200000)) (s.windowAt .unloading) t ∧
      s.beginUnload c =
        if s.rampView = .onRamp then (t.setBlk (s.blk.unloadBegunBy c)).arrivePark false
        else t.setBlk (s.blk.unloadBegunBy c) := by
  have hp : s.pos.act ≠ .parked := fun h => by rw [h] at hl; cases hl
  unfold State.beginUnload
  rw [if_pos hl]
  extract_lets s1 s2 p s3 s4
  have h1 : Moved s ((s.pos.heldDone (.unload c)).moveDone (.interrupted (.unload c))) s.window s1 := by
    have h := discardHeld_moved s (.unload c)
    have k := endActMove_moved (s.discardHeld (.unload c)) (.interrupted (.unload c))
    rw [h.reads.1, h.reads.2.1] at k
    exact h.trans k fun _ => rfl
  obtain ⟨hpos, hwin, hjct, hnow, hpst, -⟩ := h1.reads
  have h2 : Moved s (s1.pos.arrived .unloading (s1.deadlineIn .unload s1.prof.unloadMs)) (s.windowAt .unloading) s2 := by
    have k := setAct_moved s1 (by unfold State.running State.active; rw [hjct]; exact hr) (by rw [hpos]; exact hp) .unloading
      (s1.deadlineIn .unload s1.prof.unloadMs)
    have hw : s1.windowAt .unloading = s.windowAt .unloading := by unfold State.windowAt; rw [hpos, hwin]; rfl
    rw [hw] at k
    exact h1.trans k fun e => e.symm
  have h3 : Moved s (s.pos.unloadBegunBy c (s.now + s.prof.unloadMs * 200000)) (s.windowAt .unloading) s3 := by
    have e : s3 = s2.setPos (s.pos.unloadBegunBy c (s.now + s.prof.unloadMs * 200000)) := by
      show s2.setPos { s2.pos with actMove := _, unloadCause := c } = _
      rw [h2.reads.1, hpos]
      unfold State.deadlineIn State.inMs State.prof
      rw [hnow, hpst]
      rfl
    rw [e]
    exact h2.setPos _
  have hb : s3.blk = s.blk := h3.blk
  have hv : s3.rampView = s.rampView := h3.reads.2.2.2.2.2.2
  have h4 : s4 = s3.setBlk (s.blk.unloadBegunBy c) := by rw [← hb]; exact raise_unless_bench s3 c
  clear_value s3 s4
  subst h4
  exact ⟨s3, h3, by rw [← hv]; rfl⟩

/-! ## The end of an arrival that unloads -/

/-- An arrival that begins an unload off the ramp, whole (R38): the reports handed over before and after it are not heard. -/
theorem beginUnload_finish {c : UnloadCause} {ns ks : List JctMsg} (hr : s.running = none) (hi : s.inbox = [])
    (hl : s.pos.act.isLoaded = true) (hv : s.rampView = .offRamp) (hu : ∀ ms, ForJob ms → s.Unheard (ns ++ ms ++ ks)) :
    ∃ n m b, (s.windowAt .unloading = s.window → n = s.flc.engineHead ∧ m = s.sdc.marker) ∧
      b.events = (s.blk.unloadBegunBy c).events ∧
      (((s.tells ns).beginUnload c).tells ks).finish =
        (s.moved (s.pos.unloadBegunBy c (s.now + s.prof.unloadMs * 200000)) (s.windowAt .unloading) n m).setBlk b := by
  obtain ⟨t, ⟨n, m, ms, hm, hk, rfl⟩, e⟩ := beginUnload_moved (s.tells ns) hr hl c
  generalize hp : s.pos.unloadBegunBy c (s.now + s.prof.unloadMs * 200000) = p
  simp only [State.tells_pos, State.tells_now, State.tells_prof, State.tells_windowAt, State.tells_blk, State.tells_moved,
    State.tells_tells, State.tells_setBlk, State.tells_rampView, hv, hp, reduceCtorEq, if_false] at e
  obtain ⟨x, w, hx⟩ := finish_unheard_frame ((s.moved p (s.windowAt .unloading) n m).setBlk (s.blk.unloadBegunBy c)) hi
    (hu ms hm)
  exact ⟨n, m, { s.blk.unloadBegunBy c with sending := x, waiting := w }, hk, rfl, by
    rw [e, State.tells_tells, hx, State.setBlk_twice]; rfl⟩

/-- An arrival that begins an unload on the ramp, whole: PARKED at once (R38, R39). -/
theorem beginUnload_finish_onRamp {c : UnloadCause} {ns ks : List JctMsg} (hr : s.running = none) (hi : s.inbox = [])
    (hl : s.pos.act.isLoaded = true) (hv : s.rampView = .onRamp) (hu : ∀ ms, ForJob ms → s.Unheard (ns ++ ms ++ ks)) :
    ∃ n m b, (s.windowAt .unloading = s.window → n = s.flc.engineHead) ∧ b.events = (s.blk.unloadBegunBy c).events ∧
      (((s.tells ns).beginUnload c).tells ks).finish =
        ((s.moved ((s.pos.unloadBegunBy c (s.now + s.prof.unloadMs * 200000)).parked false s.now) (s.windowAt .unloading) n
          m).setSdc s.sdc.stopped).setBlk b := by
  obtain ⟨t, ⟨n, m, ms, hm, hk, rfl⟩, e⟩ := beginUnload_moved (s.tells ns) hr hl c
  have ha : (s.pos.unloadBegunBy c (s.now + s.prof.unloadMs * 200000)).act = .unloading := rfl
  generalize hp : s.pos.unloadBegunBy c (s.now + s.prof.unloadMs * 200000) = p at ha ⊢
  simp only [State.tells_pos, State.tells_now, State.tells_prof, State.tells_windowAt, State.tells_blk, State.tells_moved,
    State.tells_tells, State.tells_setBlk, State.tells_rampView, hv, hp, if_true] at e
  obtain ⟨ms', hm', e'⟩ := arrivePark_eq (((s.moved p (s.windowAt .unloading) n m).setBlk (s.blk.unloadBegunBy c)).tells
    (ns ++ ms)) false ha
  have hu' := hu (ms ++ ms') (hm.append hm')
  obtain ⟨x, w, hx⟩ := finish_unheard_frame (((s.moved (p.parked false s.now) (s.windowAt .unloading) n m).setSdc
    s.sdc.stopped).setBlk (s.blk.unloadBegunBy c)) hi hu'
  have hpark : ((((s.moved p (s.windowAt .unloading) n m).setBlk (s.blk.unloadBegunBy c)).tells (ns ++ ms)).arrivePark false).tells
      ks = (((s.moved (p.parked false s.now) (s.windowAt .unloading) n m).setSdc s.sdc.stopped).setBlk
        (s.blk.unloadBegunBy c)).tells (ns ++ (ms ++ ms') ++ ks) := by
    rw [e', State.tells_tells, show ns ++ (ms ++ ms') ++ ks = (ns ++ ms) ++ (ms' ++ ks) by simp, ← State.tells_tells _ (ns ++ ms)]
    rfl
  exact ⟨n, m, { s.blk.unloadBegunBy c with sending := x, waiting := w }, fun k => (hk k).1, rfl, by
    rw [e, hpark, hx, State.setBlk_twice]; rfl⟩

/-- A state after motion, with what R38 says of its Positioner, is an unload that has begun. -/
theorem unloadBegun_of {t : State} {c : UnloadCause} (hn : t.now = s.now)
    (hp : t.pos = s.pos.unloadBegunBy c (s.now + s.prof.unloadMs * 200000)) (hw : t.window = s.windowAt .unloading)
    (hb : t.blk.events = (s.blk.unloadBegunBy c).events) (hc : t.chm = s.chm) (hst : t.pst = s.pst)
    (hs : t.sdc.counters = s.sdc.counters) (hm : t.hmp = s.hmp) : UnloadBegun s c t where
  now := hn
  act := by rw [hp]; rfl
  coil := State.coilDrive_unloading (by rw [hp]; rfl)
  deadline := by rw [hp]; rfl
  runs := by rw [hp]; exact ⟨rfl, rfl, rfl, rfl⟩
  held := by rw [hp]; rfl
  move := by rw [hp]; rfl
  cause := by rw [hp]; rfl
  motion := fun h => by
    rw [hb]
    unfold Blk.unloadBegunBy
    rw [if_neg h]
    exact raise_has s .motion
  window := fun h => by rw [hw]; exact if_pos ⟨h, by decide⟩
  kept := by rw [hp]; exact ⟨rfl, rfl, rfl, rfl⟩
  chm := hc
  pst := hst
  counters := hs
  published := hm

end Sys2Proof.Machine
end

section
/-! PROOF. The arrivals that begin an unload or end a settling with no job RUNNING (R21, R30, R34, R36 to R38, R153, R160). -/

namespace Sys2Proof.Machine

variable {s : State}

/-- With no job RUNNING the reports of a motion are not heard. -/
theorem unheard_motion (hr : s.running = none) : ∀ ms, ForJob ms → s.Unheard ([] ++ ms ++ []) := fun ms hm => by
  rw [List.nil_append, List.append_nil]
  exact .inl ⟨hr, hm⟩

/-- Without jobs the reports of a motion are not heard, whatever else but a rest test is reported around it. -/
theorem unheard_noJobs (ht : s.jct.table = []) {ns ks : List JctMsg} (hn : ∀ m ∈ ns, m ≠ .restTest)
    (hk : ∀ m ∈ ks, m ≠ .restTest) : ∀ ms, ForJob ms → s.Unheard (ns ++ ms ++ ks) := fun ms hm =>
  .inr ⟨ht, fun m h => by
    rcases List.mem_append.mp h with h | h
    · exact (List.mem_append.mp h).elim (hn m) (hm.not_restTest m)
    · exact hk m h⟩

/-- An arrival that begins an unload off the ramp, its reports not heard (R38), and what else it leaves. -/
theorem unloadBegun_finish {c : UnloadCause} {ns ks : List JctMsg} (hr : s.running = none) (hi : s.inbox = [])
    (hl : s.pos.act.isLoaded = true) (hv : s.rampView = .offRamp) (hu : ∀ ms, ForJob ms → s.Unheard (ns ++ ms ++ ks)) :
    UnloadBegun s c (((s.tells ns).beginUnload c).tells ks).finish ∧
      (((s.tells ns).beginUnload c).tells ks).finish.rtm = s.rtm ∧
      (((s.tells ns).beginUnload c).tells ks).finish.pos = s.pos.unloadBegunBy c (s.now + s.prof.unloadMs * 200000) := by
  obtain ⟨n, m, b, -, hb, e⟩ := beginUnload_finish s (c := c) hr hi hl hv hu
  rw [e]
  exact ⟨unloadBegun_of s (by simp) (by simp) (by simp) (by simpa using hb) (by simp) (by simp) (by simp) (by simp), by simp,
    by simp⟩

/-- An unload with no job RUNNING and no reports before it (R38). -/
theorem unloadBegun_finish_noneRuns {c : UnloadCause} (hr : s.running = none) (hi : s.inbox = [])
    (hl : s.pos.act.isLoaded = true) (hv : s.rampView = .offRamp) :
    UnloadBegun s c (s.beginUnload c).finish ∧ (s.beginUnload c).finish.rtm = s.rtm := by
  have h := unloadBegun_finish (c := c) hr hi hl hv (unheard_motion hr)
  rw [State.tells_nil, State.tells_nil] at h
  exact ⟨h.1, h.2.1⟩

/-- Whether an unload has begun depends on the actuator state and on what it keeps, not on the moves in flight, the lines, the
timers and the link. -/
theorem UnloadBegun.congr {t u : State} {c : UnloadCause} (h : UnloadBegun u c t) (hn : u.now = s.now) (ha : u.pos.act = s.pos.act)
    (hk : u.pos.spindle = s.pos.spindle ∧ u.pos.target = s.pos.target ∧ u.pos.offset = s.pos.offset ∧
      u.pos.lastPark = s.pos.lastPark) (hc : u.chm = s.chm) (hst : u.pst = s.pst) (hs : u.sdc.counters = s.sdc.counters)
    (hm : u.hmp = s.hmp) : UnloadBegun s c t := by
  obtain ⟨hks, hkt, hko, hkp⟩ := hk
  obtain ⟨ks, kt, ko, kp⟩ := h.kept
  exact ⟨h.now.trans hn, h.act, h.coil, by rw [h.deadline, hn]; unfold State.prof; rw [hst], h.runs, h.held, h.move, h.cause,
    h.motion, fun k => h.window (ha.trans k), ⟨ks.trans hks, kt.trans hkt, ko.trans hko, kp.trans hkp⟩, h.chm.trans hc,
    h.pst.trans hst, h.counters.trans hs, h.published.trans hm⟩

/-- The last bench-move outcome of an unload that begins with no move in flight and no seek held is the one before (R25). -/
theorem unloadBegunBy_lastBench {p : Pos} (hm : p.actMove = none) (hh : p.held = none) (c : UnloadCause) (due : Nat) :
    (p.unloadBegunBy c due).lastBench = p.lastBench := by
  unfold Pos.unloadBegunBy
  rw [Pos.heldDone_of_none hh, Pos.moveDone_of_none hm]
  rfl

/-- A deadline that ends the move in flight and unloads the heads, with no job RUNNING (R30, R34). -/
theorem moveDeadline_finish {c : UnloadCause} (o : MoveOutcome) (hr : s.running = none) (hi : s.inbox = [])
    (hl : s.pos.act.isLoaded = true) (hv : s.rampView = .offRamp) :
    UnloadBegun s c ((s.endActMove o).beginUnload c).finish ∧
      (∀ m, s.pos.actMove = some m → m.owner = .bench → s.pos.held = none →
        ((s.endActMove o).beginUnload c).finish.pos.lastBench = some (m.kind, o)) := by
  obtain ⟨ms, hm, e⟩ := endActMove_eq s o
  have h := unloadBegun_finish (s := s.setPos (s.pos.moveDone o)) (c := c) (ns := ms) (ks := []) hr hi hl hv
    fun ns hn => by rw [List.append_nil]; exact .inl ⟨hr, hm.append hn⟩
  rw [State.tells_nil] at h
  obtain ⟨hu, -, hp⟩ := h
  rw [e]
  refine ⟨hu.congr rfl rfl ⟨rfl, rfl, rfl, rfl⟩ rfl rfl rfl rfl, fun x hx ho hh => ?_⟩
  rw [hp, State.setPos_pos, unloadBegunBy_lastBench (p := s.pos.moveDone o) rfl hh]
  show benchOutcome s.pos.lastBench s.pos.actMove o = _
  rw [hx, benchOutcome_of_bench ho]

/-- Settles O17: the three deadlines unload (`moveDeadline_finish`, `unloadBegun_finish`) from the deadline's tick. -/
theorem loadSeekAndAcquisitionDeadlinesUnload : Obligations.LoadSeekAndAcquisitionDeadlinesUnload := by
  intro s d ⟨hr, hi⟩ hv
  refine ⟨fun hd ha => ?_, fun hd ha => ?_, fun hd ha => ?_⟩
  · have he : s.expireLoad = ((s.atTick d).endActMove .loadFail).beginUnload .loadFail := by
      unfold State.expireLoad State.deadlineOf
      rcases ha with ha | ha <;> simp [hd, ha, DeadlineKind.runsIn]
    have hl : s.pos.act.isLoaded = true := by rcases ha with ha | ha <;> rw [ha] <;> rfl
    obtain ⟨hu, hb⟩ := moveDeadline_finish (s := s.atTick d) (c := .loadFail) .loadFail hr hi hl hv
    exact ⟨_, rfl, by rw [he]; exact hu, by rw [he]; exact hb⟩
  · have he : s.expireSeek = ((s.atTick d).endActMove .seekTimeout).beginUnload .seekTimeout := by
      simp [State.expireSeek, State.deadlineOf, hd, ha, DeadlineKind.runsIn]
    obtain ⟨hu, hb⟩ := moveDeadline_finish (s := s.atTick d) (c := .seekTimeout) .seekTimeout hr hi (by
      show s.pos.act.isLoaded = true
      rw [ha]
      rfl) hv
    exact ⟨_, rfl, by rw [he]; exact hu, by rw [he]; exact hb⟩
  · have he : s.expireAcq = (s.atTick d).beginUnload .servoLost := by
      simp [State.expireAcq, State.deadlineOf, hd, ha, DeadlineKind.runsIn]
    obtain ⟨hu, -⟩ := unloadBegun_finish_noneRuns (s := s.atTick d) (c := .servoLost) hr hi (by
      show s.pos.act.isLoaded = true
      rw [ha]
      rfl) hv
    exact ⟨_, rfl, by rw [he]; exact hu⟩

/-- Settles O21: PREAMP is pending first, and the unload begins from there (`unloadBegun_finish`). -/
theorem preampFaultUnloadsTheHeads : Obligations.PreampFaultUnloadsTheHeads := by
  intro s ⟨ht, hi⟩ ho hp
  let v := (s.setFlc { s.flc with livePreamp := .active }).raise .preamp
  have hv : s.preampLine .active = if v.pos.act.isLoaded then (v.beginUnload .preamp).tell .preampFault else v := by
    unfold State.preampLine
    rw [hp, if_neg (by decide)]
    exact if_pos ⟨ho, rfl⟩
  refine ⟨_, rfl, ?_, fun hl hr => ?_, fun hl => ?_⟩
  · rw [hv]
    have hpre : v.blk.events.has .preamp = true := raise_has _ _
    have hcar : Carries v (if v.pos.act.isLoaded then (v.beginUnload .preamp).tell .preampFault else v) := by
      split
      · exact (beginUnload_carries v .preamp).trans (tell_carries _ _)
      · exact .refl v
    exact hcar.finish.raised .preamp hpre
  · rw [hv, if_pos (show v.pos.act.isLoaded = true from hl)]
    have hram : v.rampView = .offRamp := by
      show (if s.flc.senseBench = true then _ else s.flc.liveRamp) = _
      rw [ho]
      exact hr
    have h := unloadBegun_finish (s := v) (c := .preamp) (ns := []) (ks := [.preampFault]) (running_noJobs ht) hi hl hram
      (unheard_noJobs (s := v) ht (by simp) (by simp))
    rw [State.tells_nil] at h
    exact h.1.congr rfl rfl ⟨rfl, rfl, rfl, rfl⟩ rfl rfl rfl rfl
  · rw [hv, if_neg (by rw [Bool.not_eq_true]; exact hl), finish_of_nil (by exact hi)]
    obtain ⟨x, w, e⟩ := transmit_frame v
    rw [e]
    rfl

/-- The rest test where the rest condition holds off the ramp: an unload has begun (R160). -/
theorem restTest_unloads {x : Rtm} {d : Nat} (hi : s.inbox = []) (hx : x.a.due = none ∧ x.b.due = none)
    (ha : s.pos.act = .following) (hr : s.running = none) (hv : s.rampView = .offRamp) :
    UnloadBegun (s.atTick d) .rest (((s.atTick d).setRtm x).restTest).finish ∧
      (((s.atTick d).setRtm x).restTest).finish.rtm = x := by
  have hrest : ((s.atTick d).setRtm x).restHolds = true := by
    show (!x.a.due.isSome && !x.b.due.isSome && s.pos.act == .following && s.running.isNone) = true
    rw [hx.1, hx.2, ha, hr]
    rfl
  have hu := unloadBegun_finish_noneRuns (s := (s.atTick d).setRtm x) (c := .rest) hr hi (by
    show s.pos.act.isLoaded = true
    rw [ha]
    rfl) hv
  unfold State.restTest
  rw [if_pos hrest]
  exact ⟨hu.1.congr rfl rfl ⟨rfl, rfl, rfl, rfl⟩ rfl rfl rfl rfl, hu.2⟩

/-- The rest test where the rest condition fails changes nothing (R160). -/
theorem restTest_of_not (h : s.rtm.a.due.isSome = true ∨ s.rtm.b.due.isSome = true ∨ s.pos.act ≠ .following ∨
    s.running.isSome = true) : s.restTest = s := by
  have hrest : s.restHolds = false := by
    unfold State.restHolds Timer.isRunning
    rcases h with h | h | h | h
    · rw [h]; rfl
    · rw [h]; simp
    · simp [h]
    · rw [Option.isNone_eq_false_iff.mpr h]; simp
  unfold State.restTest
  rw [hrest]
  rfl

/-- Settles O48: the rest test after the expiry unloads when the condition holds (`restTest_unloads`), and changes nothing when
it does not (`restTest_of_not`). -/
theorem restTimerExpiryTestsTheRestCondition : Obligations.RestTimerExpiryTestsTheRestCondition := by
  intro s d hi
  refine ⟨fun hd => ?_, fun hd => ?_⟩
  · have he : s.expireTimer .a = ((s.atTick d).setRtm { s.rtm with a := { s.rtm.a with due := none } }).restTest := by
      unfold State.expireTimer
      rw [hd]
    refine ⟨fun ho ha hr hv => ⟨_, rfl, ?_⟩, fun h => ?_⟩
    · rw [he]
      exact restTest_unloads hi ⟨rfl, ho⟩ ha hr hv
    · show Host.Outcome.next (s.expireTimer .a).finish = _
      rw [he, restTest_of_not (s := (s.atTick d).setRtm { s.rtm with a := { s.rtm.a with due := none } }) (.inr h),
        finish_of_nil (by exact hi)]
      rfl
  · have he : s.expireTimer .b = ((s.atTick d).setRtm { s.rtm with b := { s.rtm.b with due := none } }).restTest := by
      unfold State.expireTimer
      rw [hd]
    refine ⟨fun ho ha hr hv => ⟨_, rfl, ?_⟩, fun h => ?_⟩
    · rw [he]
      exact restTest_unloads hi ⟨ho, rfl⟩ ha hr hv
    · show Host.Outcome.next (s.expireTimer .b).finish = _
      rw [he, restTest_of_not (s := (s.atTick d).setRtm { s.rtm with b := { s.rtm.b with due := none } })
        (h.elim .inl fun k => .inr (.inr k)), finish_of_nil (by exact hi)]
      rfl

/-- Settles O18: the move ends, the change to FOLLOWING is no departure, and a running timer holds the rest test off. -/
theorem settleDeadlineReturnsToFollowing : Obligations.SettleDeadlineReturnsToFollowing := by
  intro s d ⟨hr, hi⟩ ha hd ht
  have he : s.expireSettle = ((s.atTick d).endActMove .settleTimeout).arriveFollowing := by
    simp [State.expireSettle, State.deadlineOf, hd, ha, DeadlineKind.runsIn]
  obtain ⟨ms, hm, e⟩ := endActMove_eq (s.atTick d) .settleTimeout
  let v := (s.atTick d).setPos (((s.atTick d).pos.moveDone .settleTimeout).arrived .following none)
  have hact : ((s.atTick d).endActMove .settleTimeout).setAct .following none = v.tells (ms ++ [.posChanged]) := by
    rw [e, setAct_between _ (by show s.pos.act ≠ _; rw [ha]; decide) (by show s.pos.act ≠ _; rw [ha]; decide),
      ← State.tells_tells]
    rfl
  obtain ⟨x, w, hx⟩ := finish_unheard_frame v hi (.inl ⟨hr, hm.append .posChanged⟩)
  refine ⟨_, rfl, ?_⟩
  unfold State.arriveFollowing at he
  rw [hact, restTest_of_not (s := v.tells _) (ht.elim .inl fun k => .inr (.inl k))] at he
  rw [he, hx]
  refine ⟨rfl, rfl, rfl, rfl, rfl, rfl, rfl, rfl, rfl, rfl, rfl, rfl, fun m h ho => ?_, fun m h ho => ?_⟩
  · show benchOutcome s.pos.lastBench s.pos.actMove .settleTimeout = _
    rw [h, benchOutcome_of_bench ho]
  · show benchOutcome s.pos.lastBench s.pos.actMove .settleTimeout = _
    rw [h, benchOutcome_of_not_bench ho]

end Sys2Proof.Machine
end

section
/-! PROOF. A preamplifier fault whose unload finds the spindle out of speed (R108, R119 before R109). -/

namespace Sys2Proof.Machine

open Sys2Proof.Tests

set_option maxRecDepth 20000

/-- A RUNNING qualification in PREPARE, the heads loaded over a spindle OFF_SPEED, with a recovery time of 0 ms. -/
def offSpeedPrepare : State :=
  let s := measureOf (posOf (fly .following none) fun p => { p with spindle := .offSpeed }) (measuring .qualify .prepare 0 0) .load
  s.setPst { s.pst with profile := { s.pst.profile with speedRecoverMs := 0 } }

/-- The change of position of the unload reaches the job before the fault does: PREPARE finds the spindle OFF_SPEED, and the
recovery time of 0 ms ends the job with reason SPINDLE. -/
theorem offSpeedPrepare_preamp_reason :
    (offSpeedPrepare.preampLine .active).finish.jct.finished.map (fun f => f.reason) = [some .spindle] := by decide

/-- The finished list that the statement asks for has reason PREAMP. -/
theorem offSpeedPrepare_wanted_reason (x : Finished) (hx : x.reason = some .preamp) :
    (withFinished offSpeedPrepare.jct.finished x).map (fun f => f.reason) = [some .preamp] := by
  have e : offSpeedPrepare.jct.finished = [] := by decide
  rw [e, ← hx]
  rfl

/-- Refutes O42: in `offSpeedPrepare` PREAMP_FAULT_CHANGE to ACTIVE finishes the only, active job FAILED with reason SPINDLE and
not PREAMP. -/
theorem not_cancelAndRecoveryFinishJobs : ¬ Obligations.CancelAndRecoveryFinishJobs := by
  intro h
  obtain ⟨-, -, -, hfault, -⟩ := h offSpeedPrepare 0 0 (measuring .qualify .prepare 0 0) (at2 .prepare 0 0) defaultFigures 1 2 0
    (by decide)
  obtain ⟨t, ht, hfailed, -⟩ := (hfault (by decide) (by decide) (by decide) rfl (by decide)).1 (by decide)
  have hout : (offSpeedPrepare.preampLine .active).finish = t := Host.Outcome.next.inj ht
  have hlist := offSpeedPrepare_preamp_reason
  rw [hout, hfailed.record, offSpeedPrepare_wanted_reason _ rfl] at hlist
  cases hlist

end Sys2Proof.Machine
end

section
/-! PROOF. The spindle: index arrivals, lost speed and the two deadlines (R19 to R22). -/

namespace Sys2Proof.Machine

variable {s t : State}

/-! ## Arrivals without jobs -/

/-- There is no job, and no rest test waits: nothing that is reported changes anything (log 15). -/
def State.NoneHears (s : State) : Prop := s.jct.table = [] ∧ ∀ m ∈ s.inbox, m ≠ .restTest

theorem noneHears_noJobs (h : s.NoJobs) : s.NoneHears := ⟨h.1, by rw [h.2]; simp⟩

theorem State.NoneHears.tells {ms : List JctMsg} (h : s.NoneHears) (hm : ∀ m ∈ ms, m ≠ .restTest) : (s.tells ms).NoneHears :=
  ⟨h.1, fun m k => (List.mem_append.mp k).elim (h.2 m) (hm m)⟩

/-- The end of an arrival where none hears: the reports are gone, and the transmitter may have started. -/
theorem State.NoneHears.finish_eq (h : s.NoneHears) :
    ∃ x w, s.finish = (s.setInbox []).setBlk { s.blk with sending := x, waiting := w } := by
  rw [finish_noJobs h.1 h.2]
  exact transmit_frame (s.setInbox [])

/-- `t` differs from `s` in neither Positioner nor link, and in no report that is heard. -/
structure Beside (s t : State) : Prop where
  pos : t.pos = s.pos
  blk : t.blk = s.blk
  noneHears : s.NoneHears → t.NoneHears

theorem Beside.refl (s : State) : Beside s s := ⟨rfl, rfl, id⟩

theorem Beside.trans {u : State} (h : Beside s t) (k : Beside t u) : Beside s u :=
  ⟨k.pos.trans h.pos, k.blk.trans h.blk, k.noneHears ∘ h.noneHears⟩

/-- A report that is no rest test. -/
theorem Beside.tell (s : State) {m : JctMsg} (hm : m ≠ .restTest) : Beside s (s.tell m) :=
  ⟨rfl, rfl, fun h => h.tells (ms := [m]) (by simpa using hm)⟩

theorem Moved.noneHears {p : Pos} {w : Option Window} (h : Moved s p w t) (hs : s.NoneHears) : t.NoneHears := by
  obtain ⟨n, m, ms, hm, -, rfl⟩ := h
  exact State.NoneHears.tells (s := s.moved p w n m) hs hm.not_restTest

theorem Moved.hmp {p : Pos} {w : Option Window} (h : Moved s p w t) : t.hmp = s.hmp := by
  obtain ⟨n, m, ms, -, -, rfl⟩ := h
  simp

/-- A window's end alone. -/
theorem Moved.beside {w : Option Window} (h : Moved s s.pos w t) : Beside s t := ⟨h.reads.1, h.blk, h.noneHears⟩

theorem endGate_beside (e : GateEnding) (c : Option AbortCause) (v : Option Nat) (b : Option ClosedBy) (o : Option Stage)
    (l u : Nat) : Beside s (s.endGate e c v b o l u) := by
  unfold State.endGate
  extract_lets g r s1
  split
  · exact ⟨rfl, rfl, id⟩
  · exact .trans (t := s1) ⟨rfl, rfl, id⟩ (.tell s1 (by simp))

/-- The Gate Counter Unit's share of an index arrival (R80, R81). -/
theorem gateIndex_beside (n : Nat) : Beside s (s.gateIndex n) := by
  unfold State.gateIndex
  split
  · exact .refl s
  · exact ⟨rfl, rfl, id⟩
  · split
    · exact .refl s
    · exact endGate_beside _ _ _ _ _ _ _

/-- The Window Collector's share of an index arrival (R55). -/
theorem windowIndex_beside : Beside s s.windowIndex := by
  unfold State.windowIndex
  split
  next => exact .refl s
  next w hw =>
    dsimp only
    split
    · exact (closeWindow_moved s (by rw [hw]; rfl) _ _).beside
    · exact ⟨rfl, rfl, id⟩

/-! ## Lost speed -/

@[simp] theorem Pos.unloadBegunBy_act (p : Pos) (c : UnloadCause) (n : Nat) : (p.unloadBegunBy c n).act = .unloading := rfl
@[simp] theorem Pos.unloadBegunBy_spindle (p : Pos) (c : UnloadCause) (n : Nat) :
    (p.unloadBegunBy c n).spindle = p.spindle := rfl
@[simp] theorem Pos.unloadBegunBy_inTol (p : Pos) (c : UnloadCause) (n : Nat) : (p.unloadBegunBy c n).inTol = p.inTol := rfl
@[simp] theorem Pos.unloadBegunBy_target (p : Pos) (c : UnloadCause) (n : Nat) :
    (p.unloadBegunBy c n).target = p.target := rfl
@[simp] theorem Pos.unloadBegunBy_offset (p : Pos) (c : UnloadCause) (n : Nat) :
    (p.unloadBegunBy c n).offset = p.offset := rfl
@[simp] theorem Pos.unloadBegunBy_period (p : Pos) (c : UnloadCause) (n : Nat) : (p.unloadBegunBy c n).period = p.period := rfl
@[simp] theorem Pos.unloadBegunBy_indexRef (p : Pos) (c : UnloadCause) (n : Nat) :
    (p.unloadBegunBy c n).indexRef = p.indexRef := rfl
@[simp] theorem Pos.unloadBegunBy_unloadCause (p : Pos) (c : UnloadCause) (n : Nat) :
    (p.unloadBegunBy c n).unloadCause = c := rfl
@[simp] theorem Pos.unloadBegunBy_spinDownPending (p : Pos) (c : UnloadCause) (n : Nat) :
    (p.unloadBegunBy c n).spinDownPending = p.spinDownPending := rfl

/-- The Positioner at rest keeps spindle, position and the cause of its unload. -/
theorem Pos.rested_kept (p : Pos) (u : Bool) : (p.rested u).act = .parked ∧ (p.rested u).spindle = p.spindle ∧
    (p.rested u).inTol = p.inTol ∧ (p.rested u).target = p.target ∧ (p.rested u).offset = p.offset ∧
    (p.rested u).unloadCause = p.unloadCause := ⟨rfl, rfl, rfl, rfl, rfl, rfl⟩

/-- What an unload demanded of loaded heads, no spin-down being pending, makes of `s` without jobs (R38, R39). -/
structure UnloadTaken (s : State) (c : UnloadCause) (t : State) : Prop where
  spindle : t.pos.spindle = s.pos.spindle ∧ t.pos.inTol = s.pos.inTol
  kept : t.pos.target = s.pos.target ∧ t.pos.offset = s.pos.offset
  cause : t.pos.unloadCause = c
  act : t.pos.act = if s.rampView = .onRamp then .parked else .unloading
  map : t.hmp = s.hmp
  noneHears : t.NoneHears

theorem beginUnload_taken (c : UnloadCause) (hn : s.NoneHears) (hl : s.pos.act.isLoaded = true)
    (hd : s.pos.spinDownPending = false) : UnloadTaken s c (s.beginUnload c) := by
  obtain ⟨t, hm, e⟩ := beginUnload_moved s (running_noJobs hn.1) hl c
  obtain ⟨hpos, -⟩ := hm.reads
  have hth : (t.setBlk (s.blk.unloadBegunBy c)).NoneHears := hm.noneHears hn
  have hmap : (t.setBlk (s.blk.unloadBegunBy c)).hmp = s.hmp := hm.hmp
  have hp : (t.setBlk (s.blk.unloadBegunBy c)).pos = s.pos.unloadBegunBy c (s.now + s.prof.unloadMs * 200000) := hpos
  generalize t.setBlk (s.blk.unloadBegunBy c) = u at e hth hmap hp
  rw [e]
  by_cases hv : s.rampView = .onRamp
  · obtain ⟨ms, hms, e'⟩ := arrivePark_eq u false (by simp [hp])
    have hpark : u.pos.parked false u.now = u.pos.rested false := if_neg (by simp [hp, hd])
    obtain ⟨ha, hs, hi, ht, ho, hc⟩ := u.pos.rested_kept false
    rw [if_pos hv, e', hpark]
    generalize u.pos.rested false = q at ha hs hi ht ho hc
    have hnone : (((u.setPos q).setSdc u.sdc.stopped).setBlk (u.blk.parked false)).NoneHears := hth
    rw [hp] at hs hi ht ho hc
    exact ⟨by simp [*], by simp [*], by simp [*], by simp [*], by simp [*], hnone.tells hms.not_restTest⟩
  · rw [if_neg hv]
    exact ⟨by simp [*], by simp [*], by simp [*], by simp [*], hmap, hth⟩

/-- What an arrival at OFF_SPEED makes of `s` without jobs (R21). -/
structure OffSpeedArrived (s t : State) : Prop where
  spindle : t.pos.spindle = .offSpeed ∧ t.pos.inTol = 0
  motion : t.blk.events.motion = true
  kept : t.pos.target = s.pos.target ∧ t.pos.offset = s.pos.offset
  loaded : s.pos.act.isLoaded = true → t.pos.unloadCause = .spindle ∧
    t.pos.act = if s.rampView = .onRamp then .parked else .unloading
  unloaded : s.pos.act.isLoaded = false → t.pos.act = s.pos.act
  carries : Carries s t
  map : t.hmp = s.hmp
  noneHears : t.NoneHears

/-- The Positioner whose spindle is OFF_SPEED, before its heads unload (R21). -/
def Pos.slowed (p : Pos) : Pos := { p with inTol := 0, silenceDue := none, spindle := .offSpeed }

/-- The state whose spindle is OFF_SPEED, MOTION pending and the loss reported, before its heads unload (R21). -/
def State.slowed (s : State) : State := ((s.setPos s.pos.slowed).raise .motion).tells [.posChanged, .offSpeed]

theorem arriveOffSpeed_eq : s.arriveOffSpeed = s.slowed.beginUnload .spindle := by
  unfold State.arriveOffSpeed State.slowed
  extract_lets p0 s1
  have h1 : s1 = (s.setPos s.pos.slowed).tells [.posChanged] := rfl
  clear_value s1
  subst h1
  generalize s.pos.slowed = p
  exact congrArg (State.beginUnload · .spindle) (State.tells_tells ((s.setPos p).raise .motion) [.posChanged] [.offSpeed])

theorem slowed_carries : Carries s s.slowed :=
  ((setPos_carries s s.pos.slowed rfl rfl rfl).trans (raise_carries _ .motion)).trans (setInbox_carries _ _)

theorem slowed_motion : s.slowed.blk.events.motion = true := raise_has (s.setPos s.pos.slowed) .motion

theorem slowed_pos : s.slowed.pos = s.pos.slowed := rfl

theorem slowed_noneHears (hn : s.NoneHears) : s.slowed.NoneHears :=
  State.NoneHears.tells (s := (s.setPos s.pos.slowed).raise .motion) hn (by simp)

theorem arriveOffSpeed_arrived (hn : s.NoneHears) (hd : s.pos.act.isLoaded = false ∨ s.pos.spinDownPending = false) :
    OffSpeedArrived s s.arriveOffSpeed := by
  have hc := slowed_carries (s := s)
  have hm := slowed_motion (s := s)
  have hvn := slowed_noneHears hn
  have hmap : s.slowed.hmp = s.hmp := rfl
  have hp := slowed_pos (s := s)
  rw [arriveOffSpeed_eq]
  generalize s.slowed = v at hc hm hvn hmap hp ⊢
  have hspin : v.pos.spindle = .offSpeed ∧ v.pos.inTol = 0 := by rw [hp]; exact ⟨rfl, rfl⟩
  have hkept : v.pos.target = s.pos.target ∧ v.pos.offset = s.pos.offset := by rw [hp]; exact ⟨rfl, rfl⟩
  have hact : v.pos.act = s.pos.act ∧ v.pos.spinDownPending = s.pos.spinDownPending := by rw [hp]; exact ⟨rfl, rfl⟩
  by_cases hl : s.pos.act.isLoaded = true
  · have hu := beginUnload_taken (s := v) .spindle hvn (by rw [hact.1, hl])
      (by rw [hact.2]; exact hd.resolve_left (by rw [hl]; decide))
    have hcar := beginUnload_carries v .spindle
    exact ⟨⟨hu.spindle.1.trans hspin.1, hu.spindle.2.trans hspin.2⟩, hcar.raised .motion hm,
      ⟨hu.kept.1.trans hkept.1, hu.kept.2.trans hkept.2⟩, fun _ => ⟨hu.cause, by rw [hu.act, hc.rampView]⟩,
      fun k => absurd (hl.symm.trans k) (by decide), hc.trans hcar, hu.map.trans hmap, hu.noneHears⟩
  · have hkeep : v.beginUnload .spindle = v := by
      unfold State.beginUnload
      exact if_neg (by rw [hact.1]; exact hl)
    rw [hkeep]
    exact ⟨hspin, hm, hkept, fun k => absurd k hl, fun _ => hact.1, hc, hmap, hvn⟩

/-- Settles O15: the silence limit's expiry is an arrival at OFF_SPEED (`arriveOffSpeed_arrived`) at the limit's tick. -/
theorem lossOfSpeedUnloadsTheHeads : Obligations.LossOfSpeedUnloadsTheHeads := by
  intro s d hj hs hd hp
  have he : s.expireSilence = (s.atTick d).arriveOffSpeed := by
    unfold State.expireSilence
    rw [hs, hd]
  have h := arriveOffSpeed_arrived (s := s.atTick d) (noneHears_noJobs ⟨hj.1, hj.2⟩) (.inr hp)
  obtain ⟨x, w, hf⟩ := h.noneHears.finish_eq
  refine ⟨_, rfl, ?_⟩
  rw [he, hf]
  exact ⟨h.carries.now, h.spindle.1, h.spindle.2, h.motion, h.kept.1, h.kept.2, h.loaded, h.unloaded, h.carries.chm,
    h.carries.pst, h.carries.counts, h.map⟩

/-! ## The spindle's deadlines -/

/-- Settles O16: the spindle move ends (`endSpinMove_eq`), and BRAKING or STOPPED is reported to no one. -/
theorem spindleDeadlinesEndTheirMoves : Obligations.SpindleDeadlinesEndTheirMoves := by
  intro s d hj
  refine ⟨fun hs hd => ?_, fun hs hd => ?_⟩
  · obtain ⟨ms, hm, e⟩ := endSpinMove_eq (s.atTick d) .spinupFail
    let v := ((s.atTick d).setPos (((s.atTick d).pos.spinDone .spinupFail).braked (s.atTick d).now)).raise .motion
    have he : s.expireSpinup = v.tells (ms ++ [.posChanged]) := by
      unfold State.expireSpinup
      rw [hs, hd]
      dsimp only
      rw [e, brake_eq, ← State.tells_tells]
      rfl
    obtain ⟨x, w, hx⟩ := finish_unheard_frame v hj.2 (.inl ⟨running_noJobs hj.1, hm.append .posChanged⟩)
    refine ⟨_, rfl, ?_⟩
    rw [he, hx]
    refine ⟨rfl, rfl, rfl, rfl, rfl, raise_has _ .motion, fun m h ho => ?_, rfl, rfl, rfl, rfl⟩
    show benchOutcome s.pos.lastBench s.pos.spinMove .spinupFail = _
    rw [h, benchOutcome_of_bench ho]
  · let u := (s.atTick d).setPos { s.pos with indexRef := none, quietDue := none }
    obtain ⟨ms, hm, e⟩ := endSpinMove_eq u .stopped
    let v := u.setPos { u.pos.spinDone .stopped with spindle := .stopped }
    have he : s.expireQuiet = v.tells (ms ++ [.posChanged]) := by
      unfold State.expireQuiet
      rw [hs, hd]
      show (u.endSpinMove .stopped).setSpindle .stopped = _
      rw [e, ← State.tells_tells]
      rfl
    obtain ⟨x, w, hx⟩ := finish_unheard_frame v hj.2 (.inl ⟨running_noJobs hj.1, hm.append .posChanged⟩)
    refine ⟨_, rfl, ?_⟩
    rw [he, hx]
    refine ⟨rfl, rfl, rfl, rfl, fun m h ho => ?_, rfl, rfl, rfl, rfl⟩
    show benchOutcome s.pos.lastBench s.pos.spinMove .stopped = _
    rw [h, benchOutcome_of_bench ho]

end Sys2Proof.Machine
end

section
/-! PROOF. Index arrivals: the reference, the period and the speed state (R19 to R21). -/

namespace Sys2Proof.Machine

variable {s t : State}

/-! ## What the speed monitor leaves -/

theorem restartIndexLimits_carries : Carries s s.restartIndexLimits := by
  unfold State.restartIndexLimits
  cases s.pos.spindle <;> first | exact .refl s | exact setPos_carries s _ rfl rfl rfl

theorem arriveOffSpeed_carries : Carries s s.arriveOffSpeed := by
  rw [arriveOffSpeed_eq]
  exact slowed_carries.trans (beginUnload_carries _ _)

theorem arriveAtSpeed_carries : Carries s s.arriveAtSpeed :=
  ((setPos_carries s { s.pos with outTol := 0, spinupDue := none, silenceDue := some (s.now + 2 * s.prof.nRevNom) } rfl rfl
    rfl).trans (setSpindle_carries _ _)).trans (tell_carries _ _)

/-- A judged revolution moves spindle and actuator, and measures nothing (R20, R21). -/
theorem judgeRevolution_carries (good : Bool) : Carries s (s.judgeRevolution good) := by
  have hin : Carries s (s.runInTol good) := setPos_carries s _ rfl rfl rfl
  have hout : Carries s (s.runOutTol good) := setPos_carries s _ rfl rfl rfl
  unfold State.judgeRevolution
  cases s.pos.spindle with
  | accelerating =>
    dsimp only
    split
    · exact (hin.trans (endSpinMove_carries _ _)).trans arriveAtSpeed_carries
    · exact hin
  | offSpeed =>
    dsimp only
    split
    · exact hin.trans arriveAtSpeed_carries
    · exact hin
  | atSpeed =>
    dsimp only
    split
    · exact hout.trans arriveOffSpeed_carries
    · exact hout
  | stopped | braking | bench => exact .refl s

/-- The period after an index arrival at tick `n` (R19). -/
def State.periodAt (s : State) (n : Nat) : Option Nat :=
  match s.pos.indexRef with
  | none => s.pos.period
  | some ref => if 4 * s.prof.nRevNom < n - ref then s.pos.period else some (n - ref)

/-- The period that both sides measure. -/
theorem Carries.setPeriod (h : Carries s t) (x : Option Nat) :
    Carries (s.setPos { s.pos with period := x }) (t.setPos { t.pos with period := x }) :=
  ⟨h.now, h.chm, h.pst, h.free, h.pending, rfl, h.indexRef, h.control, h.counts, h.flc, h.published, h.gen, h.table, h.asm,
    h.buffer, h.counters, h.lastFault, h.mask, h.sending, h.replies, h.expect, h.raised⟩

/-- The speed monitor changes reference and period, and else moves spindle and actuator alone. -/
theorem speedMonitor_carries (n : Nat) :
    Carries (s.setPos { s.pos with indexRef := some n, period := s.periodAt n }) (s.speedMonitor n) := by
  have h1 : Carries (s.setPos { s.pos with indexRef := some n }) (s.setPos { s.pos with indexRef := some n }).restartIndexLimits :=
    restartIndexLimits_carries
  unfold State.speedMonitor State.periodAt
  dsimp only
  cases s.pos.indexRef with
  | none => exact h1
  | some ref =>
    dsimp only
    split
    · exact h1.trans (judgeRevolution_carries _)
    · exact (h1.setPeriod (some (n - ref))).trans (judgeRevolution_carries _)

theorem gateIndex_carries (n : Nat) : Carries s (s.gateIndex n) := by
  unfold State.gateIndex
  split
  · exact .refl s
  · exact setGcu_carries s _
  · split
    · exact .refl s
    · exact endGate_carries _ _ _ _ _ _ _ _

theorem windowIndex_carries : Carries s s.windowIndex := by
  unfold State.windowIndex
  split
  · exact .refl s
  · dsimp only
    split
    · exact closeWindow_carries s _ _
    · exact setWindow_carries s _

/-- An index arrival, whole, from the state at its tick. -/
theorem takeIndex_carries (n : Nat) :
    Carries ((s.atTick n).setPos { s.pos with indexRef := some n, period := s.periodAt n }) (s.takeIndex n) := by
  have h := ((speedMonitor_carries (s := s.atTick n) n).trans (gateIndex_carries n)).trans windowIndex_carries
  unfold State.takeIndex
  dsimp only
  split
  · exact h.trans (tell_carries _ _)
  · exact h

/-- The tick of an index arrival `ticks` after the one before (log 3). -/
def State.indexTick (s : State) (ticks : Nat) : Nat :=
  match s.pos.indexRef with
  | none => s.now
  | some ref => ref + ticks

theorem exec_indexArrival (s : State) (ticks : Nat) :
    exec (.indexArrival ticks) s = .next (s.takeIndex (s.indexTick ticks)).finish := by
  unfold State.indexTick
  cases h : s.pos.indexRef <;> simp only [exec, execIndexArrival, arrival_eq_next, h]

theorem indexTick_of_none {ticks : Nat} (h : s.pos.indexRef = none) : s.indexTick ticks = s.now := by
  unfold State.indexTick; rw [h]

theorem indexTick_of_some {ref ticks : Nat} (h : s.pos.indexRef = some ref) : s.indexTick ticks = ref + ticks := by
  unfold State.indexTick; rw [h]

theorem periodAt_of_none {n : Nat} (h : s.pos.indexRef = none) : s.periodAt n = s.pos.period := by
  unfold State.periodAt; rw [h]

theorem periodAt_of_some {ref ticks : Nat} (h : s.pos.indexRef = some ref) :
    s.periodAt (ref + ticks) = if 4 * s.prof.nRevNom < ticks then s.pos.period else some ticks := by
  unfold State.periodAt
  rw [h]
  dsimp only
  rw [Nat.add_sub_cancel_left]

/-- Settles O13: reference and period by `takeIndex_carries`, the rest by what motion and jobs carry on. -/
theorem indexArrivalMeasuresTheRevolution : Obligations.IndexArrivalMeasuresTheRevolution := by
  intro s ticks
  have h := (takeIndex_carries (s := s) (s.indexTick ticks)).finish
  refine ⟨_, exec_indexArrival s ticks, fun hr => ?_, fun ref hr => ?_, h.chm, h.pst, h.counts, h.flc, h.published, h.gen, h.asm,
    h.buffer⟩
  · rw [indexTick_of_none hr] at h ⊢
    exact ⟨h.indexRef, h.period.trans (periodAt_of_none hr), h.now.trans (Nat.max_self _)⟩
  · rw [indexTick_of_some hr] at h ⊢
    exact ⟨h.indexRef, h.now, h.period.trans (periodAt_of_some hr)⟩

end Sys2Proof.Machine
end

section
/-! PROOF. Revolutions in and out of tolerance without jobs (R20, R21). -/

namespace Sys2Proof.Machine

variable {s u : State}

/-- The revolution counts as in tolerance (R19). -/
def State.revolutionGood (s : State) (ticks : Nat) : Bool := decide (ticks ≤ 4 * s.prof.nRevNom) && inTolerance s.prof ticks

theorem revolutionGood_iff {ticks : Nat} : s.revolutionGood ticks = true ↔ ticks ≤ 4 * s.prof.nRevNom ∧
    ((ticks : Int) - s.prof.nRevNom).natAbs * 1000 ≤ s.prof.speedTolPm * s.prof.nRevNom := by
  unfold State.revolutionGood inTolerance
  rw [Bool.and_eq_true, decide_eq_true_eq, decide_eq_true_eq]

/-- The state that is judged differs from the one before in reference, period and limits alone. -/
structure BeforeJudging (s u : State) : Prop where
  spindle : u.pos.spindle = s.pos.spindle ∧ u.pos.inTol = s.pos.inTol ∧ u.pos.outTol = s.pos.outTol
  act : u.pos.act = s.pos.act ∧ u.pos.spinDownPending = s.pos.spinDownPending
  moves : u.pos.spinMove = s.pos.spinMove ∧ u.pos.lastBench = s.pos.lastBench
  ramp : u.rampView = s.rampView
  noneHears : s.NoneHears → u.NoneHears

theorem restartIndexLimits_beforeJudging : BeforeJudging s s.restartIndexLimits := by
  unfold State.restartIndexLimits
  cases s.pos.spindle <;> exact ⟨⟨rfl, rfl, rfl⟩, ⟨rfl, rfl⟩, ⟨rfl, rfl⟩, rfl, id⟩

theorem speedMonitor_judges {ref ticks : Nat} (h : s.pos.indexRef = some ref) :
    ∃ u, BeforeJudging s u ∧ s.speedMonitor (ref + ticks) = u.judgeRevolution (s.revolutionGood ticks) := by
  have hb := restartIndexLimits_beforeJudging (s := s.setPos { s.pos with indexRef := some (ref + ticks) })
  unfold State.speedMonitor State.revolutionGood
  rw [h]
  dsimp only
  generalize (s.setPos { s.pos with indexRef := some (ref + ticks) }).restartIndexLimits = v at hb ⊢
  obtain ⟨hs, ha, hm, hv, hn⟩ := hb
  rw [Nat.add_sub_cancel_left]
  split
  next k =>
    rw [decide_eq_false (Nat.not_le.mpr k)]
    exact ⟨v, ⟨hs, ha, hm, hv, hn⟩, rfl⟩
  next k =>
    rw [decide_eq_true (Nat.not_lt.mp k), Bool.true_and]
    exact ⟨v.setPos { v.pos with period := some ticks }, ⟨hs, ha, hm, hv, hn⟩, rfl⟩

/-- An index arrival without jobs leaves Positioner and link as the speed monitor does. -/
theorem takeIndex_beside (n : Nat) : Beside ((s.atTick n).speedMonitor n) (s.takeIndex n) := by
  have h : Beside ((s.atTick n).speedMonitor n) (((s.atTick n).speedMonitor n).gateIndex n).windowIndex :=
    (gateIndex_beside n).trans windowIndex_beside
  unfold State.takeIndex
  dsimp only
  split
  · exact h.trans (.tell _ (by simp))
  · exact h

/-! ## Judged revolutions -/

/-- What the judged revolution makes of the spindle while the heads stay as they are, without jobs. -/
structure SpindleJudged (u : State) (x : SpindleState) (i : Nat) (t : State) : Prop where
  spindle : t.pos.spindle = x ∧ t.pos.inTol = i
  act : t.pos.act = u.pos.act
  noneHears : t.NoneHears

/-- An arrival at AT_SPEED (R20). -/
theorem arriveAtSpeed_facts (h : u.NoneHears) : SpindleJudged u .atSpeed u.pos.inTol u.arriveAtSpeed ∧
    u.arriveAtSpeed.pos.outTol = 0 ∧ u.arriveAtSpeed.pos.spinupDue = none ∧ u.arriveAtSpeed.pos.spinMove = u.pos.spinMove ∧
    u.arriveAtSpeed.pos.lastBench = u.pos.lastBench := by
  unfold State.arriveAtSpeed
  extract_lets p0 s1
  have hp : s1.pos.inTol = u.pos.inTol ∧ s1.pos.act = u.pos.act ∧ s1.pos.outTol = 0 ∧ s1.pos.spinupDue = none ∧
      s1.pos.spinMove = u.pos.spinMove ∧ s1.pos.lastBench = u.pos.lastBench := ⟨rfl, rfl, rfl, rfl, rfl, rfl⟩
  have hn : s1.NoneHears := h
  clear_value s1
  obtain ⟨hi, ha, ho, hd, hm, hl⟩ := hp
  have hn' : ((s1.setPos { s1.pos with spindle := .atSpeed }).tells ([.posChanged] ++ [.atSpeed])).NoneHears :=
    State.NoneHears.tells (s := s1.setPos _) hn (by simp)
  rw [← State.tells_tells] at hn'
  exact ⟨⟨⟨rfl, hi⟩, ha, hn'⟩, ho, hd, hm, hl⟩

/-- A revolution in tolerance below the fourth, and one out of it, in ACCELERATING and OFF_SPEED (R20, R21). -/
theorem judge_below {good : Bool} (h : u.NoneHears) (hs : u.pos.spindle = .accelerating ∨ u.pos.spindle = .offSpeed)
    (hi : good = true → u.pos.inTol < 3) :
    SpindleJudged u u.pos.spindle (if good then u.pos.inTol + 1 else 0) (u.judgeRevolution good) := by
  have hlt : ¬4 ≤ (u.runInTol good).pos.inTol := by
    show ¬4 ≤ if good then u.pos.inTol + 1 else 0
    split
    next k => have := hi k; omega
    next => omega
  have he : u.judgeRevolution good = u.runInTol good := by
    unfold State.judgeRevolution
    rcases hs with hs | hs <;> rw [hs] <;> exact if_neg hlt
  rw [he]
  exact ⟨⟨rfl, rfl⟩, rfl, h⟩

/-- The fourth revolution in tolerance ends the spin-up move (R20, R25). -/
theorem judge_spunUp (h : u.NoneHears) (hs : u.pos.spindle = .accelerating) (hi : 3 ≤ u.pos.inTol) :
    SpindleJudged u .atSpeed (u.pos.inTol + 1) (u.judgeRevolution true) ∧
      (u.judgeRevolution true).pos.spinupDue = none ∧ (u.judgeRevolution true).pos.spinMove = none ∧
      (u.judgeRevolution true).pos.lastBench = benchOutcome u.pos.lastBench u.pos.spinMove .spunUp := by
  obtain ⟨ms, hm, e⟩ := endSpinMove_eq (u.runInTol true) .spunUp
  have he : u.judgeRevolution true = ((u.runInTol true).endSpinMove .spunUp).arriveAtSpeed := by
    unfold State.judgeRevolution
    rw [hs]
    exact if_pos (show 4 ≤ u.pos.inTol + 1 by omega)
  rw [he, e]
  have hn : (((u.runInTol true).setPos ((u.runInTol true).pos.spinDone .spunUp)).tells ms).NoneHears :=
    State.NoneHears.tells (s := (u.runInTol true).setPos _) h hm.not_restTest
  obtain ⟨hj, -, hd, hsm, hl⟩ := arriveAtSpeed_facts hn
  exact ⟨⟨⟨hj.spindle.1, hj.spindle.2⟩, hj.act, hj.noneHears⟩, hd, hsm, hl⟩

/-- The fourth revolution in tolerance brings OFF_SPEED back to AT_SPEED (R21). -/
theorem judge_recovered (h : u.NoneHears) (hs : u.pos.spindle = .offSpeed) (hi : 3 ≤ u.pos.inTol) :
    SpindleJudged u .atSpeed (u.pos.inTol + 1) (u.judgeRevolution true) := by
  have he : u.judgeRevolution true = (u.runInTol true).arriveAtSpeed := by
    unfold State.judgeRevolution
    rw [hs]
    exact if_pos (show 4 ≤ u.pos.inTol + 1 by omega)
  obtain ⟨hj, -⟩ := arriveAtSpeed_facts (u := u.runInTol true) h
  rw [he]
  exact ⟨hj.spindle, hj.act, hj.noneHears⟩

/-- In AT_SPEED a revolution in tolerance, and the first out of it (R21). -/
theorem judge_kept {good : Bool} (h : u.NoneHears) (hs : u.pos.spindle = .atSpeed) (ho : good = true ∨ u.pos.outTol = 0) :
    SpindleJudged u .atSpeed u.pos.inTol (u.judgeRevolution good) ∧
      (u.judgeRevolution good).pos.outTol = if good then 0 else u.pos.outTol + 1 := by
  have he : u.judgeRevolution good = u.runOutTol good := by
    unfold State.judgeRevolution
    rw [hs]
    refine if_neg (show ¬2 ≤ if good then 0 else u.pos.outTol + 1 from ?_)
    rcases ho with rfl | ho
    · simp
    · split <;> omega
  rw [he]
  exact ⟨⟨⟨hs, rfl⟩, rfl, h⟩, rfl⟩

/-- In AT_SPEED the second revolution out of tolerance (R21). -/
theorem judge_lost (h : u.NoneHears) (hs : u.pos.spindle = .atSpeed) (ho : 1 ≤ u.pos.outTol)
    (hd : u.pos.act.isLoaded = false ∨ u.pos.spinDownPending = false) :
    OffSpeedArrived (u.runOutTol false) (u.judgeRevolution false) := by
  have he : u.judgeRevolution false = (u.runOutTol false).arriveOffSpeed := by
    unfold State.judgeRevolution
    rw [hs]
    exact if_pos (show 2 ≤ u.pos.outTol + 1 by omega)
  rw [he]
  exact arriveOffSpeed_arrived h hd

/-- In the other spindle states no revolution is judged. -/
theorem judge_other {good : Bool} (hs : u.pos.spindle = .stopped ∨ u.pos.spindle = .braking ∨ u.pos.spindle = .bench) :
    u.judgeRevolution good = u := by
  unfold State.judgeRevolution
  rcases hs with hs | hs | hs <;> rw [hs]

/-- A revolution in tolerance moves no head (R20, R21). -/
theorem judge_good_act (h : u.NoneHears) : (u.judgeRevolution true).NoneHears ∧ (u.judgeRevolution true).pos.act = u.pos.act := by
  have hb : u.pos.spindle = .accelerating ∨ u.pos.spindle = .offSpeed → u.pos.inTol < 3 →
      (u.judgeRevolution true).NoneHears ∧ (u.judgeRevolution true).pos.act = u.pos.act := fun hs hi =>
    have k := judge_below (good := true) h hs fun _ => hi
    ⟨k.noneHears, k.act⟩
  rcases Nat.lt_or_ge u.pos.inTol 3 with hi | hi <;> cases hs : u.pos.spindle
  case inl.accelerating => exact hb (.inl hs) hi
  case inl.offSpeed => exact hb (.inr hs) hi
  case inr.accelerating => exact ⟨(judge_spunUp h hs hi).1.noneHears, (judge_spunUp h hs hi).1.act⟩
  case inr.offSpeed => exact ⟨(judge_recovered h hs hi).noneHears, (judge_recovered h hs hi).act⟩
  case inl.atSpeed | inr.atSpeed =>
    obtain ⟨k, -⟩ := judge_kept (good := true) h hs (.inl rfl)
    exact ⟨k.noneHears, k.act⟩
  all_goals rw [judge_other (by simp [hs])]; exact ⟨h, rfl⟩

/-- Settles O14: the judged revolution decides (`judge_below` to `judge_other`), and what an index arrival does besides is seen
neither by the Positioner nor by the link. -/
theorem revolutionsMoveTheSpeedState : Obligations.RevolutionsMoveTheSpeedState := by
  intro s ref ticks hj hr
  refine ⟨_, exec_indexArrival s ticks, ?_⟩
  rw [indexTick_of_some hr]
  obtain ⟨u, hb, hju⟩ : ∃ u, BeforeJudging s u ∧
      (s.atTick (ref + ticks)).speedMonitor (ref + ticks) = u.judgeRevolution (s.revolutionGood ticks) := by
    obtain ⟨u, ⟨hs, ha, hm, hv, hn⟩, e⟩ := speedMonitor_judges (s := s.atTick (ref + ticks)) (ticks := ticks) hr
    exact ⟨u, ⟨hs, ha, hm, hv, hn⟩, e⟩
  obtain ⟨⟨hspin, hin, hout⟩, ⟨hact, hpend⟩, ⟨hmove, hlast⟩, hram, hn⟩ := hb
  have hu : u.NoneHears := hn (noneHears_noJobs hj)
  have hbes := takeIndex_beside (s := s) (ref + ticks)
  rw [hju] at hbes
  have hfin : (u.judgeRevolution (s.revolutionGood ticks)).NoneHears →
      (s.takeIndex (ref + ticks)).finish.pos = (u.judgeRevolution (s.revolutionGood ticks)).pos ∧
      (s.takeIndex (ref + ticks)).finish.blk.events = (u.judgeRevolution (s.revolutionGood ticks)).blk.events := fun k => by
    obtain ⟨x, w, e⟩ := (hbes.noneHears k).finish_eq
    rw [e, ← hbes.pos, ← hbes.blk]
    exact ⟨rfl, rfl⟩
  generalize (s.takeIndex (ref + ticks)).finish = t at hfin ⊢
  refine ⟨fun k => ?_, fun k => ?_, fun k => ?_⟩
  · rw [revolutionGood_iff.mpr k] at hfin
    refine ⟨?_, fun hs hi => ?_, fun hs hi => ?_, fun hs hi => ?_, fun hs => ?_⟩
    · obtain ⟨hn', ha⟩ := judge_good_act hu
      rw [(hfin hn').1, ha, hact]
    · obtain ⟨h, hd, hm, hl⟩ := judge_spunUp hu (hspin.trans hs) (by omega)
      rw [(hfin h.noneHears).1]
      refine ⟨h.spindle.1, by rw [h.spindle.2, hin], hd, hm, fun m hm ho => ?_⟩
      rw [hl, hmove, hm, benchOutcome_of_bench ho]
    · have h := judge_recovered hu (hspin.trans hs) (by omega)
      rw [(hfin h.noneHears).1]
      exact ⟨h.spindle.1, by rw [h.spindle.2, hin]⟩
    · have h := judge_below (good := true) hu (by rw [hspin]; exact hs) (fun _ => by omega)
      rw [(hfin h.noneHears).1]
      exact ⟨by rw [h.spindle.1, hspin], by rw [h.spindle.2, hin]; rfl⟩
    · obtain ⟨h, ho⟩ := judge_kept (good := true) hu (hspin.trans hs) (.inl rfl)
      rw [(hfin h.noneHears).1]
      exact ⟨h.spindle.1, ho⟩
  · rw [Bool.eq_false_iff.mpr (fun h => k (revolutionGood_iff.mp h))] at hfin
    refine ⟨fun hs => ?_, fun hs ho => ?_, fun hs ho hd => ?_⟩
    · have h := judge_below (good := false) hu (by rw [hspin]; exact hs) nofun
      rw [(hfin h.noneHears).1]
      exact ⟨by rw [h.spindle.1, hspin], h.spindle.2, by rw [h.act, hact]⟩
    · obtain ⟨h, ho'⟩ := judge_kept (good := false) hu (hspin.trans hs) (.inr (hout.trans ho))
      rw [(hfin h.noneHears).1]
      exact ⟨h.spindle.1, by rw [ho', hout, ho]; rfl, by rw [h.act, hact]⟩
    · have h := judge_lost hu (hspin.trans hs) (by omega) (by rw [hact, hpend]; exact hd)
      obtain ⟨hp, he⟩ := hfin h.noneHears
      rw [hp, he]
      refine ⟨h.spindle.1, h.spindle.2, h.motion, fun hl => ?_, fun hl => ?_⟩
      · obtain ⟨hc, ha⟩ := h.loaded (by show u.pos.act.isLoaded = true; rw [hact, hl])
        exact ⟨hc, ha.trans (by show (if u.rampView = _ then _ else _) = _; rw [hram])⟩
      · exact (h.unloaded (by show u.pos.act.isLoaded = false; rw [hact, hl])).trans hact
  · have he : u.judgeRevolution (s.revolutionGood ticks) = u := judge_other (by rw [hspin]; exact k)
    rw [he] at hfin
    rw [(hfin hu).1]
    exact ⟨hspin, hact⟩

end Sys2Proof.Machine
end

section
/-! PROOF. The manual motion requests: their answers, and what they leave (R26 to R28, R40). -/

namespace Sys2Proof.Machine

variable {s t : State}

/-! ## The answer to a motion request -/

/-- A motion request by its fields (R186). -/
def MotionRequest (k : RequestKind) (pl : List Byte) : Prop :=
  (k = .spinUp ∧ pl = []) ∨ (k = .spinDown ∧ pl = []) ∨ (k = .headsLoad ∧ pl = []) ∨ (k = .headsUnload ∧ pl = []) ∨
    (k = .seek ∧ pl.length = 6)

theorem MotionRequest.facts {k : RequestKind} {pl : List Byte} (h : MotionRequest k pl) :
    pl.length ≤ 240 ∧ (∀ n, k.fixedLength = some n → pl.length = n) ∧ k ≠ .restWrite ∧ k ≠ .benchReset ∧
      k.source = some .motionReq := by
  rcases h with ⟨rfl, rfl⟩ | ⟨rfl, rfl⟩ | ⟨rfl, rfl⟩ | ⟨rfl, rfl⟩ | ⟨rfl, hl⟩
  case inr.inr.inr.inr =>
    rw [hl]
    exact ⟨by decide, fun n hn => by cases hn; rfl, by decide, by decide, rfl⟩
  all_goals exact ⟨by decide, fits_nil rfl, by decide, by decide, rfl⟩

theorem reloadFor_motion {k : RequestKind} {pl : List Byte} (h : MotionRequest k pl) : s.reloadFor k = s.reload .motionReq := by
  unfold State.reloadFor
  rw [h.facts.2.2.2.2]

/-- A motion request that is refused (R26, R158). -/
theorem motion_refused {k : RequestKind} {pl : List Byte} {tag : Byte} {c : RefuseCode} {n : Nat} (hk : MotionRequest k pl)
    (h : s.LinkReady) (ha : ((s.reload .motionReq).openReply tag).handle k pl =
      (.refuse { code := c, detail := n }, (s.reload .motionReq).openReply tag)) :
    request k.code tag pl s = .next ((s.reload .motionReq).refuses tag c n) := by
  obtain ⟨hp, hl, hrest, hreset, -⟩ := hk.facts
  rw [request_kept h hp hl hrest (by rw [reloadFor_motion hk]; exact ha), reloadFor_motion hk, isResetAck_of_ne hreset]
  rfl

/-- The state at the end of a motion request that ends with Positioner `p`, window `w`, engine selection `n` and Sector Decoder
`d`, but for its reply (R26). -/
def State.takenBy (s : State) (p : Pos) (w : Option Window) (n : Nat) (d : Sdc) : State :=
  ((((s.reload .motionReq).setPos p).setWindow w).setFlc { s.flc with engineHead := n }).setSdc d

@[simp] theorem takenBy_pos (p : Pos) (w : Option Window) (n : Nat) (d : Sdc) : (s.takenBy p w n d).pos = p := rfl
@[simp] theorem takenBy_window (p : Pos) (w : Option Window) (n : Nat) (d : Sdc) : (s.takenBy p w n d).window = w := rfl
@[simp] theorem takenBy_sdc (p : Pos) (w : Option Window) (n : Nat) (d : Sdc) : (s.takenBy p w n d).sdc = d := rfl

/-- What a motion request leaves but for Positioner, window, selection and decoder. -/
theorem takenBy_kept (p : Pos) (w : Option Window) (n : Nat) (d : Sdc) : (s.takenBy p w n d).now = s.now ∧
    (s.takenBy p w n d).blk = s.blk ∧ (s.takenBy p w n d).jct = s.jct ∧ (s.takenBy p w n d).inbox = s.inbox ∧
    (s.takenBy p w n d).chm = s.chm ∧ (s.takenBy p w n d).pst = s.pst ∧ (s.takenBy p w n d).hmp = s.hmp ∧
    (s.takenBy p w n d).gcu = s.gcu ∧ (s.takenBy p w n d).rtm = (s.reload .motionReq).rtm ∧
    (s.takenBy p w n d).flc = { s.flc with engineHead := n } ∧ (s.takenBy p w n d).free = s.free ∧
    (s.takenBy p w n d).pending = s.pending := by
  obtain ⟨r, e⟩ := reload_eq s .motionReq
  unfold State.takenBy
  rw [e]
  exact ⟨rfl, rfl, rfl, rfl, rfl, rfl, rfl, rfl, rfl, rfl, rfl, rfl⟩

/-- What the state `t` after a motion request is, its reply in transmission: Positioner `p`, window `w`, Sector Decoder `d`. -/
structure Answered (s : State) (tag : Byte) (deferred clamped : Bool) (p : Pos) (w : Option Window) (d : Sdc) (t : State) :
    Prop where
  taken : MotionTaken s tag deferred clamped t
  pos : t.pos = p
  window : t.window = w
  sdc : t.sdc = d
  events : t.blk.events = s.blk.events

/-- A motion request that the Positioner takes (R26). -/
theorem motion_answered {k : RequestKind} {pl : List Byte} {tag : Byte} {df cl : Bool} {p : Pos} {w : Option Window} {n : Nat}
    {d : Sdc} {ms : List JctMsg} (hk : MotionRequest k pl) (h : s.LinkReady) (hr : s.running = none) (hm : ForJob ms)
    (hp : p.period = s.pos.period ∧ p.indexRef = s.pos.indexRef) (hd : d.counters = s.sdc.counters)
    (ha : ((s.reload .motionReq).openReply tag).handle k pl =
      (.ack ((s.takenBy p w n d).motionAck df cl), ((s.takenBy p w n d).openReply tag).tells ms)) :
    ∃ t, request k.code tag pl s = .next t ∧ Answered s tag df cl p w d t := by
  obtain ⟨hlen, hl, hrest, hreset, -⟩ := hk.facts
  obtain ⟨hnow, hblk, hjct, hin, hchm, hpst, hhmp, hgcu, hrtm, hflc, hfree, hpend⟩ := takenBy_kept (s := s) p w n d
  have htab : (s.takenBy p w n d).rtm.table = s.rtm.table := by rw [hrtm]; exact reload_table s .motionReq
  have hpos := takenBy_pos (s := s) p w n d
  have hwin := takenBy_window (s := s) p w n d
  have hsdc := takenBy_sdc (s := s) p w n d
  generalize s.takenBy p w n d = v at *
  have hreq := request_taken (v := v) h hlen hl hrest (by rw [reloadFor_motion hk]; exact ha) (by rw [hblk]; exact h.waiting)
    (by rw [hblk]; exact h.sending) (by rw [hin]; exact h.inbox)
    (.inr ⟨by unfold State.running State.active; rw [hjct]; exact hr, hm⟩)
  rw [isResetAck_of_ne hreset] at hreq
  refine ⟨_, hreq, ⟨⟨hnow, hchm, hpst, hfree, hpend, ?_, ?_, ?_, ?_, ?_, ?_, htab, ?_, ?_, ?_, ?_, ?_, ?_⟩, hrtm,
    ⟨hjct, hhmp, hgcu⟩, ?_⟩, hpos, hwin, hsdc, ?_⟩
  · show v.pos.period = _; rw [hpos]; exact hp.1
  · show v.pos.indexRef = _; rw [hpos]; exact hp.2
  · show v.sdc.counters = _; rw [hsdc]; exact hd
  · show v.flc = { s.flc with engineHead := v.flc.engineHead }; rw [hflc]
  · show v.hmp.published = _; rw [hhmp]
  · show v.hmp.gen = _; rw [hhmp]
  · show v.blk.asm = _; rw [hblk]
  · show v.blk.buffer = _; rw [hblk]
  · show v.blk.counters = _; rw [hblk]
  · show v.blk.lastFault = _; rw [hblk]
  · show v.blk.mask = _; rw [hblk]
  · show ∀ x, _ → v.blk.events.has x = true; rw [hblk]; exact fun _ => id
  · rw [← hnow]; cases df <;> cases cl <;> rfl
  · show v.blk.events = _; rw [hblk]

/-- A motion request that the Positioner takes as one motion (R26). -/
theorem motion_moved {k : RequestKind} {pl : List Byte} {tag : Byte} {df cl : Bool} {p : Pos} {w : Option Window}
    (hk : MotionRequest k pl) (h : s.LinkReady) (hr : s.running = none)
    (hm : Moved ((s.reload .motionReq).openReply tag) p w t)
    (hp : p.period = s.pos.period ∧ p.indexRef = s.pos.indexRef)
    (ha : ((s.reload .motionReq).openReply tag).handle k pl = (.ack (t.motionAck df cl), t)) :
    ∃ t d, request k.code tag pl s = .next t ∧ Answered s tag df cl p w d t ∧ d.counters = s.sdc.counters ∧
      (w = s.window → d = s.sdc) := by
  obtain ⟨n, m, ms, hms, hk', rfl⟩ := hm
  obtain ⟨r, e⟩ := reload_eq s .motionReq
  have hv : (((s.reload .motionReq).openReply tag).moved p w n m) = (s.takenBy p w n { s.sdc with marker := m }).openReply tag := by
    unfold State.takenBy
    rw [e]
    rfl
  rw [hv] at ha
  obtain ⟨t, ht, hans⟩ := motion_answered (d := { s.sdc with marker := m }) hk h hr hms hp rfl ha
  refine ⟨t, _, ht, hans, rfl, fun hw => ?_⟩
  obtain ⟨-, hmark⟩ := hk' (by rw [e]; exact hw)
  rw [hmark, e]
  rfl

/-! ## Requests that a RUNNING job turns away (R26) -/

/-- Past the BUSY gate (R26). -/
theorem motionGate_of_none (h : s.running = none) : s.motionGate = none := by
  unfold State.motionGate
  rw [h]
  rfl

/-- With a job RUNNING every motion request is refused BUSY (R26). -/
theorem handle_busy {k : RequestKind} {pl : List Byte} {j : Job} (hk : MotionRequest k pl) (h : s.running = some j) :
    s.handle k pl = (.refuse { code := .busy, detail := j.id }, s) := by
  have hg : s.motionGate = some { code := .busy, detail := j.id } := by
    unfold State.motionGate
    rw [h]
    rfl
  rcases hk with ⟨rfl, -⟩ | ⟨rfl, -⟩ | ⟨rfl, -⟩ | ⟨rfl, -⟩ | ⟨rfl, -⟩
  · show s.reqSpinUp = _; unfold State.reqSpinUp; rw [hg]
  · show s.reqSpinDown = _; unfold State.reqSpinDown; rw [hg]
  · show s.reqHeadsLoad = _; unfold State.reqHeadsLoad; rw [hg]
  · show s.reqHeadsUnload = _; unfold State.reqHeadsUnload; rw [hg]
  · show s.reqSeek _ _ = _; unfold State.reqSeek; rw [hg]

theorem seekPayload_length (track : Quad) (offset : Half) : (seekPayload track offset).length = 6 := by
  unfold seekPayload
  rw [List.length_append, leBytes_length, leBytes_length]

/-- Settles O30: each request is turned away at its gate (`handle_busy`). -/
theorem runningJobTurnsMotionRequestsAway : Obligations.RunningJobTurnsMotionRequestsAway := by
  intro s j tag track offset h hr
  have hturned : ∀ k pl, MotionRequest k pl → request k.code tag pl s = .next ((s.reload .motionReq).refuses tag .busy j.id) :=
    fun k pl hk => motion_refused hk h (handle_busy hk (by obtain ⟨r, e⟩ := reload_eq s .motionReq; rw [e]; exact hr))
  exact ⟨hturned .spinUp [] (.inl ⟨rfl, rfl⟩), hturned .spinDown [] (.inr (.inl ⟨rfl, rfl⟩)),
    hturned .headsLoad [] (.inr (.inr (.inl ⟨rfl, rfl⟩))), hturned .headsUnload [] (.inr (.inr (.inr (.inl ⟨rfl, rfl⟩)))),
    hturned .seek (seekPayload track offset) (.inr (.inr (.inr (.inr ⟨rfl, seekPayload_length _ _⟩))))⟩

end Sys2Proof.Machine
end

section
/-! PROOF. SPIN_UP, SPIN_DOWN and HEADS_UNLOAD (R20, R22, R27, R28, R38 to R40). -/

namespace Sys2Proof.Machine

variable {s t : State}

/-! ## What stands when a request is taken -/

/-- The Positioner takes a request from the state that it stood in, its reply open. -/
theorem openReply_reload (tag : Byte) : ∃ r, (s.reload .motionReq).openReply tag = (s.setRtm r).openReply tag := by
  obtain ⟨r, e⟩ := reload_eq s .motionReq
  exact ⟨r, by rw [e]⟩

/-- A motion request that changes nothing. -/
theorem Moved.refl (s : State) : Moved s s.pos s.window s := by
  have h := Moved.pos s (ms := []) s.pos .nil
  rw [State.tells_nil] at h
  exact h

/-! ## SPIN_UP (R27) -/

/-- The Positioner that accelerates, its limit at tick `due` (R20). -/
def Pos.spinningUp (p : Pos) (due : Nat) (o : Owner) : Pos :=
  { p with
    inTol := 0, spinupDue := some due, quietDue := none, spinMove := some { kind := .spinUp, owner := o }
    spindle := .accelerating }

theorem takeSpinUp_stopped (h : s.pos.spindle = .stopped) (o : Owner) : s.takeSpinUp o =
    .ok ((s.setPos (s.pos.spinningUp (s.now + s.prof.spinupMs * 200000) o)).tells [.posChanged]) := by
  unfold State.takeSpinUp
  rw [h]
  rfl

/-- SPIN_UP that is taken (R26, R27). -/
theorem spinUp_taken {u : State} {tag : Byte} {p : Pos} {w : Option Window} (h : s.LinkReady) (hr : s.running = none)
    (hu : (s.reload .motionReq).openReply tag = u) (hm : Moved u p w t) (ht : u.takeSpinUp .bench = .ok t)
    (hp : p.period = s.pos.period ∧ p.indexRef = s.pos.indexRef) :
    ∃ t d, exec (.spinUp tag) s = .next t ∧ Answered s tag false false p w d t ∧ d.counters = s.sdc.counters ∧
      (w = s.window → d = s.sdc) := by
  subst hu
  refine motion_moved (k := .spinUp) (.inl ⟨rfl, rfl⟩) h hr hm hp ?_
  show State.reqSpinUp _ = _
  unfold State.reqSpinUp
  obtain ⟨r, e⟩ := openReply_reload (s := s) tag
  rw [motionGate_of_none (by rw [e]; exact hr), ht]
  rfl

theorem spinUp_refused {tag : Byte} {c : RefuseCode} (h : s.LinkReady) (hr : s.running = none)
    (ht : ((s.reload .motionReq).openReply tag).takeSpinUp .bench = .error { code := c }) :
    exec (.spinUp tag) s = .next ((s.reload .motionReq).refuses tag c 0) := by
  refine motion_refused (k := .spinUp) (.inl ⟨rfl, rfl⟩) h ?_
  show State.reqSpinUp _ = _
  unfold State.reqSpinUp
  obtain ⟨r, e⟩ := openReply_reload (s := s) tag
  rw [motionGate_of_none (by rw [e]; exact hr), ht]
  rfl

/-- Settles O25: the spindle state decides (R27). -/
theorem spinUpFollowsTheSpindleState : Obligations.SpinUpFollowsTheSpindleState := by
  intro s tag h ⟨hr, _⟩
  obtain ⟨r, e⟩ := openReply_reload (s := s) tag
  generalize hu : (s.reload .motionReq).openReply tag = u at e
  have hpos : u.pos = s.pos := by rw [e]; rfl
  have hwin : u.window = s.window := by rw [e]; rfl
  have htick : u.now + u.prof.spinupMs * 200000 = s.now + s.prof.spinupMs * 200000 := by rw [e]; rfl
  refine ⟨fun hs => ?_, fun hs => ?_, fun hs => ⟨fun hd => ?_, fun hd => ?_⟩, fun hs => ?_, fun hs => ?_⟩
  · have ht := takeSpinUp_stopped (s := u) (by rw [hpos]; exact hs) .bench
    rw [htick, hpos] at ht
    have hm := Moved.pos u (s.pos.spinningUp (s.now + s.prof.spinupMs * 200000) .bench) .posChanged
    obtain ⟨t, d, hx, ha, -, hd⟩ := spinUp_taken (tag := tag) h hr hu hm ht ⟨rfl, rfl⟩
    refine ⟨t, hx, ha.taken, ?_, ?_, ?_, ?_, ?_, ?_, ha.sdc.trans (hd hwin), ha.window.trans hwin⟩ <;> rw [ha.pos] <;> rfl
  · have ht : u.takeSpinUp .bench = .ok (u.setPos { s.pos with spinMove := some { kind := .spinUp, owner := .bench } }) := by
      unfold State.takeSpinUp
      rw [hpos, hs]
    have hm := Moved.pos u (ms := []) { s.pos with spinMove := some { kind := .spinUp, owner := .bench } } .nil
    rw [State.tells_nil] at hm
    obtain ⟨t, d, hx, ha, -, hd⟩ := spinUp_taken (tag := tag) h hr hu hm ht ⟨rfl, rfl⟩
    exact ⟨t, hx, ha.taken, ha.pos, ha.sdc.trans (hd hwin), ha.window.trans hwin⟩
  · have ht : u.takeSpinUp .bench = .ok u := by
      unfold State.takeSpinUp
      rcases hs with hs | hs <;> rw [hpos, hs] <;> exact if_neg (by rw [hd]; decide)
    obtain ⟨t, d, hx, ha, -, hd⟩ := spinUp_taken (tag := tag) h hr hu (.refl u) ht (by rw [hpos]; exact ⟨rfl, rfl⟩)
    exact ⟨t, hx, ha.taken, ha.pos.trans hpos, ha.sdc.trans (hd hwin), ha.window.trans hwin⟩
  · obtain ⟨ms, hms, e'⟩ := endSpinMove_eq (u.setPos { s.pos with spinDownPending := false }) (.interrupted .spinUp)
    have ht : u.takeSpinUp .bench = .ok ((u.setPos (({ s.pos with spinDownPending := false } : Pos).spinDone
        (.interrupted .spinUp))).tells ms) := by
      unfold State.takeSpinUp
      rcases hs with hs | hs <;> rw [hpos, hs] <;> dsimp only <;> rw [if_pos hd, e'] <;> rfl
    obtain ⟨t, d, hx, ha, -, hd⟩ := spinUp_taken (tag := tag) h hr hu (.pos u _ hms) ht ⟨rfl, rfl⟩
    exact ⟨t, hx, ha.taken, ha.pos, ha.sdc.trans (hd hwin), ha.window.trans hwin⟩
  · refine spinUp_refused h hr ?_
    unfold State.takeSpinUp
    rw [hu, hpos, hs]
  · refine spinUp_refused h hr ?_
    unfold State.takeSpinUp
    rw [hu, hpos, hs]

/-! ## Unloads that the bench demands (R38, R39) -/

/-- An unload demanded by the bench with the heads off the ramp is one motion (R38). -/
theorem beginUnload_bench_moved (hr : s.running = none) (hl : s.pos.act.isLoaded = true) (hv : s.rampView = .offRamp) :
    Moved s (s.pos.unloadBegunBy .bench (s.now + s.prof.unloadMs * 200000)) (s.windowAt .unloading) (s.beginUnload .bench) := by
  obtain ⟨t, hm, e⟩ := beginUnload_moved s hr hl .bench
  have hb : t.setBlk (s.blk.unloadBegunBy .bench) = t := by
    show t.setBlk s.blk = t
    rw [← hm.blk]
    rfl
  rw [e, hb, if_neg (by rw [hv]; decide)]
  exact hm

/-- On the ramp it ends at once in PARKED (R39). -/
theorem beginUnload_bench_onRamp (hr : s.running = none) (hl : s.pos.act.isLoaded = true) (hv : s.rampView = .onRamp) :
    ∃ n d ms, ForJob ms ∧ d.counters = s.sdc.counters ∧ d.slotDue = none ∧ d.expect = none ∧ s.beginUnload .bench =
      (((s.moved ((s.pos.unloadBegunBy .bench (s.now + s.prof.unloadMs * 200000)).parked false s.now) (s.windowAt .unloading) n
        s.sdc.marker).setSdc d).tells ms) := by
  obtain ⟨t, ⟨n, m, ms, hms, -, rfl⟩, e⟩ := beginUnload_moved s hr hl .bench
  have ha : (s.pos.unloadBegunBy .bench (s.now + s.prof.unloadMs * 200000)).act = .unloading := rfl
  generalize s.pos.unloadBegunBy .bench (s.now + s.prof.unloadMs * 200000) = p at e ha ⊢
  have hb : ((s.moved p (s.windowAt .unloading) n m).tells ms).setBlk (s.blk.unloadBegunBy .bench) =
      (s.moved p (s.windowAt .unloading) n m).tells ms := rfl
  obtain ⟨ks, hks, e'⟩ := arrivePark_eq ((s.moved p (s.windowAt .unloading) n m).tells ms) false ha
  rw [hb, if_pos hv, e'] at e
  refine ⟨n, s.sdc.stopped, ms ++ ks, hms.append hks, rfl, rfl, rfl, ?_⟩
  rw [e, ← State.tells_tells]
  rfl

/-- The answer to a motion request that unloads the heads says that the unload has begun (R38). -/
theorem Answered.unloadBegun {tag : Byte} {p : Pos} {d : Sdc} (h : Answered s tag false false
      (p.unloadBegunBy .bench (s.now + s.prof.unloadMs * 200000)) (s.windowAt .unloading) d t) (ha : p.act = s.pos.act)
    (hk : p.spindle = s.pos.spindle ∧ p.target = s.pos.target ∧ p.offset = s.pos.offset ∧ p.lastPark = s.pos.lastPark) :
    UnloadBegun s .bench t :=
  have hw : (s.setPos p).windowAt .unloading = s.windowAt .unloading := by
    unfold State.windowAt
    rw [State.setPos_pos, ha]
    rfl
  (unloadBegun_of (s.setPos p) h.taken.frame.now h.pos (h.window.trans hw.symm) h.events h.taken.frame.chm
    h.taken.frame.pst h.taken.frame.counts h.taken.others.2.1).congr rfl ha hk rfl rfl rfl rfl

/-! ## SPIN_DOWN (R28) -/

/-- SPIN_DOWN that is taken (R26, R28). -/
theorem spinDown_taken {u : State} {tag : Byte} {p : Pos} {w : Option Window} (h : s.LinkReady) (hr : s.running = none)
    (hu : (s.reload .motionReq).openReply tag = u) (hm : Moved u p w t) (ht : u.takeSpinDown .bench = .ok t)
    (hp : p.period = s.pos.period ∧ p.indexRef = s.pos.indexRef) :
    ∃ t d, exec (.spinDown tag) s = .next t ∧ Answered s tag false false p w d t ∧ d.counters = s.sdc.counters ∧
      (w = s.window → d = s.sdc) := by
  subst hu
  refine motion_moved (k := .spinDown) (.inr (.inl ⟨rfl, rfl⟩)) h hr hm hp ?_
  show State.reqSpinDown _ = _
  unfold State.reqSpinDown
  obtain ⟨r, e⟩ := openReply_reload (s := s) tag
  rw [motionGate_of_none (by rw [e]; exact hr), ht]
  rfl

/-- The Positioner with a spin-down move of the bench in flight (R28). -/
def Pos.spinningDown (p : Pos) (pending : Bool) : Pos :=
  { p with spinDownPending := pending, spinMove := some { kind := .spinDown, owner := .bench } }

/-- A spin-down of the bench that brakes at once (R22, R28). -/
theorem brake_moved (o : MoveOutcome) : Moved s ((s.pos.spinDone o).spinningDown false |>.braked s.now) s.window
    (((s.endSpinMove o).newSpinDown .bench).brake) := by
  obtain ⟨ms, hms, e⟩ := endSpinMove_eq s o
  have hb : ((s.setPos (s.pos.spinDone o)).newSpinDown .bench).brake =
      (s.setPos (((s.pos.spinDone o).spinningDown false).braked s.now)).tells [.posChanged] := rfl
  have ht : ((s.endSpinMove o).newSpinDown .bench).brake =
      (s.setPos (((s.pos.spinDone o).spinningDown false).braked s.now)).tells (ms ++ [.posChanged]) := by
    rw [e, ← State.tells_tells]
    rfl
  rw [ht]
  exact .pos s _ (hms.append .posChanged)

/-- A spin-down with the heads off the ramp unloads them first (R28). -/
theorem takeSpinDown_moving (hs : s.pos.spindle = .atSpeed ∨ s.pos.spindle = .offSpeed) (hp : s.pos.act ≠ .parked) :
    s.takeSpinDown .bench = .ok ((s.setPos (s.pos.spinningDown true)).beginUnload .bench) := by
  have hset : (s.newSpinDown .bench).setPos { (s.newSpinDown .bench).pos with spinDownPending := true } =
      s.setPos (s.pos.spinningDown true) := rfl
  unfold State.takeSpinDown
  rcases hs with hs | hs <;> rw [hs] <;> dsimp only <;> rw [if_neg hp, hset]

/-- A spin-down in PARKED brakes at once (R28). -/
theorem takeSpinDown_parked (hs : s.pos.spindle = .atSpeed ∨ s.pos.spindle = .offSpeed) (hp : s.pos.act = .parked) :
    s.takeSpinDown .bench = .ok ((s.setPos ((s.pos.spinningDown false).braked s.now)).tells [.posChanged]) := by
  have hset : (s.newSpinDown .bench).brake = (s.setPos ((s.pos.spinningDown false).braked s.now)).tells [.posChanged] := rfl
  unfold State.takeSpinDown
  rcases hs with hs | hs <;> rw [hs] <;> dsimp only <;> rw [if_pos hp, hset]

/-- Settles O26: the rows of R28, at a standstill, braking at once, or unloading first (`beginUnload_bench_moved`). -/
theorem spinDownFollowsSpindleAndActuator : Obligations.SpinDownFollowsSpindleAndActuator := by
  intro s tag h ⟨hr, _⟩
  obtain ⟨r, e⟩ := openReply_reload (s := s) tag
  generalize hu : (s.reload .motionReq).openReply tag = u at e
  have hpos : u.pos = s.pos := by rw [e]; rfl
  have hnow : u.now = s.now := by rw [e]; rfl
  have hwin : u.window = s.window := by rw [e]; rfl
  have hkeep : ∀ p : Pos, Moved u p u.window (u.setPos p) := fun p => by
    have hm := Moved.pos u (ms := []) p .nil
    rw [State.tells_nil] at hm
    exact hm
  refine ⟨fun hs _ => ?_, fun hs _ => ?_, fun hs ha => ?_, fun hs => ⟨fun ha => ?_, fun hl hv => ?_, fun ha => ?_⟩, fun hs _ => ?_⟩
  · have ht : u.takeSpinDown .bench = .ok u := by unfold State.takeSpinDown; rw [hpos, hs]
    obtain ⟨t, d, hx, ha, -, hd⟩ := spinDown_taken (tag := tag) h hr hu (.refl u) ht (by rw [hpos]; exact ⟨rfl, rfl⟩)
    exact ⟨t, hx, ha.taken, ha.pos.trans hpos, ha.sdc.trans (hd hwin)⟩
  · have ht : u.takeSpinDown .bench = .ok (u.setPos { s.pos with spinMove := some { kind := .spinDown, owner := .bench } }) := by
      unfold State.takeSpinDown State.newSpinDown
      rw [hpos, hs]
    obtain ⟨t, d, hx, ha, -, hd⟩ := spinDown_taken (tag := tag) h hr hu (hkeep _) ht ⟨rfl, rfl⟩
    exact ⟨t, hx, ha.taken, ha.pos, ha.sdc.trans (hd hwin)⟩
  · have ht : u.takeSpinDown .bench = .ok (((u.endSpinMove (.interrupted .spinDown)).newSpinDown .bench).brake) := by
      unfold State.takeSpinDown
      rw [hpos, hs]
    have hm := brake_moved (s := u) (.interrupted .spinDown)
    rw [hpos, hnow] at hm
    obtain ⟨t, d, hx, hans, -, hd⟩ := spinDown_taken (tag := tag) h hr hu hm ht ⟨rfl, rfl⟩
    refine ⟨t, hx, hans.taken, ?_, ?_, ?_, ?_, ?_, ?_, hans.sdc.trans (hd hwin)⟩ <;> rw [hans.pos]
    exacts [rfl, rfl, rfl, rfl, rfl, ha]
  · have ht : u.takeSpinDown .bench = .ok ((u.setPos ((s.pos.spinningDown false).braked s.now)).tells [.posChanged]) := by
      rw [takeSpinDown_parked (by rw [hpos]; exact hs) (by rw [hpos]; exact ha), hpos, hnow]
    obtain ⟨t, d, hx, hans, -, hd⟩ := spinDown_taken (tag := tag) h hr hu (.pos u _ .posChanged) ht ⟨rfl, rfl⟩
    refine ⟨t, hx, hans.taken, ?_, ?_, ?_, ?_, hans.sdc.trans (hd hwin)⟩ <;> rw [hans.pos]
    exacts [rfl, rfl, rfl, ha]
  · have hp : s.pos.act ≠ .parked := fun k => by rw [k] at hl; cases hl
    have ht : u.takeSpinDown .bench = .ok ((u.setPos (s.pos.spinningDown true)).beginUnload .bench) := by
      rw [takeSpinDown_moving (by rw [hpos]; exact hs) (by rw [hpos]; exact hp), hpos]
    have hm := (hkeep (s.pos.spinningDown true)).trans (beginUnload_bench_moved (s := u.setPos (s.pos.spinningDown true))
      (by rw [e]; exact hr) hl (by rw [e]; exact hv)) fun k => k.symm
    rw [show ∀ c, (u.setPos (s.pos.spinningDown true)).windowAt c = s.windowAt c by rw [e]; exact fun _ => rfl,
      show (u.setPos (s.pos.spinningDown true)).now + (u.setPos (s.pos.spinningDown true)).prof.unloadMs * 200000 =
        s.now + s.prof.unloadMs * 200000 by rw [e]; rfl] at hm
    obtain ⟨t, d, hx, hans, -, -⟩ := spinDown_taken (tag := tag) h hr hu hm ht (by simp [Pos.spinningDown])
    exact ⟨t, hx, hans.taken, hans.unloadBegun rfl ⟨rfl, rfl, rfl, rfl⟩,
      by rw [hans.pos, Pos.unloadBegunBy_spinDownPending]; rfl, by rw [hans.pos]; rfl⟩
  · have ht : u.takeSpinDown .bench = .ok (u.setPos (s.pos.spinningDown true)) := by
      have hun : (u.setPos (s.pos.spinningDown true)).beginUnload .bench = u.setPos (s.pos.spinningDown true) := by
        unfold State.beginUnload
        exact if_neg (by show ¬s.pos.act.isLoaded = true; rw [ha]; decide)
      rw [takeSpinDown_moving (by rw [hpos]; exact hs) (by rw [hpos, ha]; decide), hpos, hun]
    obtain ⟨t, d, hx, hans, -, hd⟩ := spinDown_taken (tag := tag) h hr hu (hkeep _) ht ⟨rfl, rfl⟩
    exact ⟨t, hx, hans.taken, hans.pos, hans.sdc.trans (hd hwin)⟩
  · refine motion_refused (k := .spinDown) (.inr (.inl ⟨rfl, rfl⟩)) h ?_
    show State.reqSpinDown _ = _
    unfold State.reqSpinDown State.takeSpinDown
    rw [hu, motionGate_of_none (by rw [e]; exact hr), hpos, hs]
    rfl

/-! ## HEADS_UNLOAD (R40) -/

/-- HEADS_UNLOAD past the BUSY gate (R26, R40). -/
theorem handle_headsUnload (h : s.running = none) :
    s.handle .headsUnload [] = (.ack ((s.beginUnload .bench).motionAck false false), s.beginUnload .bench) := by
  show s.reqHeadsUnload = _
  unfold State.reqHeadsUnload
  rw [motionGate_of_none h]
  rfl

/-- An unload of the bench that has ended at rest (R25, R39). -/
theorem Pos.rested_of_bench {p : Pos} (hm : p.actMove = some { kind := .unload, owner := .bench }) (hc : p.unloadCause = .bench) :
    (p.rested false).deadline = none ∧ (p.rested false).actMove = none ∧ (p.rested false).lastPark = some (.bench, false) ∧
      (p.rested false).lastBench = some (.unload, .parked) ∧ (p.rested false).period = p.period ∧
      (p.rested false).indexRef = p.indexRef := by
  refine ⟨rfl, rfl, ?_, ?_, rfl, rfl⟩
  · show some (p.unloadCause, false) = _; rw [hc]
  · show benchOutcome p.lastBench p.actMove .parked = _; rw [hm, benchOutcome_of_bench rfl]

/-- Settles O28: the unload off the ramp, its end on the ramp, and the demand that changes nothing. -/
theorem headsUnloadUnloadsOrChangesNothing : Obligations.HeadsUnloadUnloadsOrChangesNothing := by
  intro s tag h ⟨hr, _⟩
  have hk : MotionRequest .headsUnload [] := .inr (.inr (.inr (.inl ⟨rfl, rfl⟩)))
  obtain ⟨r, e⟩ := openReply_reload (s := s) tag
  have hrun : ((s.reload .motionReq).openReply tag).running = none := by rw [e]; exact hr
  have ha := handle_headsUnload hrun
  refine ⟨fun hl hv => ?_, fun hl hv hd => ?_, fun hl => ?_⟩
  · have hm := beginUnload_bench_moved hrun (by rw [e]; exact hl) (by rw [e]; exact hv)
    rw [show ((s.reload .motionReq).openReply tag).pos = s.pos by rw [e]; rfl,
      show ∀ c, ((s.reload .motionReq).openReply tag).windowAt c = s.windowAt c by rw [e]; exact fun _ => rfl,
      show ((s.reload .motionReq).openReply tag).now + ((s.reload .motionReq).openReply tag).prof.unloadMs * 200000 =
        s.now + s.prof.unloadMs * 200000 by rw [e]; rfl] at hm
    obtain ⟨t, d, hx, hans, -, -⟩ := motion_moved hk h hr hm (by simp) ha
    exact ⟨t, hx, hans.taken, hans.unloadBegun rfl ⟨rfl, rfl, rfl, rfl⟩, by rw [hans.pos, Pos.unloadBegunBy_spinDownPending]⟩
  · obtain ⟨n, d, ms, hms, hcount, hslot, hexpect, hun⟩ := beginUnload_bench_onRamp hrun (by rw [e]; exact hl) (by rw [e]; exact hv)
    have hp : ((s.pos.unloadBegunBy .bench (s.now + s.prof.unloadMs * 200000)).parked false s.now) =
        (s.pos.unloadBegunBy .bench (s.now + s.prof.unloadMs * 200000)).rested false :=
      if_neg (by rw [Pos.unloadBegunBy_spinDownPending, hd]; decide)
    rw [show ((s.reload .motionReq).openReply tag).pos = s.pos by rw [e]; rfl,
      show ∀ c, ((s.reload .motionReq).openReply tag).windowAt c = s.windowAt c by rw [e]; exact fun _ => rfl,
      show ((s.reload .motionReq).openReply tag).now + ((s.reload .motionReq).openReply tag).prof.unloadMs * 200000 =
        s.now + s.prof.unloadMs * 200000 by rw [e]; rfl,
      show ((s.reload .motionReq).openReply tag).now = s.now by rw [e]; rfl, hp] at hun
    obtain ⟨hdl, hmv, hpark, hlast, hper, href⟩ :=
      Pos.rested_of_bench (p := s.pos.unloadBegunBy .bench (s.now + s.prof.unloadMs * 200000)) rfl rfl
    obtain ⟨hact, hspin, -⟩ := (s.pos.unloadBegunBy .bench (s.now + s.prof.unloadMs * 200000)).rested_kept false
    generalize (s.pos.unloadBegunBy .bench (s.now + s.prof.unloadMs * 200000)).rested false = q at *
    have hv' : (((s.reload .motionReq).openReply tag).moved q (s.windowAt .unloading) n
        ((s.reload .motionReq).openReply tag).sdc.marker).setSdc d = (s.takenBy q (s.windowAt .unloading) n d).openReply tag := by
      unfold State.takenBy
      obtain ⟨r', e'⟩ := reload_eq s .motionReq
      rw [e']
      rfl
    rw [hun, hv'] at ha
    obtain ⟨t, hx, hans⟩ := motion_answered hk h hr hms
      ⟨hper.trans (Pos.unloadBegunBy_period _ _ _), href.trans (Pos.unloadBegunBy_indexRef _ _ _)⟩ (by rw [hcount, e]; rfl) ha
    exact ⟨t, hx, hans.taken, by rw [hans.pos, hact], by rw [hans.pos, hdl], by rw [hans.pos, hmv], by rw [hans.pos, hpark],
      by rw [hans.pos, hlast], by rw [hans.pos, hspin, Pos.unloadBegunBy_spindle], by rw [hans.sdc, hslot],
      by rw [hans.sdc, hexpect]⟩
  · have hun : ((s.reload .motionReq).openReply tag).beginUnload .bench = (s.reload .motionReq).openReply tag := by
      unfold State.beginUnload
      exact if_neg (by rw [e]; show ¬s.pos.act.isLoaded = true; rw [hl]; decide)
    rw [hun] at ha
    have hm := Moved.refl ((s.reload .motionReq).openReply tag)
    obtain ⟨t, d, hx, hans, -, hd⟩ := motion_moved hk h hr hm (by rw [e]; exact ⟨rfl, rfl⟩) ha
    have hwin : ((s.reload .motionReq).openReply tag).window = s.window := by rw [e]; rfl
    exact ⟨t, hx, hans.taken, hans.pos.trans (by rw [e]; rfl), hans.sdc.trans (hd hwin), hans.window.trans hwin⟩

end Sys2Proof.Machine
end

section
/-! PROOF. Seeks started, held, redirected and released (R32, R33, R35, R36, R150), and the HOT count (R153). -/

namespace Sys2Proof.Machine

variable {s t : State}

/-! ## Seeks that start -/

/-- The Positioner of a seek to a track and offset begun, its deadline at tick `due` (R32). -/
def Pos.seekBegun (p : Pos) (track : Nat) (offset : Int) (o : Owner) (due : Nat) : Pos :=
  { ({ p.moveDone (.interrupted .replaced) with seekOrigin := p.target, target := track, offset := offset } : Pos).arrived .seeking
      (some { kind := .seek, due := due }) with actMove := some { kind := .seek, owner := o } }

/-- What the Positioner of a begun seek is. -/
theorem Pos.seekBegun_facts {p q : Pos} {track : Nat} {offset : Int} {o : Owner} {due : Nat}
    (h : p.seekBegun track offset o due = q) : q.act = .seeking ∧ q.target = track ∧ q.offset = offset ∧
    q.seekOrigin = p.target ∧ q.deadline = some { kind := .seek, due := due } ∧ q.actMove = some { kind := .seek, owner := o } ∧
    q.held = p.held ∧ q.spindle = p.spindle ∧
    q.lastBench = benchOutcome p.lastBench p.actMove (.interrupted .replaced) ∧ q.period = p.period ∧
    q.indexRef = p.indexRef := by
  subst h
  exact ⟨rfl, rfl, rfl, rfl, rfl, rfl, rfl, rfl, rfl, rfl, rfl⟩

/-- A move of the actuator off the ramp: the move before ends, target and offset change by `f`, and the actuator comes to `a`
with a deadline that starts now (R25, R32, R35). -/
theorem departure_moved (hr : s.running = none) (hp : s.pos.act ≠ .parked) {f : Pos → Pos} {a : ActState} {k : DeadlineKind}
    {n : Profile → Nat} {m : Move} (hf : ∀ p : Pos, (f p).act = p.act) :
    let s1 := s.endActMove (.interrupted .replaced)
    let s2 := s1.setPos (f s1.pos)
    let s3 := s2.setAct a (s2.deadlineIn k (n s2.prof))
    Moved s { (f (s.pos.moveDone (.interrupted .replaced))).arrived a (some { kind := k, due := s.now + n s.prof * 200000 }) with
      actMove := some m } (s.windowAt a) (s3.setPos { s3.pos with actMove := some m }) := by
  intro s1 s2 s3
  have h1 : Moved s (s.pos.moveDone (.interrupted .replaced)) s.window s1 := endActMove_moved s _
  obtain ⟨hpos, hwin, hjct, hnow, hpst, -⟩ := h1.reads
  have hd : s2.deadlineIn k (n s2.prof) = some { kind := k, due := s.now + n s.prof * 200000 } := by
    have h2 : s2.now = s.now ∧ s2.prof = s.prof := ⟨hnow, by show s1.pst.profile = _; rw [hpst]; rfl⟩
    unfold State.deadlineIn State.inMs
    rw [h2.1, h2.2]
    rfl
  have h2 : Moved s2 ((f s1.pos).arrived a (s2.deadlineIn k (n s2.prof))) (s2.windowAt a) s3 :=
    setAct_moved s2 (by unfold State.running State.active; rw [State.setPos_jct, hjct]; exact hr)
      (by rw [State.setPos_pos, hf, hpos]; exact hp) a _
  have hw : s2.windowAt a = s.windowAt a := by
    unfold State.windowAt
    rw [State.setPos_pos, hf, hpos, State.setPos_window, hwin]
    rfl
  rw [hw, hd] at h2
  have h3 : Moved s ((f s1.pos).arrived a (some { kind := k, due := s.now + n s.prof * 200000 })) (s.windowAt a) s3 :=
    (h1.setPos (f s1.pos)).trans h2 fun k => k.symm
  have h4 := h3.setPos { s3.pos with actMove := some m }
  rw [h3.reads.1] at h4 ⊢
  rw [hpos] at h4 ⊢
  exact h4

theorem startSeek_moved (hr : s.running = none) (hp : s.pos.act ≠ .parked) (track : Nat) (offset : Int) (o : Owner) :
    Moved s (s.pos.seekBegun track offset o (s.now + s.prof.seekMs * 200000)) (s.windowAt .seeking)
      (s.startSeek track offset o) :=
  departure_moved hr hp (f := fun p => { p with seekOrigin := p.target, target := track, offset := offset })
    (a := .seeking) (k := .seek) (n := Profile.seekMs) (m := { kind := .seek, owner := o }) fun _ => rfl

/-! ## The counts of the heat monitor -/

/-- Settles O47: the held seek is removed and started (`startSeek_moved`), and the HOT count unloads (`unloadBegun_finish`). -/
theorem heatCountsReleaseAndUnload : Obligations.HeatCountsReleaseAndUnload := by
  intro s h hj
  refine ⟨fun hw ha hh hp hb => ?_, fun hl ha hp hv => ?_⟩
  · have hact : s.pos.act ≠ .parked := fun k => by rcases ha with ha | ha <;> rw [ha] at k <;> cases k
    let v := (s.setChm { s.chm with pace := satAdd 65535 s.chm.pace 1 }).setPos { s.pos with held := none }
    have hsat : satAdd 65535 s.chm.pace 1 = min 65535 (s.chm.pace + 1) := rfl
    have he : s.paceRelease = v.startSeek h.track h.offset h.owner := by
      unfold State.paceRelease State.tickPace
      rw [if_pos ⟨hw, by rw [hh]; rfl, hp⟩]
      dsimp only
      rw [if_pos ⟨hw, by show s.prof.paceTicks ≤ satAdd 65535 s.chm.pace 1; rw [hsat]; omega⟩]
      unfold State.releaseHeld
      rw [show (s.setChm { s.chm with pace := satAdd 65535 s.chm.pace 1 }).pos = s.pos from rfl, hh]
      exact if_pos ha
    obtain ⟨n, m, ms, hms, -, hm⟩ := startSeek_moved (s := v) (running_noJobs hj.1) hact h.track h.offset h.owner
    generalize hq : v.pos.seekBegun h.track h.offset h.owner (v.now + v.prof.seekMs * 200000) = q at hm
    obtain ⟨hseek, ht, ho, hor, hd, hmv, hheld, -, hb, -⟩ := Pos.seekBegun_facts hq
    obtain ⟨x, w, hf⟩ := finish_unheard_frame (v.moved q (v.windowAt .seeking) n m) hj.2 (.inl ⟨running_noJobs hj.1, hms⟩)
    refine ⟨_, rfl, ?_⟩
    rw [he, hm, hf]
    refine ⟨rfl, hseek, hheld, ht, ho, hor, hd, hmv, hb, fun k => ?_, fun k => ?_, ?_, rfl, rfl⟩
    · exact if_pos ⟨k, by decide⟩
    · exact if_neg (fun c : _ ∧ _ => by have := c.1; rw [show v.pos.act = s.pos.act from rfl, k] at this; cases this)
    · rfl
  · have he : s.hotParkExpiry = (s.setChm { s.chm with hot := 0 }).beginUnload .thermal := by
      unfold State.hotParkExpiry State.tickHot
      rw [if_pos ⟨hl, ha, hp⟩, if_pos ⟨hl, ha⟩, if_pos hp]
    have hu := unloadBegun_finish_noneRuns (s := s.setChm { s.chm with hot := 0 }) (c := .thermal) (running_noJobs hj.1) hj.2 ha hv
    exact ⟨_, rfl, by rw [he]; exact hu.1⟩

end Sys2Proof.Machine
end

section
/-! PROOF. SEEK (R26, R32, R33, R35, R36, R150). -/

namespace Sys2Proof.Machine

variable {s t : State}

/-! ## The payload of a SEEK -/

/-- The bytes of a number bring it back (R186). -/
theorem leNat_leBytes (w : Nat) : ∀ n < 256 ^ w, leNat (leBytes w n) = n := by
  induction w with
  | zero => intro n hn; simp only [pow_zero, Nat.lt_one_iff] at hn; subst hn; rfl
  | succ w ih =>
    intro n hn
    have hq : n / 256 < 256 ^ w := by rw [pow_succ] at hn; omega
    have hb : (byteOf n).toNat = n % 256 := by simp [byteOf]
    show (byteOf n).toNat + 256 * leNat (leBytes w (n / 256)) = n
    rw [ih _ hq, hb]
    omega

/-- The two bytes of a 16-bit word bring its signed number back. -/
theorem leInt_leBytes_half (x : Half) : leInt (leBytes 2 x.toNat) = x.toInt := by
  unfold leInt
  rw [leNat_leBytes 2 _ x.isLt, leBytes_length, BitVec.toInt_eq_toNat_cond]
  rfl

/-- The number that a clamp gives (R32). -/
theorem clampInt_offset (x : Int) : clampInt (-8191) 8191 x = max (-8191) (min 8191 x) := by
  unfold clampInt
  split
  · omega
  · split <;> omega

/-- SEEK past the BUSY gate, its fields decoded (R32). -/
theorem handle_seek (h : s.running = none) (track : Quad) (offset : Half) :
    s.handle .seek (seekPayload track offset) =
      if s.prof.trackMax < track.toNat then s.refused .badValue 0
      else if s.chm.level = .hot then s.refused .hot 0
      else s.seekReply track.toNat offset.toInt := by
  have ht : leNat (fieldBytes (seekPayload track offset) 0 4) = track.toNat := by
    unfold seekPayload
    rw [fieldBytes_append (by rw [leBytes_length])]
    exact leNat_leBytes 4 _ track.isLt
  have ho : leInt (fieldBytes (seekPayload track offset) 4 2) = offset.toInt := leInt_leBytes_half offset
  show s.reqSeek _ _ = _
  unfold State.reqSeek
  rw [motionGate_of_none h, ht, ho]

/-! ## The rows of R32 -/

/-- A SEEK past its track and HOT checks (R32, R150). -/
structure SeekPasses (s : State) (track : Quad) : Prop where
  ready : s.LinkReady
  idle : s.running = none
  track : track.toNat ≤ s.prof.trackMax
  cool : s.chm.level ≠ .hot

/-- Past the checks the actuator state decides (R32). -/
theorem handle_seekReply {u : State} {tag : Byte} {track : Quad} (h : SeekPasses s track)
    (hu : (s.reload .motionReq).openReply tag = u) (offset : Half) :
    u.handle .seek (seekPayload track offset) = u.seekReply track.toNat offset.toInt := by
  obtain ⟨r, e⟩ := openReply_reload (s := s) tag
  subst hu
  rw [handle_seek (by rw [e]; exact h.idle), if_neg (by rw [e]; exact Nat.not_lt.mpr h.track), if_neg (by rw [e]; exact h.cool)]

/-- A SEEK that is taken (R26, R32). -/
theorem seek_taken {u : State} {tag : Byte} {track : Quad} {offset : Half} {x : Int} {k : SeekTaken} {p : Pos}
    {w : Option Window} (h : SeekPasses s track) (hx : x = max (-8191) (min 8191 offset.toInt))
    (hu : (s.reload .motionReq).openReply tag = u) (hm : Moved u p w t) (ht : u.takeSeek track.toNat x .bench = .ok (k, t))
    (hp : p.period = s.pos.period ∧ p.indexRef = s.pos.indexRef) :
    ∃ t d, exec (.seek tag track offset) s = .next t ∧
      Answered s tag (k == .held) (x != offset.toInt) p w d t := by
  have ha := handle_seekReply h hu offset
  unfold State.seekReply at ha
  dsimp only at ha
  rw [clampInt_offset, ← hx, ht] at ha
  subst hu
  obtain ⟨t, d, hx, hans, -⟩ := motion_moved (.inr (.inr (.inr (.inr ⟨rfl, seekPayload_length track offset⟩)))) h.ready h.idle hm
    hp ha
  exact ⟨t, d, hx, hans⟩

/-- The Positioner of a jog, or of a settling restarted, with its deadline at tick `due` (R32, R35, R36). -/
def Pos.jogBegun (p : Pos) (offset : Int) (o : Owner) (due : Nat) : Pos :=
  { ({ p.moveDone (.interrupted .replaced) with offset := offset } : Pos).arrived .settling
      (some { kind := .settle, due := due }) with actMove := some { kind := .jog, owner := o } }

theorem Pos.jogBegun_facts {p q : Pos} {offset : Int} {o : Owner} {due : Nat} (h : p.jogBegun offset o due = q) :
    q.act = .settling ∧ q.target = p.target ∧ q.offset = offset ∧ q.held = p.held ∧
    q.deadline = some { kind := .settle, due := due } ∧ q.actMove = some { kind := .jog, owner := o } ∧
    q.period = p.period ∧ q.indexRef = p.indexRef := by
  subst h
  exact ⟨rfl, rfl, rfl, rfl, rfl, rfl, rfl, rfl⟩

theorem startJog_moved (hr : s.running = none) (hp : s.pos.act ≠ .parked) (offset : Int) (o : Owner) :
    Moved s (s.pos.jogBegun offset o (s.now + s.prof.settleMs * 200000)) (s.windowAt .settling) (s.startJog offset o) :=
  departure_moved hr hp (f := fun p => { p with offset := offset }) (a := .settling) (k := .settle) (n := Profile.settleMs)
    (m := { kind := .jog, owner := o }) fun _ => rfl

/-- The Positioner of a settling restarted (R32, R36). -/
def Pos.resettled (p : Pos) (offset : Int) (o : Owner) (due : Nat) : Pos :=
  { p.moveDone (.interrupted .replaced) with
    offset := offset, settleRun := 0, deadline := some { kind := .settle, due := due }
    actMove := some { kind := .jog, owner := o } }

theorem Pos.resettled_facts {p q : Pos} {offset : Int} {o : Owner} {due : Nat} (h : p.resettled offset o due = q) :
    q.act = p.act ∧ q.target = p.target ∧ q.offset = offset ∧ q.settleRun = 0 ∧
    q.deadline = some { kind := .settle, due := due } ∧ q.actMove = some { kind := .jog, owner := o } ∧
    q.period = p.period ∧ q.indexRef = p.indexRef := by
  subst h
  exact ⟨rfl, rfl, rfl, rfl, rfl, rfl, rfl, rfl⟩

theorem restartSettle_moved (offset : Int) (o : Owner) :
    Moved s (s.pos.resettled offset o (s.now + s.prof.settleMs * 200000)) s.window (s.restartSettle offset o) := by
  have h := endActMove_moved s (.interrupted .replaced)
  obtain ⟨hpos, -, -, hnow, hpst, -⟩ := h.reads
  have he : s.restartSettle offset o = (s.endActMove (.interrupted .replaced)).setPos
      (s.pos.resettled offset o (s.now + s.prof.settleMs * 200000)) := by
    unfold State.restartSettle State.deadlineIn State.inMs State.prof
    dsimp only
    rw [hpos, hnow, hpst]
    rfl
  rw [he]
  exact h.setPos _

/-- What stands once the seek held before, if any, has been discarded (R33). -/
structure HeldDone (s v : State) : Prop where
  moved : Moved s (s.pos.heldDone .replaced) s.window v
  act : v.pos.act = s.pos.act
  window : ∀ a, v.windowAt a = s.windowAt a
  chm : v.chm = s.chm ∧ v.prof = s.prof
  idle : s.running = none → v.running = none
  now : v.now = s.now
  pos : v.pos = s.pos.heldDone .replaced

theorem discardHeld_done : HeldDone s (s.discardHeld .replaced) := by
  have h := discardHeld_moved s .replaced
  obtain ⟨hpos, hwin, hjct, hnow, hpst, hchm, -⟩ := h.reads
  have hact : (s.discardHeld .replaced).pos.act = s.pos.act := by rw [hpos]; rfl
  refine ⟨h, hact, fun a => ?_, ⟨hchm, by unfold State.prof; rw [hpst]⟩, fun hr => ?_, hnow, hpos⟩
  · unfold State.windowAt; rw [hact, hwin]
  · unfold State.running State.active; rw [hjct]; exact hr

theorem Pos.heldDone_facts {p q : Pos} {c : StopCause} (h : p.heldDone c = q) : q.held = none ∧ q.act = p.act ∧
    q.target = p.target ∧ q.offset = p.offset ∧ q.deadline = p.deadline ∧ q.actMove = p.actMove ∧ q.spindle = p.spindle ∧
    q.settleRun = p.settleRun ∧ q.period = p.period ∧ q.indexRef = p.indexRef := by
  subst h
  exact ⟨rfl, rfl, rfl, rfl, rfl, rfl, rfl, rfl, rfl, rfl⟩

/-- A seek to another track that may start: the held one is discarded, and the new one begins (R32, R33). -/
theorem seekOrHold_starts (hr : s.running = none) (hp : s.pos.act ≠ .parked) (hc : s.chm.maySeek s.prof = true) (track : Nat)
    (x : Int) : ∃ t, s.seekOrHold track x .bench = (.moving, t) ∧
      Moved s ((s.pos.heldDone .replaced).seekBegun track x .bench (s.now + s.prof.seekMs * 200000)) (s.windowAt .seeking) t := by
  have h := discardHeld_done (s := s)
  have hs := startSeek_moved (s := s.discardHeld .replaced) (h.idle hr) (by rw [h.act]; exact hp) track x .bench
  rw [h.pos, h.now, h.chm.2, h.window] at hs
  refine ⟨_, ?_, h.moved.trans hs fun k => k.symm⟩
  unfold State.seekOrHold
  dsimp only
  rw [h.chm.1, h.chm.2, if_pos hc]

/-- A seek to another track that may not start is held (R33). -/
theorem seekOrHold_holds (hc : s.chm.maySeek s.prof = false) (track : Nat) (x : Int) :
    ∃ t, s.seekOrHold track x .bench = (.held, t) ∧
      Moved s { s.pos.heldDone .replaced with held := some { track := track, offset := x, owner := .bench } } s.window t := by
  have h := discardHeld_done (s := s)
  refine ⟨_, ?_, h.moved.setPos _⟩
  unfold State.seekOrHold
  dsimp only
  rw [h.chm.1, h.chm.2, if_neg (by rw [hc]; decide), h.pos]

/-- A SEEK refused before or by the actuator state (R32). -/
theorem seek_refused {tag : Byte} {track : Quad} {offset : Half} {c : RefuseCode} {n : Nat} (h : s.LinkReady)
    (ha : ((s.reload .motionReq).openReply tag).handle .seek (seekPayload track offset) =
      (.refuse { code := c, detail := n }, (s.reload .motionReq).openReply tag)) :
    exec (.seek tag track offset) s = .next ((s.reload .motionReq).refuses tag c n) :=
  motion_refused (k := .seek) (.inr (.inr (.inr (.inr ⟨rfl, seekPayload_length track offset⟩)))) h ha

/-- Settles O29: the checks (`seek_refused`), then the row of the actuator state (`seek_taken`). -/
theorem seekIsStartedHeldOrRefused : Obligations.SeekIsStartedHeldOrRefused := by
  intro s tag track offset x h ⟨hr, _⟩ hx
  obtain ⟨r, e⟩ := openReply_reload (s := s) tag
  have hgate := handle_seek (s := (s.reload .motionReq).openReply tag) (by rw [e]; exact hr) track offset
  refine ⟨fun hk => ?_, fun hk hh => ?_, fun hk hh => ?_⟩
  · refine seek_refused h ?_
    rw [hgate, if_pos (by rw [e]; exact hk)]
    rfl
  · refine seek_refused h ?_
    rw [hgate, if_neg (by rw [e]; exact Nat.not_lt.mpr hk), if_pos (by rw [e]; exact hh)]
    rfl
  have hpass : SeekPasses s track := ⟨h, hr, hk, hh⟩
  generalize hu : (s.reload .motionReq).openReply tag = u at e hgate
  have hpos : u.pos = s.pos := by rw [e]; rfl
  have hwin : u.window = s.window ∧ (∀ a, u.windowAt a = s.windowAt a) := by rw [e]; exact ⟨rfl, fun _ => rfl⟩
  have hlim : u.now + u.prof.seekMs * 200000 = s.now + s.prof.seekMs * 200000 ∧
      u.now + u.prof.settleMs * 200000 = s.now + s.prof.settleMs * 200000 := by rw [e]; exact ⟨rfl, rfl⟩
  have hchm : u.chm.maySeek u.prof = s.chm.maySeek s.prof := by rw [e]; rfl
  have hrun : u.running = none := by rw [e]; exact hr
  refine ⟨fun ha => ?_, fun ha => ?_, fun ha ht => ⟨fun hc => ?_, fun hc hp => ?_⟩, fun ha ht => ?_, fun ha ht => ?_⟩
  · refine seek_refused h ?_
    rw [hu, handle_seekReply hpass hu]
    unfold State.seekReply State.takeSeek
    rcases ha with ha | ha | ha | ha <;> rw [hpos, ha]
  · have hm := Moved.pos u (ms := []) { s.pos with
        target := track.toNat, offset := x, deadline := some { kind := .seek, due := s.now + s.prof.seekMs * 200000 }
        actMove := some { kind := .seek, owner := .bench } } .nil
    rw [State.tells_nil] at hm
    have htake : u.takeSeek track.toNat x .bench = .ok (.moving, u.setPos { s.pos with
        target := track.toNat, offset := x, deadline := some { kind := .seek, due := s.now + s.prof.seekMs * 200000 }
        actMove := some { kind := .seek, owner := .bench } }) := by
      unfold State.takeSeek State.redirectSeek
      rw [hpos, ha, ← hlim.1]
      rfl
    obtain ⟨t, d, hx', hans⟩ := seek_taken hpass hx hu hm htake ⟨rfl, rfl⟩
    exact ⟨t, hx', hans.taken, hans.pos⟩
  · have hact : u.pos.act ≠ .parked := by rw [hpos]; rcases ha with ha | ha <;> rw [ha] <;> decide
    have hmay : u.chm.maySeek u.prof = true := by
      rw [hchm]
      unfold Chm.maySeek
      rcases hc with hc | hc
      · rw [hc]
      · cases hl : s.chm.level with
        | cool => rfl
        | warm => exact decide_eq_true hc
        | hot => exact absurd hl hh
    obtain ⟨t, hs, hm⟩ := seekOrHold_starts hrun hact hmay track.toNat x
    have htake : u.takeSeek track.toNat x .bench = .ok (.moving, t) := by
      unfold State.takeSeek
      rcases ha with ha | ha <;> rw [hpos, ha] <;> dsimp only <;> rw [if_neg ht, hs]
    rw [hpos, hlim.1, hwin.2] at hm
    generalize hd : s.pos.heldDone .replaced = p0 at hm
    obtain ⟨hheld, hact0, htgt, hoff, hdl, hmv, hspin, -, hper, href⟩ := Pos.heldDone_facts hd
    generalize hq : p0.seekBegun track.toNat x .bench (s.now + s.prof.seekMs * 200000) = q at hm
    obtain ⟨qact, qtgt, qoff, qorg, qdl, qmv, qheld, qspin, -, qper, qref⟩ := Pos.seekBegun_facts hq
    obtain ⟨t, d, hx', hans⟩ := seek_taken hpass hx hu hm htake ⟨qper.trans hper, qref.trans href⟩
    obtain ⟨htaken, hp, hw, -⟩ := hans
    refine ⟨t, hx', htaken, ?_⟩
    rw [hp]
    exact ⟨qact, qtgt, qoff, qorg.trans htgt, qdl, qmv, qheld.trans hheld, qspin.trans hspin,
      fun k => hw.trans (if_pos ⟨k, by decide⟩)⟩
  · have hmay : u.chm.maySeek u.prof = false := by
      rw [hchm]
      unfold Chm.maySeek
      rw [hc]
      exact decide_eq_false (Nat.not_le.mpr hp)
    obtain ⟨t, hs, hm⟩ := seekOrHold_holds hmay track.toNat x
    have htake : u.takeSeek track.toNat x .bench = .ok (.held, t) := by
      unfold State.takeSeek
      rcases ha with ha | ha <;> rw [hpos, ha] <;> dsimp only <;> rw [if_neg ht, hs]
    rw [hpos, hwin.1] at hm
    generalize hd : s.pos.heldDone .replaced = p0 at hm
    obtain ⟨hheld, hact0, htgt, hoff, hdl, hmv, hspin, -, hper, href⟩ := Pos.heldDone_facts hd
    obtain ⟨t, d, hx', hans⟩ := seek_taken hpass hx hu hm htake ⟨hper, href⟩
    obtain ⟨htaken, hp, hw, -⟩ := hans
    refine ⟨t, hx', htaken, ?_⟩
    rw [hp]
    exact ⟨rfl, hact0, htgt, hoff, hdl, hmv, hw⟩
  · have hdone := discardHeld_done (s := u)
    have hmoved := hdone.moved
    have hpd := hdone.pos
    rw [hpos] at hmoved hpd
    generalize hd : s.pos.heldDone .replaced = p0 at hmoved hpd
    obtain ⟨hheld, hact0, htgt, hoff, hdl, hmv, -, -, hper, href⟩ := Pos.heldDone_facts hd
    by_cases hxo : x = s.pos.offset
    · have htake : u.takeSeek track.toNat x .bench = .ok (.unchanged, u.discardHeld .replaced) := by
        unfold State.takeSeek
        rw [hpos, ha]
        dsimp only
        rw [if_pos ht, if_pos hxo]
      obtain ⟨t, d, hx', hans⟩ := seek_taken hpass hx hu hmoved htake ⟨hper, href⟩
      obtain ⟨htaken, hp, hw, -⟩ := hans
      refine ⟨t, hx', htaken, ?_⟩
      rw [hp]
      exact ⟨hheld, htgt, hoff.trans hxo.symm, fun _ => ⟨hact0.trans ha, hdl, hmv, hw.trans hwin.1⟩,
        fun k => absurd hxo k⟩
    · have hjog := startJog_moved (hdone.idle hrun) (by rw [hdone.act, hpos, ha]; decide) x .bench
      rw [hpd, hdone.now, hdone.chm.2, hlim.2, hdone.window, hwin.2] at hjog
      have htake : u.takeSeek track.toNat x .bench = .ok (.moving, (u.discardHeld .replaced).startJog x .bench) := by
        unfold State.takeSeek
        rw [hpos, ha]
        dsimp only
        rw [if_pos ht, if_neg hxo]
      generalize hq : p0.jogBegun x .bench (s.now + s.prof.settleMs * 200000) = q at hjog
      obtain ⟨qact, qtgt, qoff, qheld, qdl, qmv, qper, qref⟩ := Pos.jogBegun_facts hq
      obtain ⟨t, d, hx', hans⟩ := seek_taken hpass hx hu (hmoved.trans hjog fun k => k.symm) htake
        ⟨qper.trans hper, qref.trans href⟩
      obtain ⟨htaken, hp, hw, -⟩ := hans
      refine ⟨t, hx', htaken, ?_⟩
      rw [hp]
      exact ⟨qheld.trans hheld, qtgt.trans htgt, qoff, fun k => absurd k hxo,
        fun _ => ⟨qact, hw.trans (if_pos ⟨ha, by decide⟩), qdl, qmv⟩⟩
  · have hdone := discardHeld_done (s := u)
    have hmoved := hdone.moved
    have hpd := hdone.pos
    rw [hpos] at hmoved hpd
    generalize hd : s.pos.heldDone .replaced = p0 at hmoved hpd
    obtain ⟨-, hact0, htgt, hoff, hdl, hmv, -, hrun0, hper, href⟩ := Pos.heldDone_facts hd
    by_cases hxo : x = s.pos.offset
    · have htake : u.takeSeek track.toNat x .bench = .ok (.unchanged, u.discardHeld .replaced) := by
        unfold State.takeSeek
        rw [hpos, ha]
        dsimp only
        rw [if_pos ht, if_pos hxo]
      obtain ⟨t, d, hx', hans⟩ := seek_taken hpass hx hu hmoved htake ⟨hper, href⟩
      obtain ⟨htaken, hp, -, -⟩ := hans
      refine ⟨t, hx', htaken, ?_⟩
      rw [hp]
      exact ⟨hact0.trans ha, htgt, hoff.trans hxo.symm, fun _ => ⟨hdl, hrun0, hmv⟩, fun k => absurd hxo k⟩
    · have hset := restartSettle_moved (s := u.discardHeld .replaced) x .bench
      rw [hpd, hdone.now, hdone.chm.2, hlim.2] at hset
      have htake : u.takeSeek track.toNat x .bench = .ok (.moving, (u.discardHeld .replaced).restartSettle x .bench) := by
        unfold State.takeSeek
        rw [hpos, ha]
        dsimp only
        rw [if_pos ht, if_neg hxo]
      generalize hq : p0.resettled x .bench (s.now + s.prof.settleMs * 200000) = q at hset
      obtain ⟨qact, qtgt, qoff, qrun, qdl, qmv, qper, qref⟩ := Pos.resettled_facts hq
      obtain ⟨t, d, hx', hans⟩ := seek_taken hpass hx hu (hmoved.trans hset fun k => k.symm) htake
        ⟨qper.trans hper, qref.trans href⟩
      obtain ⟨htaken, hp, -, -⟩ := hans
      refine ⟨t, hx', htaken, ?_⟩
      rw [hp]
      exact ⟨qact.trans (hact0.trans ha), qtgt.trans htgt, qoff, fun k => absurd k hxo, fun _ => ⟨qrun, qdl, qmv⟩⟩

end Sys2Proof.Machine
end

section
/-! PROOF. Records of the anchor in a quiet part (R24, R30, R31, R34, R36, R37). -/

namespace Sys2Proof.Machine

variable {s t u : State} {n : Nat}

/-! ## What a slot of a quiet part leaves -/

/-- The work of a slot in a quiet part has come to `t`: the rest stands, nothing that is reported is heard, and a rest timer
runs. -/
structure Served (s : State) (n : Nat) (t : State) : Prop where
  frame : ServoFrame s n t
  noneHears : t.NoneHears
  timer : t.rtm.a.due.isSome = true ∨ t.rtm.b.due.isSome = true

/-- The motor's figures that no motion of the actuator changes (R19). -/
def SameMotor (p q : Pos) : Prop := q.spindle = p.spindle ∧ q.period = p.period ∧ q.indexRef = p.indexRef

theorem Served.setPos {p : Pos} (h : Served s n t) (hp : SameMotor t.pos p) : Served s n (t.setPos p) := by
  obtain ⟨⟨hnow, ⟨h1, h2, h3⟩, hidle, hoth, hrec⟩, hn, ht⟩ := h
  exact ⟨⟨hnow, ⟨hp.1.trans h1, hp.2.1.trans h2, hp.2.2.trans h3⟩, hidle, hoth, hrec⟩, hn, ht⟩

theorem Served.setChm {c : Chm} (h : Served s n t) : Served s n (t.setChm c) := by
  obtain ⟨⟨hnow, hp, hidle, hoth, hrec⟩, hn, ht⟩ := h
  exact ⟨⟨hnow, hp, hidle, hoth, hrec⟩, hn, ht⟩

theorem Served.raise {k : EventKind} (h : Served s n t) : Served s n (t.raise k) := by
  obtain ⟨⟨hnow, hp, hidle, hoth, hasm, hbuf, hcount⟩, hn, ht⟩ := h
  have hc := raise_carries t k
  exact ⟨⟨hnow, hp, hidle, hoth, hc.asm.trans hasm, hc.buffer.trans hbuf, hc.counters.trans hcount⟩, hn, ht⟩

theorem Served.tell {m : JctMsg} (h : Served s n t) (hm : m ≠ .restTest) : Served s n (t.tell m) := by
  obtain ⟨⟨hnow, hp, hidle, hoth, hrec⟩, hn, ht⟩ := h
  exact ⟨⟨hnow, hp, hidle, hoth, hrec⟩, hn.tells (ms := [m]) (by simpa using hm), ht⟩

theorem Served.goOn {m : JctMsg} (h : Served s n t) (hm : m ≠ .restTest) : Served s n (t.goOn m) := by
  obtain ⟨⟨hnow, hp, hidle, hoth, hrec⟩, hn, ht⟩ := h
  exact ⟨⟨hnow, hp, hidle, hoth, hrec⟩, ⟨hn.1, fun x hx => (List.mem_cons.mp hx).elim (fun e => e ▸ hm) (hn.2 x)⟩, ht⟩

/-- A motion with no window open. -/
theorem Served.moved {p : Pos} {w : Option Window} (h : Served s n t) (hm : Moved t p w u) (hw : w = none)
    (hp : SameMotor t.pos p) : Served s n u ∧ u.pos = p ∧ u.chm = t.chm ∧ u.prof = t.prof := by
  obtain ⟨hpos, -, -, -, hst, hchm, -⟩ := hm.reads
  refine ⟨?_, hpos, hchm, by unfold State.prof; rw [hst]⟩
  clear hst
  obtain ⟨⟨hnow, ⟨h1, h2, h3⟩, ⟨hwin, hgcu, hjct, hhmp⟩, ⟨hrtm, hflc, hpst⟩, hrec⟩, hn, ht⟩ := h
  obtain ⟨e, m, ms, hms, hk, rfl⟩ := hm
  obtain ⟨rfl, rfl⟩ := hk (hw.trans hwin.symm)
  exact ⟨⟨hnow, ⟨hp.1.trans h1, hp.2.1.trans h2, hp.2.2.trans h3⟩, ⟨hw, hgcu, hjct, hhmp⟩, ⟨hrtm, hflc, hpst⟩, hrec⟩,
    State.NoneHears.tells (s := t.moved p w t.flc.engineHead t.sdc.marker) hn hms.not_restTest, ht⟩

theorem Served.window (h : Served s n t) : t.window = none := h.frame.idle.1

theorem Served.idle (h : Served s n t) : t.running = none := running_noJobs h.noneHears.1

/-- No window opens by a motion. -/
theorem windowAt_of_none (h : s.window = none) (a : ActState) : s.windowAt a = none := by
  unfold State.windowAt
  rw [h]
  split <;> rfl

/-- A running timer holds the rest test off (R160). -/
theorem Served.restTest (h : Served s n t) : t.restTest = t :=
  restTest_of_not (h.timer.elim .inl fun k => .inr (.inl k))

/-- A change of actuator state off the ramp. -/
theorem Served.setAct {d : Option ActDeadline} (h : Served s n t) (hp : t.pos.act ≠ .parked) (a : ActState) :
    Served s n (t.setAct a d) ∧ (t.setAct a d).pos = t.pos.arrived a d ∧ (t.setAct a d).chm = t.chm ∧
      (t.setAct a d).prof = t.prof :=
  h.moved (setAct_moved t h.idle hp a d) (windowAt_of_none h.window a) ⟨rfl, rfl, rfl⟩

theorem Served.endActMove (h : Served s n t) (o : MoveOutcome) : Served s n (t.endActMove o) ∧
    (t.endActMove o).pos = t.pos.moveDone o ∧ (t.endActMove o).chm = t.chm ∧ (t.endActMove o).prof = t.prof :=
  h.moved (endActMove_moved t o) h.window ⟨rfl, rfl, rfl⟩

theorem Served.discardHeld (h : Served s n t) (c : StopCause) : Served s n (t.discardHeld c) ∧
    (t.discardHeld c).pos = t.pos.heldDone c ∧ (t.discardHeld c).chm = t.chm ∧ (t.discardHeld c).prof = t.prof :=
  h.moved (discardHeld_moved t c) h.window ⟨rfl, rfl, rfl⟩

/-- A deadline set during a slot starts at the slot's end (R1). -/
theorem Served.deadlineIn (h : Served s n t) (k : DeadlineKind) (x : Nat) :
    t.deadlineIn k x = some { kind := k, due := max s.now n + x * 200000 } := by
  unfold State.deadlineIn State.inMs
  rw [h.frame.now]
  rfl

theorem Served.prof (h : Served s n t) : t.prof = s.prof := by
  unfold State.prof
  rw [h.frame.others.2.2]

/-- The end of the slot's arrival: the transmitter may have started (R187). -/
theorem Served.finish (h : Served s n t) : ServoFrame s n t.finish ∧ t.finish.pos = t.pos ∧ t.finish.chm = t.chm ∧
    t.finish.now = max s.now n := by
  obtain ⟨x, w, e⟩ := h.noneHears.finish_eq
  obtain ⟨⟨hnow, hp, hidle, hoth, hrec⟩, -, -⟩ := h
  rw [e]
  exact ⟨⟨hnow, hp, hidle, hoth, hrec⟩, rfl, rfl, hnow⟩

/-! ## The record of a slot -/

/-- The slot that ends at tick `n` with record `r`, before the Positioner takes it (R10, R12). -/
theorem QuietSlot.served (h : QuietSlot s) (r : SectorRecord) : Served s n ((s.atTick n).endSlot r n) :=
  ⟨⟨rfl, ⟨rfl, rfl, rfl⟩, ⟨h.window, rfl, rfl, rfl⟩, ⟨rfl, rfl, rfl⟩, ⟨rfl, rfl, rfl⟩⟩, ⟨h.jobs.1, by
    show ∀ m ∈ s.inbox, _
    rw [h.jobs.2]
    simp⟩, h.timer⟩

/-- A slot of a quiet part does what the Positioner does with its record (R11). -/
theorem QuietSlot.deliver (h : QuietSlot s) {r : SectorRecord} {d : Nat}
    (ht : Served s n (((s.atTick n).endSlot r n).servoRecord r)) (hd : d = n) :
    (s.atTick n).deliver r d = ((s.atTick n).endSlot r n).servoRecord r := by
  subst hd
  have hs : (s.atTick d).awaitsSwitch = false := by
    unfold State.awaitsSwitch State.runningPhase
    rw [show (s.atTick d).running = none from running_noJobs h.jobs.1]
    rfl
  have hw : (((s.atTick d).endSlot r d).servoRecord r).windowRecord r = ((s.atTick d).endSlot r d).servoRecord r := by
    unfold State.windowRecord
    rw [ht.window]
  have hg : (((s.atTick d).endSlot r d).servoRecord r).gcu.state = .idle := by rw [ht.frame.idle.2.1]; exact h.gate
  unfold State.deliver
  dsimp only
  rw [hw, gateRecord_of_idle hg, if_neg (fun k => by rw [hs] at k; exact absurd k.1 (by decide))]

/-- A GOOD record of the anchor with the mark `m` (R10). -/
structure AnchorGood (s : State) (m : Mark) (r : SectorRecord) : Prop where
  head : r.head = s.prof.anchor
  mark : r.mark = some m
  cls : r.cls = .good
  pes : r.pes = pesOf m

theorem anchorGood_of {sector : BitVec 10} {code : BitVec 18} {e o : BitVec 12} {m : Mark} (hh : s.drivenHead = s.prof.anchor)
    (hm : s.sdc.marker = false) (hg : GoodMark s sector code e o m) (n : Nat) :
    AnchorGood s m (formRecord (s.atTick n) (markOf s.prof.sectors sector code e o)) := by
  have hc : (formRecord (s.atTick n) (markOf s.prof.sectors sector code e o)).cls = .good := by
    show classify s.prof s.sdc.marker (markOf s.prof.sectors sector code e o) = _
    rw [hm, hg.mark]
    unfold classify
    dsimp only
    rw [if_neg (Nat.not_lt.mpr hg.track), if_neg (Nat.not_lt.mpr hg.amplitude)]
    rfl
  refine ⟨hh, hg.mark, hc, ?_⟩
  unfold formRecord at hc ⊢
  dsimp only at hc ⊢
  rw [if_pos hc, hg.mark]
  rfl

/-- A slot with a GOOD mark: the Positioner takes its record from a state whose Positioner and heat are those of `s`. -/
theorem QuietSlot.goodSlot {sector : BitVec 10} {code : BitVec 18} {e o : BitVec 12} {m : Mark} (h : QuietSlot s)
    (hg : GoodMark s sector code e o m) (ticks : Nat) : ∃ v r, AnchorGood v m r ∧ Served s (s.pos.indexRef.getD s.now + ticks) v ∧
      v.pos = s.pos ∧ v.chm = s.chm ∧ (Served s (s.pos.indexRef.getD s.now + ticks) (v.servoRecord r) →
        exec (.slotEndMark sector code e o ticks) s = .next (v.servoRecord r).finish) := by
  have hr := anchorGood_of h.head h.marker hg (s.pos.indexRef.getD s.now + ticks)
  generalize hf : formRecord (s.atTick (s.pos.indexRef.getD s.now + ticks)) (markOf s.prof.sectors sector code e o) = r at hr
  refine ⟨(s.atTick (s.pos.indexRef.getD s.now + ticks)).endSlot r (s.pos.indexRef.getD s.now + ticks), r,
    ⟨hr.head, hr.mark, hr.cls, hr.pes⟩, h.served r, rfl, rfl, fun k => ?_⟩
  rw [← h.deliver k rfl]
  show arrival (s.endWithMark sector code e o (s.afterIndex ticks)) = _
  unfold State.endWithMark
  obtain ⟨d, hd⟩ := Option.isSome_iff_exists.mp h.slot
  rw [hd, ← hf]
  rfl

/-- A slot that ends with a miss. -/
theorem QuietSlot.missSlot {d : Nat} (h : QuietSlot s) (hd : s.sdc.slotDue = some d) : ∃ v r, r.head = v.prof.anchor ∧
    r.cls = .miss ∧ Served s d v ∧ v.pos = s.pos ∧ v.chm = s.chm ∧ (Served s d (v.servoRecord r) →
        exec .slotEndMiss s = .next (v.servoRecord r).finish) := by
  refine ⟨(s.atTick d).endSlot (formRecord (s.atTick d) none) d, formRecord (s.atTick d) none, h.head,
    formRecord_miss (s := s.atTick d) h.marker, h.served _, rfl, rfl, fun k => ?_⟩
  rw [← h.deliver k rfl]
  show arrival s.endWithMiss = _
  unfold State.endWithMiss
  rw [hd]
  rfl

/-! ## The record by the actuator state -/

section
variable {r : SectorRecord} (hr : r.head = s.prof.anchor)
include hr

theorem servoRecord_loading (ha : s.pos.act = .loading) : s.servoRecord r = s.loadingRecord r := by
  unfold State.servoRecord
  rw [if_pos hr, ha]

theorem servoRecord_acquiring (ha : s.pos.act = .acquiring) (hc : r.cls ≠ .recovery) : s.servoRecord r = s.acquireRecord r := by
  unfold State.servoRecord
  rw [if_pos hr, ha]
  exact if_neg hc

theorem servoRecord_ofFollowing (ha : s.pos.act = .following) (hc : r.cls ≠ .recovery) :
    s.servoRecord r = s.followingRecord r := by
  unfold State.servoRecord
  rw [if_pos hr, ha]
  exact if_neg hc

theorem servoRecord_seeking (ha : s.pos.act = .seeking) (hc : r.cls ≠ .recovery) : s.servoRecord r = s.seekingRecord r := by
  unfold State.servoRecord
  rw [if_pos hr, ha]
  exact if_neg hc

theorem servoRecord_settling (ha : s.pos.act = .settling) (hc : r.cls ≠ .recovery) : s.servoRecord r = s.settlingRecord r := by
  unfold State.servoRecord
  rw [if_pos hr, ha]
  exact if_neg hc

end

/-- The Positioner with the control output driven by a PES (R24). -/
def Pos.driven (p : Pos) (pes : Int) : Pos := { p with control := Config.controlLaw p.control pes }

/-! ## Acquisition (R30) -/

theorem acquireRecord_good {m : Mark} {r : SectorRecord} (hr : AnchorGood s m r) : s.acquireRecord r =
    if s.prof.acqCount ≤ s.pos.acqRun + 1 then (s.setPos (s.pos.driven (pesOf m))).acquired m.track
    else s.setPos { s.pos.driven (pesOf m) with acqRun := s.pos.acqRun + 1 } := by
  unfold State.acquireRecord
  rw [hr.cls, hr.mark, hr.pes]
  rfl

theorem acquireRecord_miss {r : SectorRecord} (hr : r.cls = .miss) : s.acquireRecord r = s.setPos { s.pos with acqRun := 0 } := by
  unfold State.acquireRecord
  rw [hr]

/-- The Positioner at the end of an acquisition on a track (R30). -/
def Pos.acquired (p : Pos) (track : Nat) : Pos :=
  (({ p with target := track, offset := 0 } : Pos).moveDone .loaded).arrived .following none

/-- The end of an acquisition in a quiet part: FOLLOWING the track, and no rest test that holds. -/
theorem Served.acquired (h : Served s n t) (ha : t.pos.act ≠ .parked) (track : Nat) : Served s n (t.acquired track) ∧
    (t.acquired track).pos = t.pos.acquired track ∧ (t.acquired track).chm = t.chm := by
  obtain ⟨h1, hp1, hc1, -⟩ := (h.setPos (p := { t.pos with target := track, offset := 0 }) ⟨rfl, rfl, rfl⟩).endActMove .loaded
  obtain ⟨h2, hp2, hc2, -⟩ := h1.setAct (d := none) (by rw [hp1]; exact ha) .following
  unfold State.acquired State.arriveFollowing
  dsimp only
  rw [h2.restTest]
  exact ⟨h2, by rw [hp2, hp1]; rfl, hc2.trans hc1⟩

/-- Settles O22: the record's share of the run, then the end of the acquisition (`Served.acquired`). -/
theorem acquisitionRunEndsAtFollowing : Obligations.AcquisitionRunEndsAtFollowing := by
  intro s sector code e o ticks m h hg
  obtain ⟨v, r, hr, hv, hpos, hchm, hexec⟩ := h.goodSlot hg ticks
  refine ⟨fun ha hcount => ?_, fun ha => ⟨?_, fun d hd => ?_⟩⟩
  · obtain ⟨h1, hp1, hc1, hf1⟩ := hv.setAct (d := s.pos.deadline) (by rw [hpos, ha]; decide) .acquiring
    have hrec := servoRecord_loading hr.head (by rw [hpos]; exact ha)
    unfold State.loadingRecord at hrec
    dsimp only at hrec
    rw [if_pos (by rw [hr.mark]; rfl), if_neg (by rw [hr.cls]; decide), hpos,
      acquireRecord_good ⟨by rw [hf1]; exact hr.head, hr.mark, hr.cls, hr.pes⟩, h1.prof, hp1, hpos,
      if_neg (by show ¬s.prof.acqCount ≤ 0 + 1; omega)] at hrec
    have hserved := h1.setPos (p := { (s.pos.arrived .acquiring s.pos.deadline).driven (pesOf m) with
        acqRun := (s.pos.arrived .acquiring s.pos.deadline).acqRun + 1 })
      (by rw [hp1, hpos]; exact ⟨rfl, rfl, rfl⟩)
    rw [hrec] at hexec
    obtain ⟨hf, hfp, hfc, -⟩ := hserved.finish
    refine ⟨_, hexec hserved, hf, ?_⟩
    rw [hfp, hfc]
    exact ⟨rfl, rfl, rfl, rfl, rfl, rfl, rfl, hc1.trans hchm⟩
  · have hrec := servoRecord_acquiring hr.head (by rw [hpos]; exact ha) (by rw [hr.cls]; decide)
    rw [acquireRecord_good hr, hv.prof, hpos] at hrec
    have hdriven := hv.setPos (p := s.pos.driven (pesOf m)) (by rw [hpos]; exact ⟨rfl, rfl, rfl⟩)
    by_cases hc : s.prof.acqCount ≤ s.pos.acqRun + 1
    · obtain ⟨hserved, hp, hh⟩ := hdriven.acquired (by show s.pos.act ≠ _; rw [ha]; decide) m.track
      rw [if_pos hc] at hrec
      rw [hrec] at hexec
      obtain ⟨hf, hfp, hfc, -⟩ := hserved.finish
      rw [hp] at hfp
      refine ⟨_, hexec hserved, hf, by rw [hfp]; rfl, by rw [hfc, hh]; exact hchm, fun k => absurd hc (by omega), fun _ => ?_⟩
      rw [hfp]
      exact ⟨rfl, rfl, rfl, rfl, rfl, rfl, rfl⟩
    · have hserved := hv.setPos (p := { s.pos.driven (pesOf m) with acqRun := s.pos.acqRun + 1 })
        (by rw [hpos]; exact ⟨rfl, rfl, rfl⟩)
      rw [if_neg hc] at hrec
      rw [hrec] at hexec
      obtain ⟨hf, hfp, hfc, -⟩ := hserved.finish
      refine ⟨_, hexec hserved, hf, by rw [hfp]; rfl, by rw [hfc]; exact hchm, fun _ => ?_, fun k => absurd k hc⟩
      rw [hfp]
      exact ⟨ha, rfl, rfl, rfl, rfl, rfl⟩
  · obtain ⟨v, r, hr, hmiss, hv, hpos, -, hexec⟩ := h.missSlot hd
    have hrec := servoRecord_acquiring hr (by rw [hpos]; exact ha) (by rw [hmiss]; decide)
    rw [acquireRecord_miss hmiss, hpos] at hrec
    have hserved := hv.setPos (p := { s.pos with acqRun := 0 }) (by rw [hpos]; exact ⟨rfl, rfl, rfl⟩)
    rw [hrec] at hexec
    obtain ⟨hf, hfp, -⟩ := hserved.finish
    refine ⟨_, hexec hserved, hf, ?_⟩
    rw [hfp]
    exact ⟨ha, rfl, rfl, rfl, rfl, rfl⟩

end Sys2Proof.Machine
end

section
/-! PROOF. Records of the anchor in FOLLOWING, SEEKING and SETTLING in a quiet part (R24, R31, R34, R36, R37). -/

namespace Sys2Proof.Machine

variable {s t u : State} {n : Nat}

/-! ## FOLLOWING (R31) -/

/-- The Positioner after a GOOD record with error `e` in FOLLOWING or SETTLING: driven, the loss run 0 (R24, R37). -/
def Pos.tracked (p : Pos) (e : Int) : Pos := { p.driven e with lossRun := 0 }

theorem followingRecord_good {m : Mark} {r : SectorRecord} (hr : AnchorGood s m r) : s.followingRecord r =
    if s.prof.otTol < (anchorError s m (pesOf m)).natAbs then
      if s.prof.otCount ≤ s.pos.otRun + 1 then (s.setPos (s.pos.tracked (anchorError s m (pesOf m)))).offTrack
      else s.setPos { s.pos.tracked (anchorError s m (pesOf m)) with otRun := s.pos.otRun + 1 }
    else s.setPos { s.pos.tracked (anchorError s m (pesOf m)) with otRun := 0 } := by
  unfold State.followingRecord
  rw [hr.cls, hr.mark, hr.pes]
  rfl

theorem followingRecord_miss {r : SectorRecord} (hr : r.cls = .miss) :
    s.followingRecord r = (s.setPos { s.pos with otRun := 0 }).countLoss := by
  unfold State.followingRecord
  rw [hr]

theorem settlingRecord_miss {r : SectorRecord} (hr : r.cls = .miss) :
    s.settlingRecord r = (s.setPos { s.pos with settleRun := 0 }).countLoss := by
  unfold State.settlingRecord
  rw [hr]

/-- An off-track arrival in a quiet part (R31, R33). -/
theorem Served.offTrack (h : Served s n t) (ha : t.pos.act ≠ .parked) : Served s n t.offTrack ∧
    t.offTrack.pos = (t.pos.heldDone .offTrack).arrived .settling
      (some { kind := .settle, due := max s.now n + s.prof.settleMs * 200000 }) ∧ t.offTrack.chm = t.chm := by
  obtain ⟨h1, hp1, hc1, hf1⟩ := h.discardHeld .offTrack
  obtain ⟨h2, hp2, hc2, -⟩ := h1.setAct (d := (t.discardHeld .offTrack).deadlineIn .settle (t.discardHeld .offTrack).prof.settleMs)
    (by rw [hp1]; exact ha) .settling
  unfold State.offTrack
  refine ⟨h2, ?_, hc2.trans hc1⟩
  dsimp only
  rw [hp2, hp1, h1.deadlineIn, h1.prof]

/-- A loss of servo in a quiet part (R37). -/
theorem Served.loseServo (h : Served s n t) (ha : t.pos.act ≠ .parked) : Served s n t.loseServo ∧
    t.loseServo.pos = ((t.pos.heldDone .servoLost).moveDone (.interrupted .servoLost)).arrived .acquiring
      (some { kind := .acq, due := max s.now n + s.prof.acqMs * 200000 }) ∧ t.loseServo.chm = t.chm := by
  obtain ⟨h1, hp1, hc1, -⟩ := h.discardHeld .servoLost
  obtain ⟨h2, hp2, hc2, -⟩ := h1.endActMove (.interrupted .servoLost)
  let v := (t.discardHeld .servoLost).endActMove (.interrupted .servoLost)
  obtain ⟨h3, hp3, hc3, -⟩ := h2.setAct (d := v.deadlineIn .acq v.prof.acqMs) (by rw [hp2, hp1]; exact ha) .acquiring
  unfold State.loseServo
  refine ⟨h3, ?_, hc3.trans (hc2.trans hc1)⟩
  dsimp only
  rw [hp3, hp2, hp1, h2.deadlineIn, h2.prof]

/-- A miss counted toward a loss of servo (R37). -/
theorem Served.countLoss (h : Served s n t) (ha : t.pos.act ≠ .parked) : Served s n t.countLoss ∧ t.countLoss.chm = t.chm ∧
    t.countLoss.pos = if t.pos.lossRun < 3 then { t.pos with lossRun := t.pos.lossRun + 1 } else
      ((t.pos.heldDone .servoLost).moveDone (.interrupted .servoLost)).arrived .acquiring
        (some { kind := .acq, due := max s.now n + s.prof.acqMs * 200000 }) := by
  unfold State.countLoss
  by_cases hl : t.pos.lossRun < 3
  · rw [if_pos (by omega), if_pos hl]
    exact ⟨h.setPos ⟨rfl, rfl, rfl⟩, rfl, rfl⟩
  · rw [if_neg (by omega), if_neg hl]
    obtain ⟨h1, hp, hc⟩ := h.loseServo ha
    exact ⟨h1, hc, hp⟩

/-- A GOOD record in FOLLOWING, in a quiet part (R31). -/
theorem Served.followingRecord {m : Mark} {r : SectorRecord} (h : Served s n t) (ha : t.pos.act = .following)
    (hr : AnchorGood t m r) : Served s n (t.followingRecord r) ∧ (t.followingRecord r).chm = t.chm ∧
    (t.followingRecord r).pos =
      if s.prof.otTol < (anchorError t m (pesOf m)).natAbs then
        if s.prof.otCount ≤ t.pos.otRun + 1 then
          ((t.pos.tracked (anchorError t m (pesOf m))).heldDone .offTrack).arrived .settling
            (some { kind := .settle, due := max s.now n + s.prof.settleMs * 200000 })
        else { t.pos.tracked (anchorError t m (pesOf m)) with otRun := t.pos.otRun + 1 }
      else { t.pos.tracked (anchorError t m (pesOf m)) with otRun := 0 } := by
  rw [followingRecord_good hr, h.prof]
  split
  · split
    · obtain ⟨h1, hp, hc⟩ := (h.setPos (p := t.pos.tracked (anchorError t m (pesOf m))) ⟨rfl, rfl, rfl⟩).offTrack
        (by show t.pos.act ≠ _; rw [ha]; decide)
      exact ⟨h1, hc, hp⟩
    · exact ⟨h.setPos ⟨rfl, rfl, rfl⟩, rfl, rfl⟩
  · exact ⟨h.setPos ⟨rfl, rfl, rfl⟩, rfl, rfl⟩

/-- Settles O23: the record's share in FOLLOWING (`Served.followingRecord`), and the misses that lose the servo
(`Served.countLoss`). -/
theorem followingCountsOffTrackAndLoss : Obligations.FollowingCountsOffTrackAndLoss := by
  intro s sector code e o ticks m d h
  refine ⟨fun hg ha => ?_, fun ha hd => ?_⟩
  · obtain ⟨v, r, hr, hv, hpos, hchm, hexec⟩ := h.goodSlot hg ticks
    obtain ⟨hserved, hc, hp⟩ := hv.followingRecord (by rw [hpos]; exact ha) hr
    rw [servoRecord_ofFollowing hr.head (by rw [hpos]; exact ha) (by rw [hr.cls]; decide)] at hexec
    obtain ⟨hf, hfp, hfc, hfn⟩ := hserved.finish
    refine ⟨_, hexec hserved, hf, ?_⟩
    rw [hfp, hfc, hfn, hp, hc]
    have he : anchorError v m (pesOf m) = ((m.track : Int) - s.pos.target) * 16384 + pesOf m - s.pos.offset := by
      unfold anchorError
      rw [hpos]
    rw [he, hpos]
    generalize ((m.track : Int) - s.pos.target) * 16384 + pesOf m - s.pos.offset = x
    by_cases hx : s.prof.otTol < x.natAbs
    · by_cases ho : s.prof.otCount ≤ s.pos.otRun + 1
      · rw [if_pos hx, if_pos ho]
        exact ⟨rfl, rfl, rfl, rfl, hchm, fun k => absurd hx (by omega), fun _ => ⟨fun k => absurd ho (by omega),
          fun _ => ⟨rfl, rfl, rfl, rfl, rfl⟩⟩⟩
      · rw [if_pos hx, if_neg ho]
        exact ⟨rfl, rfl, rfl, rfl, hchm, fun k => absurd hx (by omega),
          fun _ => ⟨fun _ => ⟨ha, rfl, rfl, rfl⟩, fun k => absurd k ho⟩⟩
    · rw [if_neg hx]
      exact ⟨rfl, rfl, rfl, rfl, hchm, fun _ => ⟨ha, rfl, rfl, rfl⟩, fun k => absurd k hx⟩
  · obtain ⟨v, r, hr, hmiss, hv, hpos, hchm, hexec⟩ := h.missSlot hd
    obtain ⟨q, hrec, hq, hqk⟩ : ∃ q : Pos, v.servoRecord r = (v.setPos q).countLoss ∧ SameMotor s.pos q ∧
        (q.act = s.pos.act ∧ q.lossRun = s.pos.lossRun ∧ q.target = s.pos.target ∧ q.offset = s.pos.offset ∧
          q.control = s.pos.control ∧ q.deadline = s.pos.deadline ∧ q.actMove = s.pos.actMove ∧ q.held = s.pos.held ∧
          q.lastBench = s.pos.lastBench) := by
      rcases ha with ha | ha
      · rw [servoRecord_ofFollowing hr (by rw [hpos]; exact ha) (by rw [hmiss]; decide), followingRecord_miss hmiss, hpos]
        exact ⟨_, rfl, ⟨rfl, rfl, rfl⟩, rfl, rfl, rfl, rfl, rfl, rfl, rfl, rfl, rfl⟩
      · rw [servoRecord_settling hr (by rw [hpos]; exact ha) (by rw [hmiss]; decide), settlingRecord_miss hmiss, hpos]
        exact ⟨_, rfl, ⟨rfl, rfl, rfl⟩, rfl, rfl, rfl, rfl, rfl, rfl, rfl, rfl, rfl⟩
    obtain ⟨hact, hloss, htgt, hoff, hctl, hdl, hmv, hheld, hlast⟩ := hqk
    have hpk : q.act ≠ .parked := by rw [hact]; rcases ha with ha | ha <;> rw [ha] <;> decide
    obtain ⟨hserved, hc, hp⟩ := (hv.setPos (p := q) (by rw [hpos]; exact hq)).countLoss hpk
    rw [hrec] at hexec
    obtain ⟨hf, hfp, hfc, hfn⟩ := hserved.finish
    refine ⟨_, hexec hserved, hf, ?_⟩
    rw [hfp, hfc, hfn, hp, hc, State.setPos_pos, hloss]
    by_cases hl : s.pos.lossRun < 3
    · rw [if_pos hl]
      exact ⟨htgt, hoff, hchm, hctl, fun _ => ⟨hact, rfl, hdl, hmv, hheld⟩, fun k => absurd hl (by omega)⟩
    · rw [if_neg hl]
      refine ⟨htgt, hoff, hchm, hctl, fun k => absurd k hl, fun _ => ⟨rfl, rfl, rfl, rfl, rfl, rfl, fun k => ?_⟩⟩
      rw [Pos.heldDone_of_none (hheld.trans k)]
      show benchOutcome q.lastBench q.actMove _ = _
      rw [hlast, hmv]

end Sys2Proof.Machine
end

section
/-! PROOF. LINES_WRITE: its checks, and the groups passed between engine and bench (R163 to R168). -/

namespace Sys2Proof.Machine

variable {s t u : State}

/-! ## A request without jobs -/

/-- Without jobs a request ends with what its owner made of the state, but for the reply and the reports (R187; log 15). -/
theorem request_noneHears {k : RequestKind} {tag : Byte} {p : List Byte} {a : Answer} (h : s.LinkReady) (hp : p.length ≤ 240)
    (hl : ∀ n, k.fixedLength = some n → p.length = n) (hk : k ≠ .restWrite)
    (ha : ((s.reloadFor k).openReply tag).handle k p = (a, t)) (hn : t.NoneHears) :
    ∃ x w, request k.code tag p s = .next ((t.setInbox []).setBlk { t.blk with sending := x, waiting := w }) := by
  have hf : (t.fillReply (a.frame tag) (isResetAck k a)).NoneHears := hn
  obtain ⟨x, w, e⟩ := hf.finish_eq
  refine ⟨x, w, ?_⟩
  rw [request_good h k tag hp hl]
  unfold arrival State.answer
  simp only [hk, if_false, openReply_reloadFor, ha, e]
  rfl

/-- The state in which LINES_WRITE is taken, its reply open. -/
theorem openReply_lineReq (tag : Byte) : ∃ r, (s.reload .lineReq).openReply tag = (s.setRtm r).openReply tag := by
  obtain ⟨r, e⟩ := reload_eq s .lineReq
  exact ⟨r, by rw [e]⟩

/-- LINES_WRITE that is refused (R168). -/
theorem lines_refused {tag group owner head mode level : Byte} {c : RefuseCode} {n : Nat} (h : s.LinkReady)
    (ht : ((s.reload .lineReq).openReply tag).takeLinesWrite group.toNat owner.toNat head.toNat mode.toNat level.toNat =
      .error { code := c, detail := n }) :
    exec (.linesWrite tag group owner head mode level) s = .next ((s.reload .lineReq).refuses tag c n) := by
  refine request_kept (k := .linesWrite) (p := [group, owner, head, mode, level]) (a := .refuse { code := c, detail := n }) h
    (by simp) (fun n hn => by cases hn; rfl) (by decide) ?_
  show ((s.reload .lineReq).openReply tag).reqLinesWrite group.toNat owner.toNat head.toNat mode.toNat level.toNat = _
  unfold State.reqLinesWrite
  rw [ht]
  rfl

/-- LINES_WRITE that is taken: the state that its group's change leaves, but for reply and reports (R168). -/
theorem lines_taken {tag group owner head mode level : Byte} {g : Group} (h : s.LinkReady)
    (hu : (s.reload .lineReq).openReply tag = u)
    (ht : u.takeLinesWrite group.toNat owner.toNat head.toNat mode.toNat level.toNat = .ok (g, t)) (hn : t.NoneHears) :
    ∃ x w, exec (.linesWrite tag group owner head mode level) s =
      .next ((t.setInbox []).setBlk { t.blk with sending := x, waiting := w }) := by
  refine request_noneHears (k := .linesWrite) (p := [group, owner, head, mode, level]) (a := .ack (t.groupBytes g)) h
    (by simp) (fun n hn => by cases hn; rfl) (by decide) ?_ hn
  show ((s.reload .lineReq).openReply tag).reqLinesWrite group.toNat owner.toNat head.toNat mode.toNat level.toNat = _
  unfold State.reqLinesWrite
  rw [hu, ht]

/-! ## The checks (R168) -/

theorem group_ofCode_none {n : Nat} (h : 2 < n) : Group.ofCode n = none := by
  match n, h with
  | n + 3, _ => rfl

theorem group_ofCode_some {n : Nat} (h : n ≤ 2) : ∃ g, Group.ofCode n = some g := by
  match n, h with
  | 0, _ => exact ⟨_, rfl⟩
  | 1, _ => exact ⟨_, rfl⟩
  | 2, _ => exact ⟨_, rfl⟩

theorem preampMode_ofCode_none {n : Nat} (h : 2 < n) : PreampMode.ofCode n = none := by
  match n, h with
  | n + 3, _ => rfl

theorem preampMode_ofCode_some {n : Nat} (h : n ≤ 2) : ∃ m, PreampMode.ofCode n = some m ∧ m.code = n := by
  match n, h with
  | 0, _ => exact ⟨_, rfl, rfl⟩
  | 1, _ => exact ⟨_, rfl, rfl⟩
  | 2, _ => exact ⟨_, rfl, rfl⟩

theorem levelOfCode_none {n : Nat} (h : 1 < n) : levelOfCode n = none := by
  match n, h with
  | n + 2, _ => rfl

/-- Byte 0 is ON (R168, log 18). -/
theorem levelOfCode_some {b : Byte} (h : b.toNat ≤ 1) : levelOfCode b.toNat = some (decide (b = 0)) := by
  by_cases hb : b = 0
  · subst hb; rfl
  · have h1 : b.toNat = 1 := by
      have h0 : b.toNat ≠ 0 := fun k => hb (BitVec.eq_of_toNat_eq k)
      omega
    rw [h1, decide_eq_false hb]
    rfl

/-- To the bench, a group is checked and then passed (R168). -/
theorem takeLinesWrite_toBench {group : Nat} {g : Group} (hg : Group.ofCode group = some g) (head mode level : Nat) :
    s.takeLinesWrite group 1 head mode level =
      match s.benchCheck g head mode level with
      | some r => .error r
      | none => .ok (g, s.toBench g head mode level) := by
  unfold State.takeLinesWrite
  rw [hg]
  rfl

/-- To the engine, a group is passed at once (R168). -/
theorem takeLinesWrite_toEngine {group : Nat} {g : Group} (hg : Group.ofCode group = some g) (head mode level : Nat) :
    s.takeLinesWrite group 0 head mode level = .ok (g, s.toEngine g) := by
  unfold State.takeLinesWrite
  rw [hg]
  rfl

/-! ## SELECT and SPINDLE (R164, R165) -/

/-- In PARKED a head change clears the recovery marker if anything (R6). -/
theorem takeHeadChange_parked (ha : s.pos.act = .parked) (n : Nat) : ∃ m, (s.sdc.marker = false → m = false) ∧
    s.takeHeadChange n = s.setSdc { s.sdc with marker := m } := by
  unfold State.takeHeadChange
  split
  · exact ⟨s.sdc.marker, id, rfl⟩
  · exact ⟨false, fun _ => rfl, by simp [ha]⟩

/-- The engine's drive follows its SPIN_ENABLE (R18, log 37). -/
theorem spindleDrive_of_engine (h : s.flc.spindleBench = false) : s.spindleDrive =
    if s.pos.spindle = .accelerating ∨ s.pos.spindle = .atSpeed ∨ s.pos.spindle = .offSpeed then .regulated else .released := by
  unfold State.spindleDrive
  rw [h]
  cases s.pos.spindle <;> rfl

/-- The bench level drives SPIN_ENABLE and the motor (R165). -/
theorem spindleDrive_of_bench {p : Prop} [Decidable p] (h : s.flc.spindleBench = true) (hb : s.flc.benchSpin = decide p) :
    s.spinEnable = decide p ∧ s.spindleDrive = if p then .unregulated else .released := by
  unfold State.spinEnable State.spindleDrive
  rw [if_pos h, if_pos h, hb]
  exact ⟨rfl, if_congr (decide_eq_true_iff (p := p)) rfl rfl⟩

/-! ## The return of SENSE (R166) -/

/-- What an unload demanded of loaded heads leaves, whatever the ramp line says (R38, R39). -/
theorem beginUnload_cause (hr : s.running = none) (hl : s.pos.act.isLoaded = true) (c : UnloadCause) :
    (s.beginUnload c).pos.unloadCause = c ∧
      (s.rampView = .onRamp → (s.beginUnload c).pos.act = .parked ∧ (s.beginUnload c).pos.lastPark = some (c, false)) ∧
      (s.window = none → (s.beginUnload c).flc.engineHead = s.flc.engineHead) ∧
      (s.NoneHears → (s.beginUnload c).NoneHears) := by
  obtain ⟨t, hm, e⟩ := beginUnload_moved s hr hl c
  have hw : s.window = none → t.flc.engineHead = s.flc.engineHead := fun k => by
    rw [windowAt_of_none k] at hm
    obtain ⟨n, m, ms, -, hk, rfl⟩ := hm
    exact (hk k.symm).1
  have hn : s.NoneHears → (t.setBlk (s.blk.unloadBegunBy c)).NoneHears := hm.noneHears
  have hp : (t.setBlk (s.blk.unloadBegunBy c)).pos = s.pos.unloadBegunBy c (s.now + s.prof.unloadMs * 200000) := hm.reads.1
  have hf : (t.setBlk (s.blk.unloadBegunBy c)).flc = t.flc := rfl
  generalize t.setBlk (s.blk.unloadBegunBy c) = u at e hn hp hf
  rw [e]
  by_cases hv : s.rampView = .onRamp
  · obtain ⟨ms, hms, e'⟩ := arrivePark_eq u false (by rw [hp]; rfl)
    have hcause : (u.pos.parked false u.now).unloadCause = c ∧ (u.pos.parked false u.now).lastPark = some (c, false) := by
      have hc : u.pos.unloadCause = c := by rw [hp]; rfl
      unfold Pos.parked
      split
      · exact ⟨hc, congrArg (fun x => some (x, false)) hc⟩
      · exact ⟨hc, congrArg (fun x => some (x, false)) hc⟩
    rw [if_pos hv, e']
    exact ⟨hcause.1, fun _ => ⟨Pos.parked_act _ _ _, hcause.2⟩, fun k => by rw [← hw k, ← hf]; rfl,
      fun k => State.NoneHears.tells (s := ((u.setPos _).setSdc _).setBlk _) (hn k) hms.not_restTest⟩
  · rw [if_neg hv]
    exact ⟨by rw [hp]; rfl, fun k => absurd k hv, fun k => by rw [hf, hw k], hn⟩

/-- An unload off the ramp has begun (R38). -/
theorem beginUnload_begun (hr : s.running = none) (hl : s.pos.act.isLoaded = true) (hv : s.rampView = .offRamp)
    (c : UnloadCause) : UnloadBegun s c (s.beginUnload c) := by
  obtain ⟨t, hm, e⟩ := beginUnload_moved s hr hl c
  obtain ⟨hpos, hwin, -, hnow, hpst, hchm, -⟩ := hm.reads
  have hs : t.sdc.counters = s.sdc.counters := by obtain ⟨_, _, _, -, -, rfl⟩ := hm; simp
  have hh := hm.hmp
  rw [e, if_neg (by rw [hv]; decide)]
  exact unloadBegun_of s hnow hpos hwin rfl hchm hpst hs hh

/-- Reports taken and a reply waiting change no unload that has begun. -/
theorem UnloadBegun.settle {c : UnloadCause} (h : UnloadBegun s c t) (i : List JctMsg) {b : Blk} (hb : b.events = t.blk.events) :
    UnloadBegun s c ((t.setInbox i).setBlk b) :=
  ⟨h.now, h.act, h.coil, h.deadline, h.runs, h.held, h.move, h.cause, fun k => by
    show b.events.motion = true
    rw [hb]
    exact h.motion k, h.window, h.kept, h.chm, h.pst, h.counters, h.published⟩

/-- Reports taken and a reply waiting move no parked head. -/
theorem ParkedFrom.settle {c : Bool} (h : ParkedFrom u c t) (hp : u.pos = s.pos) (hs : u.sdc = s.sdc) (hc : u.chm = s.chm)
    (hst : u.pst = s.pst) (hm : u.hmp = s.hmp) (i : List JctMsg) (b : Blk) : ParkedFrom s c ((t.setInbox i).setBlk b) := by
  obtain ⟨hact, -, hdl, hmv, hout, hrec, hslots, hspin, hpend, hkept⟩ := h
  rw [hp] at hout hrec hspin hkept
  rw [hs] at hslots
  rw [hc, hst, hm] at hkept
  exact ⟨hact, State.coilDrive_parked hact, hdl, hmv, hout, hrec, hslots, hspin, hpend, hkept⟩

/-- What the return of SENSE makes of `u` without jobs (R39, R166, R167). -/
structure SenseBack (u t : State) : Prop where
  flc : t.flc = { u.flc with senseBench := false, engineHead := t.flc.engineHead }
  head : u.window = none → t.flc.engineHead = u.flc.engineHead
  noneHears : t.NoneHears
  parked : u.pos.act = .unloading → u.flc.heldRamp = .offRamp → u.flc.liveRamp = .onRamp → ParkedFrom u false t
  unloads : u.pos.act.isLoaded = true → u.flc.heldPreamp = .inactive → u.flc.livePreamp = .active →
    t.pos.unloadCause = .preamp ∧ (u.flc.liveRamp = .offRamp → UnloadBegun u .preamp t) ∧
      (u.flc.liveRamp = .onRamp → t.pos.act = .parked ∧ t.pos.lastPark = some (.preamp, false))
  still : ¬(u.pos.act = .unloading ∧ u.flc.heldRamp = .offRamp ∧ u.flc.liveRamp = .onRamp) →
    ¬(u.pos.act.isLoaded = true ∧ u.flc.heldPreamp = .inactive ∧ u.flc.livePreamp = .active) → t.pos = u.pos
  fault : u.flc.heldPreamp = .inactive → u.flc.livePreamp = .active → t.blk.events.preamp = true
  quiet : ¬(u.flc.heldPreamp = .inactive ∧ u.flc.livePreamp = .active) → t.blk.events = u.blk.events

/-- The lines once SENSE is the engine's again. -/
def State.sensed (u : State) : State := u.setFlc { u.flc with senseBench := false }

/-- The ramp's share of the return (R39, R166). -/
def State.rampBack (u : State) : State :=
  if u.flc.heldRamp = .offRamp ∧ u.flc.liveRamp = .onRamp then u.sensed.rampArrives else u.sensed

theorem senseToEngine_eq : u.senseToEngine =
    if u.flc.heldPreamp = .inactive ∧ u.flc.livePreamp = .active then u.rampBack.preampArrives else u.rampBack := by
  have hr : (u.flc.liveRamp ≠ u.flc.heldRamp ∧ u.flc.liveRamp = .onRamp) ↔
      (u.flc.heldRamp = .offRamp ∧ u.flc.liveRamp = .onRamp) := by
    cases u.flc.liveRamp <;> cases u.flc.heldRamp <;> decide
  have hp : (u.flc.livePreamp ≠ u.flc.heldPreamp ∧ u.flc.livePreamp = .active) ↔
      (u.flc.heldPreamp = .inactive ∧ u.flc.livePreamp = .active) := by
    cases u.flc.livePreamp <;> cases u.flc.heldPreamp <;> decide
  unfold State.senseToEngine State.rampBack State.sensed
  dsimp only
  rw [if_congr hp rfl rfl, if_congr hr rfl rfl]

/-- Outside UNLOADING, or without a change to ON_RAMP, the ramp's share changes no head. -/
theorem rampBack_still (h : ¬(u.pos.act = .unloading ∧ u.flc.heldRamp = .offRamp ∧ u.flc.liveRamp = .onRamp)) :
    u.rampBack = u.sensed := by
  unfold State.rampBack
  split
  next hr =>
    unfold State.rampArrives
    exact if_neg fun ha => h ⟨ha, hr⟩
  next => rfl

/-- The return that parks an unload in progress: a fault besides makes PREAMP pending alone (R39, R167). -/
theorem senseBack_parks (hn : u.NoneHears) (ha : u.pos.act = .unloading) (hh : u.flc.heldRamp = .offRamp)
    (hl : u.flc.liveRamp = .onRamp) : SenseBack u u.senseToEngine := by
  obtain ⟨ms, hms, e⟩ := arrivePark_eq u.sensed false ha
  have hpark : u.rampBack = u.sensed.arrivePark false := by
    unfold State.rampBack State.rampArrives
    rw [if_pos ⟨hh, hl⟩]
    exact if_pos ha
  have hfrom : ∀ b, ParkedFrom u false
      ((((u.sensed.setPos (u.sensed.pos.parked false u.sensed.now)).setSdc u.sensed.sdc.stopped).setBlk b).tells ms) :=
    fun _ => parkedFrom_of (s := u) (n := u.now) rfl rfl rfl rfl rfl
  have hnone : ∀ b, ((((u.sensed.setPos (u.sensed.pos.parked false u.sensed.now)).setSdc u.sensed.sdc.stopped).setBlk b).tells
      ms).NoneHears := fun b => State.NoneHears.tells
        (s := ((u.sensed.setPos (u.sensed.pos.parked false u.sensed.now)).setSdc u.sensed.sdc.stopped).setBlk b) hn hms.not_restTest
  have hun : u.pos.act.isLoaded = false := by rw [ha]; rfl
  rw [senseToEngine_eq, hpark, e]
  split
  next hf =>
    have hraise : (((((u.sensed.setPos (u.sensed.pos.parked false u.sensed.now)).setSdc u.sensed.sdc.stopped).setBlk
        (u.sensed.blk.parked false)).tells ms)).preampArrives =
        (((u.sensed.setPos (u.sensed.pos.parked false u.sensed.now)).setSdc u.sensed.sdc.stopped).setBlk
          (u.blk.raise .preamp)).tells ms :=
      preampArrives_unloaded _ (by
        show (u.sensed.pos.parked false u.sensed.now).act.isLoaded = false
        rw [Pos.parked_act]
        rfl)
    rw [hraise]
    exact ⟨rfl, fun _ => rfl, hnone _, fun _ _ _ => hfrom _, fun k => absurd (hun.symm.trans k) (by decide),
      fun k => absurd ⟨ha, hh, hl⟩ k, fun _ _ => raise_has u .preamp, fun k => absurd hf k⟩
  next hf =>
    exact ⟨rfl, fun _ => rfl, hnone _, fun _ _ _ => hfrom _, fun k => absurd (hun.symm.trans k) (by decide),
      fun k => absurd ⟨ha, hh, hl⟩ k, fun k1 k2 => absurd ⟨k1, k2⟩ hf, fun _ => rfl⟩

/-- The return that unloads loaded heads for a fault (R38, R167). -/
theorem senseBack_unloads (hn : u.NoneHears) (hl : u.pos.act.isLoaded = true) (hf : u.flc.heldPreamp = .inactive)
    (hf' : u.flc.livePreamp = .active) : SenseBack u u.senseToEngine := by
  have hnot : ¬(u.pos.act = .unloading ∧ u.flc.heldRamp = .offRamp ∧ u.flc.liveRamp = .onRamp) := fun k => by
    rw [k.1] at hl
    cases hl
  have he : u.senseToEngine = ((u.sensed.raise .preamp).beginUnload .preamp).tell .preampFault := by
    rw [senseToEngine_eq, if_pos ⟨hf, hf'⟩, rampBack_still hnot]
    unfold State.preampArrives
    exact if_pos hl
  have hr : (u.sensed.raise .preamp).running = none := running_noJobs hn.1
  obtain ⟨hc, hon, hhead, hnone⟩ := beginUnload_cause hr hl .preamp
  have hcar := beginUnload_carries (u.sensed.raise .preamp) .preamp
  have hbegun := fun hv => beginUnload_begun (s := u.sensed.raise .preamp) hr hl hv .preamp
  rw [he]
  generalize (u.sensed.raise .preamp).beginUnload .preamp = t at *
  refine ⟨hcar.flc, hhead, (hnone hn).tells (ms := [.preampFault]) (by simp),
    fun k => absurd (hl.symm.trans (congrArg ActState.isLoaded k)) (by decide),
    fun _ _ _ => ⟨hc, fun hv => ?_, hon⟩, fun _ k => absurd ⟨hl, hf, hf'⟩ k,
    fun _ _ => hcar.raised .preamp (raise_has u.sensed .preamp), fun k => absurd ⟨hf, hf'⟩ k⟩
  exact ((hbegun hv).settle (t.inbox ++ [.preampFault]) (b := t.blk) rfl).congr (s := u) rfl rfl
    ⟨rfl, rfl, rfl, rfl⟩ rfl rfl rfl rfl

/-- The return that moves no head (R166, R167). -/
theorem senseBack_still (hn : u.NoneHears) (hp : ¬(u.pos.act = .unloading ∧ u.flc.heldRamp = .offRamp ∧ u.flc.liveRamp = .onRamp))
    (hf : ¬(u.pos.act.isLoaded = true ∧ u.flc.heldPreamp = .inactive ∧ u.flc.livePreamp = .active)) :
    SenseBack u u.senseToEngine := by
  rw [senseToEngine_eq, rampBack_still hp]
  split
  next k =>
    have hl : u.pos.act.isLoaded = false := by
      rw [← Bool.not_eq_true]
      exact fun c => hf ⟨c, k⟩
    rw [preampArrives_unloaded _ (by exact hl)]
    exact ⟨rfl, fun _ => rfl, hn, fun a b c => absurd ⟨a, b, c⟩ hp, fun a b c => absurd ⟨a, b, c⟩ hf, fun _ _ => rfl,
      fun _ _ => raise_has u .preamp, fun c => absurd k c⟩
  next k =>
    exact ⟨rfl, fun _ => rfl, hn, fun a b c => absurd ⟨a, b, c⟩ hp, fun a b c => absurd ⟨a, b, c⟩ hf, fun _ _ => rfl,
      fun a b => absurd ⟨a, b⟩ k, fun _ => rfl⟩

theorem senseToEngine_back (hn : u.NoneHears) : SenseBack u u.senseToEngine := by
  by_cases hp : u.pos.act = .unloading ∧ u.flc.heldRamp = .offRamp ∧ u.flc.liveRamp = .onRamp
  · exact senseBack_parks hn hp.1 hp.2.1 hp.2.2
  · by_cases hf : u.pos.act.isLoaded = true ∧ u.flc.heldPreamp = .inactive ∧ u.flc.livePreamp = .active
    · exact senseBack_unloads hn hf.1 hf.2.1 hf.2.2
    · exact senseBack_still hn hp hf

/-- An engine-owned group stays as it is when the engine is to own it (R168). -/
theorem toEngine_of_engine {g : Group} (h : s.flc.owned g = false) : s.toEngine g = s := by
  unfold State.toEngine
  exact if_neg (by rw [h]; decide)

/-- LINES_WRITE that changes nothing is answered at once, its source's timer reloaded (R158, R168). -/
theorem lines_kept {tag group owner head mode level : Byte} {g : Group} (h : s.LinkReady)
    (ht : ((s.reload .lineReq).openReply tag).takeLinesWrite group.toNat owner.toNat head.toNat mode.toNat level.toNat =
      .ok (g, (s.reload .lineReq).openReply tag)) : ∃ f,
    exec (.linesWrite tag group owner head mode level) s = .next ((s.reload .lineReq).sends f false) := by
  refine ⟨_, request_kept (k := .linesWrite) (p := [group, owner, head, mode, level])
    (a := .ack (((s.reload .lineReq).openReply tag).groupBytes g)) h (by simp) (fun n hn => by cases hn; rfl) (by decide) ?_⟩
  show ((s.reload .lineReq).openReply tag).reqLinesWrite group.toNat owner.toNat head.toNat mode.toNat level.toNat = _
  unfold State.reqLinesWrite
  rw [ht]
  rfl

/-! ## Each group to the bench -/

/-- `u` is the state in which a LINES_WRITE without jobs is taken: `s` with its source's timer reloaded and its reply open. -/
structure LinesTaken (s u : State) (tag : Byte) : Prop where
  ready : s.LinkReady
  eq : (s.reload .lineReq).openReply tag = u
  pos : u.pos = s.pos
  flc : u.flc = s.flc
  sdc : u.sdc = s.sdc
  prof : u.prof = s.prof
  now : u.now = s.now
  window : u.window = s.window
  rtm : u.rtm = (s.reload .lineReq).rtm
  store : u.chm = s.chm ∧ u.pst = s.pst ∧ u.hmp = s.hmp
  events : u.blk.events = s.blk.events
  noneHears : u.NoneHears

theorem linesTaken_of (tag : Byte) (h : s.LinkReady) (hj : s.NoJobs) :
    LinesTaken s ((s.reload .lineReq).openReply tag) tag := by
  obtain ⟨r, e⟩ := openReply_lineReq (s := s) tag
  have hrtm : ((s.reload .lineReq).openReply tag).rtm = (s.reload .lineReq).rtm := rfl
  refine ⟨h, rfl, ?_, ?_, ?_, ?_, ?_, ?_, hrtm, ?_, ?_, ?_⟩ <;> rw [e]
  case refine_7 => exact ⟨rfl, rfl, rfl⟩
  case refine_9 => exact noneHears_noJobs (s := s) hj
  all_goals rfl

section
variable {tag head mode level : Byte} (h : LinesTaken s u tag)
include h

/-- A check fails (R168). -/
theorem LinesTaken.refused {group : Byte} {g : Group} {c : RefuseCode} {n : Nat} (hg : Group.ofCode group.toNat = some g)
    (hc : u.benchCheck g head.toNat mode.toNat level.toNat = some { code := c, detail := n }) :
    exec (.linesWrite tag group 1 head mode level) s = .next ((s.reload .lineReq).refuses tag c n) := by
  refine lines_refused h.ready ?_
  rw [h.eq]
  show u.takeLinesWrite group.toNat 1 head.toNat mode.toNat level.toNat = _
  rw [takeLinesWrite_toBench hg, hc]

/-- The checks pass (R168). -/
theorem LinesTaken.toBench {group : Byte} {g : Group} (hg : Group.ofCode group.toNat = some g)
    (hc : u.benchCheck g head.toNat mode.toNat level.toNat = none) (ht : u.toBench g head.toNat mode.toNat level.toNat = t)
    (hn : t.NoneHears) : ∃ x w, exec (.linesWrite tag group 1 head mode level) s =
      .next ((t.setInbox []).setBlk { t.blk with sending := x, waiting := w }) := by
  refine lines_taken h.ready h.eq (g := g) ?_ hn
  show u.takeLinesWrite group.toNat 1 head.toNat mode.toNat level.toNat = _
  rw [takeLinesWrite_toBench hg, hc, ht]

/-- A group that the bench owns returns (R168). -/
theorem LinesTaken.toEngine {group : Byte} {g : Group} (hg : Group.ofCode group.toNat = some g) (ht : u.toEngine g = t)
    (hn : t.NoneHears) : ∃ x w, exec (.linesWrite tag group 0 head mode level) s =
      .next ((t.setInbox []).setBlk { t.blk with sending := x, waiting := w }) := by
  refine lines_taken h.ready h.eq (g := g) ?_ hn
  show u.takeLinesWrite group.toNat 0 head.toNat mode.toNat level.toNat = _
  rw [takeLinesWrite_toEngine hg, ht]

/-- The checks of SELECT (R168). -/
theorem LinesTaken.selectCheck : u.benchCheck .select head.toNat mode.toNat level.toNat =
    if s.prof.headCount ≤ head.toNat then some { code := .badValue, detail := 2 }
    else if 2 < mode.toNat then some { code := .badValue, detail := 3 }
    else if s.flc.selectBench = false ∧ s.pos.act ≠ .parked then some { code := .notParked, detail := s.pos.act.code }
    else none := by
  have hm : (PreampMode.ofCode mode.toNat).isNone = true ↔ 2 < mode.toNat := by
    rcases Nat.lt_or_ge 2 mode.toNat with k | k
    · rw [preampMode_ofCode_none k]
      exact ⟨fun _ => k, fun _ => rfl⟩
    · obtain ⟨x, hx, -⟩ := preampMode_ofCode_some k
      rw [hx]
      exact ⟨fun c => (Bool.false_ne_true c).elim, fun c => absurd c (by omega)⟩
  unfold State.benchCheck
  dsimp only
  rw [h.prof, h.flc, h.pos]
  simp only [hm]

/-- The checks of SPINDLE (R168). -/
theorem LinesTaken.spindleCheck : u.benchCheck .spindle head.toNat mode.toNat level.toNat =
    if 1 < level.toNat then some { code := .badValue, detail := 4 }
    else if s.flc.spindleBench then none
    else if s.pos.spindle ≠ .stopped then some { code := .notStopped, detail := s.pos.spindle.code }
    else if s.pos.act ≠ .parked then some { code := .notStopped, detail := s.pos.act.code } else none := by
  have hm : (levelOfCode level.toNat).isNone = true ↔ 1 < level.toNat := by
    rcases Nat.lt_or_ge 1 level.toNat with k | k
    · rw [levelOfCode_none k]
      exact ⟨fun _ => k, fun _ => rfl⟩
    · rw [levelOfCode_some k]
      exact ⟨fun c => (Bool.false_ne_true c).elim, fun c => absurd c (by omega)⟩
  unfold State.benchCheck
  dsimp only
  rw [h.flc, h.pos]
  simp only [hm]

/-- SELECT passes to the bench, its head and mode driven (R164). -/
theorem LinesTaken.select (hh : head.toNat < s.prof.headCount) (hm : mode.toNat ≤ 2) (ha : s.pos.act = .parked) :
    ∃ t, exec (.linesWrite tag 0 1 head mode level) s = .next t ∧ t.flc.selectBench = true ∧ t.drivenHead = head.toNat ∧
      t.drivenMode.code = mode.toNat ∧
      t.flc = { s.flc with selectBench := true, benchHead := head.toNat, benchMode := t.flc.benchMode } ∧
      t.pos = s.pos ∧ (s.sdc.marker = false → t.sdc.marker = false) ∧ t.rtm = (s.reload .lineReq).rtm := by
  have hc := h.selectCheck (head := head) (mode := mode) (level := level)
  rw [if_neg (by omega), if_neg (by omega), if_neg (fun k => k.2 ha)] at hc
  obtain ⟨x, hx, hxc⟩ := preampMode_ofCode_some hm
  obtain ⟨m, hmark, he⟩ := takeHeadChange_parked
    (s := u.setFlc { u.flc with selectBench := true, benchHead := head.toNat, benchMode := x }) (by rw [← h.pos] at ha; exact ha)
    u.drivenHead
  have ht : u.toBench .select head.toNat mode.toNat level.toNat =
      (u.setFlc { u.flc with selectBench := true, benchHead := head.toNat, benchMode := x }).setSdc { u.sdc with marker := m } := by
    unfold State.toBench State.selectToBench
    dsimp only
    rw [hx]
    exact he
  obtain ⟨y, w, hy⟩ := h.toBench (group := 0) rfl hc ht h.noneHears
  refine ⟨_, hy, rfl, rfl, hxc, ?_, h.pos, fun k => hmark (by rw [← k, ← h.sdc]; rfl), h.rtm⟩
  rw [← h.flc]
  rfl

/-- SPINDLE passes to the bench, and its level drives the motor (R165). -/
theorem LinesTaken.spindle (hv : level.toNat ≤ 1) (hb : s.flc.spindleBench = false) (hs : s.pos.spindle = .stopped)
    (ha : s.pos.act = .parked) : ∃ t, exec (.linesWrite tag 1 1 head mode level) s = .next t ∧
      t.flc = { s.flc with spindleBench := true, benchSpin := decide (level = 0) } ∧ t.pos = { s.pos with spindle := .bench } ∧
      t.spinEnable = decide (level = 0) ∧ t.spindleDrive = if level = 0 then .unregulated else .released := by
  have hc := h.spindleCheck (head := head) (mode := mode) (level := level)
  rw [if_neg (by omega), if_neg (by rw [hb]; decide), if_neg (fun k => k hs), if_neg (fun k => k ha)] at hc
  have ht : u.toBench .spindle head.toNat mode.toNat level.toNat =
      ((u.setFlc { u.flc with spindleBench := true, benchSpin := decide (level = 0) }).setPos { u.pos with spindle := .bench }).tells
        [.posChanged] := by
    unfold State.toBench
    dsimp only
    rw [if_neg (by rw [h.flc, hb]; decide), levelOfCode_some hv]
    rfl
  obtain ⟨y, w, hy⟩ := h.toBench (group := 1) rfl hc ht
    (State.NoneHears.tells (s := (u.setFlc { u.flc with spindleBench := true, benchSpin := decide (level = 0) }).setPos
      { u.pos with spindle := .bench }) h.noneHears (by simp))
  refine ⟨_, hy, by rw [← h.flc]; rfl, by rw [← h.pos]; rfl, ?_⟩
  exact spindleDrive_of_bench (p := level = 0)
    (s := u.setFlc { u.flc with spindleBench := true, benchSpin := decide (level = 0) }) rfl rfl

/-- SPINDLE already the bench's: its level is replaced (R165). -/
theorem LinesTaken.spindleLevel (hv : level.toNat ≤ 1) (hb : s.flc.spindleBench = true) :
    ∃ t, exec (.linesWrite tag 1 1 head mode level) s = .next t ∧
      t.flc = { s.flc with benchSpin := decide (level = 0) } ∧ t.pos = s.pos ∧ t.spinEnable = decide (level = 0) ∧
      t.spindleDrive = if level = 0 then .unregulated else .released := by
  have hc := h.spindleCheck (head := head) (mode := mode) (level := level)
  rw [if_neg (by omega), if_pos hb] at hc
  have ht : u.toBench .spindle head.toNat mode.toNat level.toNat = u.setFlc { u.flc with benchSpin := decide (level = 0) } := by
    unfold State.toBench
    dsimp only
    rw [if_pos (by rw [h.flc, hb]), levelOfCode_some hv]
    rfl
  obtain ⟨y, w, hy⟩ := h.toBench (group := 1) rfl hc ht h.noneHears
  refine ⟨_, hy, by rw [← h.flc]; rfl, h.pos, ?_⟩
  exact spindleDrive_of_bench (p := level = 0) (s := u.setFlc { u.flc with benchSpin := decide (level = 0) })
    (by rw [← h.flc] at hb; exact hb) rfl

/-- SENSE passes to the bench, the live levels held (R166). -/
theorem LinesTaken.sense (hb : s.flc.senseBench = false) :
    ∃ t, exec (.linesWrite tag 2 1 head mode level) s = .next t ∧
      t.flc = { s.flc with senseBench := true, heldRamp := s.flc.liveRamp, heldPreamp := s.flc.livePreamp } ∧
      t.pos = s.pos ∧ t.rampView = s.rampView ∧ t.preampView = s.preampView := by
  have ht : u.toBench .sense head.toNat mode.toNat level.toNat =
      u.setFlc { u.flc with senseBench := true, heldRamp := u.flc.liveRamp, heldPreamp := u.flc.livePreamp } := by
    unfold State.toBench
    exact if_neg (by rw [h.flc, hb]; decide)
  obtain ⟨y, w, hy⟩ := h.toBench (group := 2) (g := .sense) rfl rfl ht h.noneHears
  refine ⟨_, hy, by rw [← h.flc]; rfl, h.pos, ?_, ?_⟩
  · unfold State.rampView
    rw [hb, ← h.flc]
    rfl
  · unfold State.preampView
    rw [hb, ← h.flc]
    rfl

/-- SENSE already the bench's stays as it is (R168). -/
theorem LinesTaken.senseHeld (hb : s.flc.senseBench = true) :
    ∃ t, exec (.linesWrite tag 2 1 head mode level) s = .next t ∧ t.flc = s.flc ∧ t.pos = s.pos ∧ t.sdc = s.sdc ∧
      t.blk.events = s.blk.events ∧ t.rampView = s.rampView ∧ t.preampView = s.preampView := by
  have ht : u.toBench .sense head.toNat mode.toNat level.toNat = u := by
    unfold State.toBench
    exact if_pos (by rw [h.flc, hb])
  obtain ⟨y, w, hy⟩ := h.toBench (group := 2) (g := .sense) rfl rfl ht h.noneHears
  refine ⟨_, hy, h.flc, h.pos, h.sdc, h.events, ?_, ?_⟩
  · unfold State.rampView
    rw [← h.flc]
    rfl
  · unfold State.preampView
    rw [← h.flc]
    rfl

/-! ## Each group to the engine -/

/-- SELECT returns, the engine selection driven again (R164). -/
theorem LinesTaken.selectBack (hb : s.flc.selectBench = true) (ha : s.pos.act = .parked) :
    ∃ t, exec (.linesWrite tag 0 0 head mode level) s = .next t ∧ t.flc = { s.flc with selectBench := false } ∧
      t.drivenHead = s.flc.engineHead ∧ t.drivenMode = .standby ∧ t.pos = s.pos ∧
      (s.sdc.marker = false → t.sdc.marker = false) := by
  obtain ⟨m, hmark, he⟩ := takeHeadChange_parked (s := u.setFlc { u.flc with selectBench := false })
    (by rw [← h.pos] at ha; exact ha) u.drivenHead
  have ht : u.toEngine .select =
      ((u.setFlc { u.flc with selectBench := false }).setSdc { u.sdc with marker := m }).tells [.linesReturned] := by
    unfold State.toEngine
    rw [if_pos (by rw [h.flc]; exact hb)]
    exact congrArg (State.tells · [.linesReturned]) he
  obtain ⟨y, w, hy⟩ := h.toEngine (group := 0) rfl ht (State.NoneHears.tells
    (s := (u.setFlc { u.flc with selectBench := false }).setSdc { u.sdc with marker := m }) h.noneHears (by simp))
  refine ⟨_, hy, by rw [← h.flc]; rfl, by rw [← h.flc]; rfl, ?_, h.pos, fun k => hmark (by rw [← k, ← h.sdc]; rfl)⟩
  show (if u.pos.act = .parked then _ else _) = _
  rw [if_pos (by rw [h.pos]; exact ha)]

/-- SPINDLE returns braking, the drive released (R165). -/
theorem LinesTaken.spindleBack (hb : s.flc.spindleBench = true) :
    ∃ t, exec (.linesWrite tag 1 0 head mode level) s = .next t ∧ t.flc = { s.flc with spindleBench := false } ∧
      t.pos.spindle = .braking ∧ t.pos.quietDue = some (s.now + 100000000) ∧ t.spinEnable = false ∧
      t.spindleDrive = .released ∧ t.pos.act = s.pos.act ∧ t.sdc = s.sdc := by
  have ht : u.toEngine .spindle = ((u.setFlc { u.flc with spindleBench := false }).setPos (u.pos.braked u.now)).tells
      ([.posChanged] ++ [.linesReturned]) := by
    unfold State.toEngine
    rw [if_pos (by rw [h.flc]; exact hb), ← State.tells_tells]
    rfl
  obtain ⟨y, w, hy⟩ := h.toEngine (group := 1) rfl ht (State.NoneHears.tells
    (s := (u.setFlc { u.flc with spindleBench := false }).setPos (u.pos.braked u.now)) h.noneHears (by simp))
  refine ⟨_, hy, by rw [← h.flc]; rfl, rfl, by rw [← h.now]; rfl, rfl, rfl, ?_, h.sdc⟩
  rw [← h.pos]
  rfl

/-- SENSE returns: the engine views become the live levels (R166). -/
theorem LinesTaken.senseBack (hb : s.flc.senseBench = true) :
    ∃ t, exec (.linesWrite tag 2 0 head mode level) s = .next t ∧ SenseBack s t := by
  have hk := senseToEngine_back h.noneHears
  have ht : u.toEngine .sense = u.senseToEngine := by
    unfold State.toEngine
    exact if_pos (by rw [h.flc]; exact hb)
  obtain ⟨y, w, hy⟩ := h.toEngine (group := 2) rfl ht hk.noneHears
  obtain ⟨hc, hst, hm⟩ := h.store
  obtain ⟨kflc, khead, knone, kpark, kunload, kstill, kfault, kquiet⟩ := hk
  have hp := h.pos
  have hflc := h.flc
  have hwin := h.window
  rw [hflc] at kflc khead kpark kunload kstill kfault kquiet
  rw [hp] at kpark kunload kstill
  rw [hwin] at khead
  refine ⟨_, hy, kflc, khead, ⟨knone.1, by simp⟩, fun a b c => ?_, fun a b c => ?_, kstill, kfault,
    fun k => (kquiet k).trans h.events⟩
  · exact (kpark a b c).settle hp h.sdc hc hst hm _ _
  · obtain ⟨kcause, kbegun, kramp⟩ := kunload a b c
    exact ⟨kcause, fun hv => ((kbegun hv).settle []
      (b := { u.senseToEngine.blk with sending := y, waiting := w }) rfl).congr h.now (by rw [hp])
      (by rw [hp]; exact ⟨rfl, rfl, rfl, rfl⟩) hc hst
      (by rw [h.sdc]) hm, kramp⟩

end

/-- Settles O50: the checks (`LinesTaken.refused`), then each group's change of owner or levels. -/
theorem linesWriteChecksAndPassesGroups : Obligations.LinesWriteChecksAndPassesGroups := by
  intro s tag group owner head mode level hready hj
  have h := linesTaken_of tag hready hj
  have hsel := h.selectCheck (head := head) (mode := mode) (level := level)
  have hspin := h.spindleCheck (head := head) (mode := mode) (level := level)
  refine ⟨fun hg => ?_, fun hg ho => ?_, fun hh => ?_, fun hh hm => ?_, fun hh hm hb ha => ?_, h.select, fun hv => ?_,
    fun hv hb hs => ?_, fun hv hb hs ha => ?_, h.spindle, h.spindleLevel, h.sense, h.senseHeld, h.selectBack, h.spindleBack,
    fun hb => ?_, fun hb => spindleDrive_of_engine hb, fun hb => ?_⟩
  · refine lines_refused hready ?_
    unfold State.takeLinesWrite
    rw [group_ofCode_none hg]
  · obtain ⟨g, hg⟩ := group_ofCode_some hg
    refine lines_refused hready ?_
    unfold State.takeLinesWrite
    rw [hg]
    dsimp only
    rw [if_neg (by omega), if_neg (by omega)]
  · exact h.refused (group := 0) rfl (by rw [hsel, if_pos hh])
  · exact h.refused (group := 0) rfl (by rw [hsel, if_neg (by omega), if_pos hm])
  · exact h.refused (group := 0) rfl (by rw [hsel, if_neg (by omega), if_neg (by omega), if_pos ⟨hb, ha⟩])
  · exact h.refused (group := 1) rfl (by rw [hspin, if_pos hv])
  · exact h.refused (group := 1) rfl (by rw [hspin, if_neg (by omega), if_neg (by rw [hb]; decide), if_pos hs])
  · exact h.refused (group := 1) rfl
      (by rw [hspin, if_neg (by omega), if_neg (by rw [hb]; decide), if_neg (not_not_intro hs), if_pos ha])
  · obtain ⟨t, ht, hk⟩ := h.senseBack (head := head) (mode := mode) (level := level) hb
    have hengine : t.flc.senseBench = false ∧ t.flc.liveRamp = s.flc.liveRamp ∧ t.flc.livePreamp = s.flc.livePreamp := by
      rw [hk.flc]
      exact ⟨rfl, rfl, rfl⟩
    refine ⟨t, ht, hk.flc, hk.head, ?_, ?_, hk.parked, hk.unloads, hk.still, hk.fault, hk.quiet⟩
    · unfold State.rampView
      rw [hengine.1, hengine.2.1]
      rfl
    · unfold State.preampView
      rw [hengine.1, hengine.2.2]
      rfl
  · have hown : ∀ g, Group.ofCode group.toNat = some g → s.flc.owned g = false →
        ((s.reload .lineReq).openReply tag).takeLinesWrite group.toNat (0 : Byte).toNat head.toNat mode.toNat level.toNat =
          .ok (g, (s.reload .lineReq).openReply tag) := fun g hg ho => by
      show State.takeLinesWrite _ group.toNat 0 _ _ _ = _
      rw [takeLinesWrite_toEngine hg, toEngine_of_engine (by rw [h.flc]; exact ho)]
    obtain ⟨g, hg, ho⟩ : ∃ g, Group.ofCode group.toNat = some g ∧ s.flc.owned g = false := by
      rcases hb with ⟨hg, ho⟩ | ⟨hg, ho⟩ | ⟨hg, ho⟩ <;> rw [hg]
      exacts [⟨.select, rfl, ho⟩, ⟨.spindle, rfl, ho⟩, ⟨.sense, rfl, ho⟩]
    obtain ⟨f, hf⟩ := lines_kept hready (hown g hg ho)
    obtain ⟨r, e⟩ := reload_eq s .lineReq
    refine ⟨_, hf, ?_⟩
    rw [e]
    exact ⟨rfl, rfl, rfl, rfl, rfl⟩

end Sys2Proof.Machine
end

section
/-! PROOF. The profile that a payload carries, and its first failing check (R172, R173, R177). -/

namespace Sys2Proof.Machine

/-! ## Fields and zone tracks of a payload (R194) -/

theorem getD_of_drop (b : List Byte) (k i : Nat) : (b.drop k).getD i 0 = b.getD (k + i) 0 := by
  rw [List.getD_eq_getElem?_getD, List.getD_eq_getElem?_getD, List.getElem?_drop]

/-- Two bytes of a payload as a number. -/
theorem leNat_two (b : List Byte) (k : Nat) : leNat (fieldBytes b k 2) = u16At b k := by
  have h0 := getD_of_drop b k 0
  have h1 := getD_of_drop b k 1
  rw [Nat.add_zero] at h0
  unfold fieldBytes u16At
  rw [← h0, ← h1]
  match b.drop k with
  | [] => rfl
  | [x] => rfl
  | x :: y :: l => rfl

/-- Four bytes of a payload as a number. -/
theorem leNat_four (b : List Byte) (k : Nat) : leNat (fieldBytes b k 4) = u32At b k := by
  have h0 := getD_of_drop b k 0
  have h1 := getD_of_drop b k 1
  have h2 := getD_of_drop b k 2
  have h3 := getD_of_drop b k 3
  rw [Nat.add_zero] at h0
  unfold fieldBytes u32At u16At
  rw [show k + 2 + 1 = k + 3 from rfl, ← h0, ← h1, ← h2, ← h3]
  match b.drop k with
  | [] => rfl
  | [x] => simp [leNat]
  | [x, y] => simp [leNat]
  | [x, y, z] => simp [leNat]; omega
  | x :: y :: z :: w :: l => simp [leNat]; omega

theorem readZone_eq (b : List Byte) : readZone b = payloadTrack b := funext fun z => leNat_four b (96 + 4 * z)

/-- Each field of a payload that holds all fields, JOG_CENTRE signed (R172). -/
theorem readField_eq {b : List Byte} (hb : 32 ≤ b.length) (i : Nat) : readField b i = payloadField b i := by
  have hlen : (fieldBytes b 30 2).length = 2 := by
    unfold fieldBytes
    rw [List.length_take, List.length_drop]
    omega
  unfold readField payloadField fieldOffset fieldWidth
  dsimp only
  by_cases h13 : i = 13
  · subst h13
    simp only [if_true]
    show leInt (fieldBytes b 30 2) = _
    unfold leInt
    rw [hlen, leNat_two]
    simp only [Nat.reducePow]
    split <;> split <;> omega
  · rw [if_neg h13]
    by_cases h4 : i < 4
    · rw [if_pos h4, if_pos h4, if_neg (by omega), leNat_two]
    · rw [if_neg h4, if_neg h4, if_neg h13]
      by_cases e4 : i = 4
      · subst e4
        exact congrArg _ (leNat_four b 8)
      · by_cases e5 : i = 5
        · subst e5
          exact congrArg _ (leNat_four b 12)
        · rw [if_neg e4, if_neg e4, if_neg e5, if_neg e5, if_neg (by omega), leNat_two]

/-- A field but JOG_CENTRE is no negative number. -/
theorem readField_toNat (b : List Byte) {i : Nat} (h : i ≠ 13) : Int.ofNat (readField b i).toNat = readField b i := by
  unfold readField
  dsimp only
  rw [if_neg h]
  rfl

/-- The 46 fields of the profile that a payload carries. -/
theorem fields_readProfile (b : List Byte) (zc : Nat) : (readProfile b zc).fields = (List.range 46).map (readField b) := by
  have hr : List.range 46 = [0, 1, 2, 3, 4, 5, 6, 7, 8, 9, 10, 11, 12, 13, 14, 15, 16, 17, 18, 19, 20, 21, 22, 23, 24, 25, 26, 27,
      28, 29, 30, 31, 32, 33, 34, 35, 36, 37, 38, 39, 40, 41, 42, 43, 44, 45] := rfl
  rw [hr]
  unfold Profile.fields readProfile
  simp only [List.map_cons, List.map_nil, List.cons_append, List.nil_append]
  simp (disch := decide) only [readField_toNat]

/-! ## The first failing check (R177) -/

/-- The value at index `j` lies within its range. -/
def InRangeAt (xs : List Int) (rs : List (Int × Int)) (j : Nat) : Prop :=
  ∀ x r, xs[j]? = some x → rs[j]? = some r → r.1 ≤ x ∧ x ≤ r.2

theorem inRangeAt_zero {x : Int} {xs : List Int} {lo hi : Int} {rs : List (Int × Int)} :
    InRangeAt (x :: xs) ((lo, hi) :: rs) 0 ↔ ¬(x < lo ∨ hi < x) := by
  refine ⟨fun h => ?_, fun h => ?_⟩
  · have hx := h x (lo, hi) rfl rfl
    dsimp only at hx
    omega
  · rintro _ _ ⟨⟩ ⟨⟩
    dsimp only
    omega

theorem inRangeAt_succ {x : Int} {xs : List Int} {r : Int × Int} {rs : List (Int × Int)} {j : Nat} :
    InRangeAt (x :: xs) (r :: rs) (j + 1) ↔ InRangeAt xs rs j := by
  unfold InRangeAt
  simp only [List.getElem?_cons_succ]

/-- The first field out of its range is found. -/
theorem firstOutOfRange_some {xs : List Int} {rs : List (Int × Int)} {k i : Nat} (hlt : ∀ j < i, InRangeAt xs rs j)
    (hi : ¬InRangeAt xs rs i) : firstOutOfRange k xs rs = some (k + i) := by
  induction xs generalizing rs k i with
  | nil => exact absurd (fun x r h => by cases h) hi
  | cons x xs ih =>
    match rs with
    | [] => exact absurd (fun x r _ h => by cases h) hi
    | (lo, up) :: rs =>
      unfold firstOutOfRange
      match i with
      | 0 => exact if_pos (not_not.mp fun h => hi (inRangeAt_zero.mpr h))
      | i + 1 =>
        rw [if_neg (inRangeAt_zero.mp (hlt 0 (Nat.succ_pos i))),
          ih (fun j hj => inRangeAt_succ.mp (hlt (j + 1) (Nat.succ_lt_succ hj))) (fun h => hi (inRangeAt_succ.mpr h)),
          Nat.add_assoc, Nat.add_comm 1]

theorem firstOutOfRange_eq_none {xs : List Int} {rs : List (Int × Int)} {k : Nat} :
    firstOutOfRange k xs rs = none ↔ ∀ j, InRangeAt xs rs j := by
  refine ⟨fun h => ?_, fun h => ?_⟩
  · by_contra hn
    obtain ⟨i, hi, hmin⟩ : ∃ i, ¬InRangeAt xs rs i ∧ ∀ j < i, InRangeAt xs rs j := by
      classical
      rw [not_forall] at hn
      exact ⟨Nat.find hn, Nat.find_spec hn, fun j hj => not_not.mp (Nat.find_min hn hj)⟩
    rw [firstOutOfRange_some hmin hi] at h
    cases h
  · induction xs generalizing rs k with
    | nil => rfl
    | cons x xs ih =>
      match rs with
      | [] => rfl
      | (lo, up) :: rs =>
        unfold firstOutOfRange
        rw [if_neg (inRangeAt_zero.mp (h 0)), ih fun j => inRangeAt_succ.mp (h (j + 1))]

/-- The first zone track above 262,143 is found. -/
theorem firstZoneOver_some {ts : List Nat} {k i : Nat} (hlt : ∀ j < i, ∀ t, ts[j]? = some t → t ≤ 262143)
    (hi : ∃ t, ts[i]? = some t ∧ 262143 < t) : firstZoneOver k ts = some (46 + (k + i)) := by
  induction ts generalizing k i with
  | nil => obtain ⟨t, h, -⟩ := hi; cases h
  | cons x ts ih =>
    unfold firstZoneOver
    match i with
    | 0 =>
      obtain ⟨t, h, ht⟩ := hi
      cases h
      exact if_pos ht
    | i + 1 =>
      rw [if_neg (Nat.not_lt.mpr (hlt 0 (Nat.succ_pos i) x rfl)),
        ih (fun j hj t h => hlt (j + 1) (Nat.succ_lt_succ hj) t h) hi, Nat.add_assoc, Nat.add_comm 1]

theorem firstZoneOver_none {ts : List Nat} {k : Nat} (h : ∀ t ∈ ts, t ≤ 262143) : firstZoneOver k ts = none := by
  induction ts generalizing k with
  | nil => rfl
  | cons x ts ih =>
    unfold firstZoneOver
    rw [if_neg (Nat.not_lt.mpr (h x List.mem_cons_self)), ih fun t ht => h t (List.mem_cons_of_mem x ht)]

/-- The zone track at index `j` lies within TRACK_MAX and above the one below, `below` standing below index 0 (R173). -/
def ZoneFitsAt (trackMax : Nat) (below : Option Nat) (ts : List Nat) (j : Nat) : Prop :=
  ∀ t, ts[j]? = some t → t ≤ trackMax ∧ ∀ x, (below :: ts.map some)[j]? = some (some x) → x < t

theorem zoneFitsAt_zero {trackMax t : Nat} {below : Option Nat} {ts : List Nat} :
    ZoneFitsAt trackMax below (t :: ts) 0 ↔ ¬(trackMax < t ∨ (below.any fun b => decide (t ≤ b)) = true) := by
  unfold ZoneFitsAt
  cases below <;> simp

theorem zoneFitsAt_succ {trackMax t j : Nat} {below : Option Nat} {ts : List Nat} :
    ZoneFitsAt trackMax below (t :: ts) (j + 1) ↔ ZoneFitsAt trackMax (some t) ts j := by
  unfold ZoneFitsAt
  simp only [List.getElem?_cons_succ, List.map_cons]

/-- The first zone track that fails constraint 6 of R173 is found. -/
theorem zoneOrder_some {trackMax : Nat} {below : Option Nat} {ts : List Nat} {k i : Nat}
    (hlt : ∀ j < i, ZoneFitsAt trackMax below ts j) (hi : ¬ZoneFitsAt trackMax below ts i) :
    zoneOrder trackMax k below ts = some (46 + (k + i)) := by
  induction ts generalizing below k i with
  | nil => exact absurd (fun t h => by cases h) hi
  | cons t ts ih =>
    unfold zoneOrder
    match i with
    | 0 => exact if_pos (not_not.mp fun h => hi (zoneFitsAt_zero.mpr h))
    | i + 1 =>
      rw [if_neg (zoneFitsAt_zero.mp (hlt 0 (Nat.succ_pos i))),
        ih (fun j hj => zoneFitsAt_succ.mp (hlt (j + 1) (Nat.succ_lt_succ hj))) (fun h => hi (zoneFitsAt_succ.mpr h)),
        Nat.add_assoc, Nat.add_comm 1]

theorem zoneOrder_eq_none {trackMax : Nat} {below : Option Nat} {ts : List Nat} {k : Nat}
    (h : ∀ j, ZoneFitsAt trackMax below ts j) : zoneOrder trackMax k below ts = none := by
  induction ts generalizing below k with
  | nil => rfl
  | cons t ts ih =>
    unfold zoneOrder
    rw [if_neg (zoneFitsAt_zero.mp (h 0)), ih fun j => zoneFitsAt_succ.mp (h (j + 1))]

/-- Zone tracks that meet constraint 6 are within TRACK_MAX and rise (R173). -/
theorem zoneOrder_rises {trackMax : Nat} {below : Option Nat} {ts : List Nat} {k : Nat}
    (h : zoneOrder trackMax k below ts = none) : (∀ t ∈ ts, t ≤ trackMax) ∧ ts.Pairwise (· < ·) ∧
      (∀ b, below = some b → ∀ t ∈ ts, b < t) := by
  induction ts generalizing below k with
  | nil => exact ⟨by simp, .nil, by simp⟩
  | cons t ts ih =>
    unfold zoneOrder at h
    split at h
    · cases h
    next hf =>
      obtain ⟨hmax, hpair, habove⟩ := ih h
      have ht : t ≤ trackMax := by omega
      have hb : ∀ b, below = some b → b < t := fun b e => by
        subst e
        have := fun c => hf (.inr c)
        simpa using this
      refine ⟨fun x hx => ?_, .cons (habove t rfl) hpair, fun b e x hx => ?_⟩
      · rcases List.mem_cons.mp hx with rfl | hx
        exacts [ht, hmax x hx]
      · rcases List.mem_cons.mp hx with rfl | hx
        exacts [hb b e, (hb b e).trans (habove t rfl x hx)]

end Sys2Proof.Machine
end

section
/-! PROOF. PROFILE_WRITE: the checks of a payload by its fields, and the acceptance (R177, R178). -/

namespace Sys2Proof.Machine

variable {s t u : State}

/-! ## The checks of a payload (R177) -/

section
variable {b : List Byte} {zc : Nat}

theorem getElem?_payloadFields {i : Nat} (h : i < 46) :
    ((List.range 46).map (payloadField b))[i]? = some (payloadField b i) := by
  rw [List.getElem?_map, List.getElem?_range h]
  rfl

theorem inRangeAt_payload {i : Nat} (h : i < 46) :
    InRangeAt ((List.range 46).map (payloadField b)) fieldRanges i ↔ FieldInRange b i := by
  unfold InRangeAt FieldInRange
  rw [getElem?_payloadFields h]
  exact ⟨fun k r hr => k _ r rfl hr, fun k x r hx hr => by cases hx; exact k r hr⟩

theorem inRangeAt_beyond {xs : List Int} {rs : List (Int × Int)} {i : Nat} (h : xs.length ≤ i) : InRangeAt xs rs i :=
  fun x r hx => by rw [List.getElem?_eq_none h] at hx; cases hx

/-- Each field of the profile that a long enough payload carries. -/
theorem fields_of_payload (hb : 32 ≤ b.length) : (readProfile b zc).fields = (List.range 46).map (payloadField b) := by
  rw [fields_readProfile, funext (readField_eq hb)]

theorem tracks_of_payload : (readProfile b zc).zoneTracks = (List.range zc).map (payloadTrack b) := by
  rw [← readZone_eq]
  rfl

/-- A field but JOG_CENTRE of a long enough payload is no negative number. -/
theorem payloadField_toNat (hb : 32 ≤ b.length) {i : Nat} (h : i ≠ 13) : ((readField b i).toNat : Int) = payloadField b i := by
  rw [← readField_eq hb]
  exact readField_toNat b h

theorem getElem?_payloadTracks {z : Nat} (h : z < zc) : ((List.range zc).map (payloadTrack b))[z]? = some (payloadTrack b z) := by
  rw [List.getElem?_map, List.getElem?_range h]
  rfl

/-- Constraint 6 of R173 at a zone of the payload. -/
theorem zoneFitsAt_payload (hb : 32 ≤ b.length) {z : Nat} (h : z < zc) :
    ZoneFitsAt (readProfile b zc).trackMax none ((List.range zc).map (payloadTrack b)) z ↔ TrackFits b z := by
  have hmax : ((readProfile b zc).trackMax : Int) = payloadField b 4 := payloadField_toNat hb (i := 4) (by decide)
  unfold ZoneFitsAt TrackFits
  rw [getElem?_payloadTracks h, ← hmax]
  simp only [Option.some.injEq, forall_eq', Nat.cast_le]
  refine and_congr_right fun _ => ?_
  match z with
  | 0 => simp
  | z + 1 =>
    rw [List.getElem?_cons_succ, List.getElem?_map, getElem?_payloadTracks (Nat.lt_of_succ_lt h)]
    simp

theorem zoneFitsAt_beyond {m z : Nat} {x : Option Nat} {ts : List Nat} (h : ts.length ≤ z) : ZoneFitsAt m x ts z :=
  fun t ht => by rw [List.getElem?_eq_none h] at ht; cases ht

/-- The five constraints of R173 on the fields that a payload carries. -/
theorem crossHolds_iff (hb : 32 ≤ b.length) :
    (CrossHolds b 1 ↔ ¬(readProfile b zc).headCount ≤ (readProfile b zc).anchor) ∧
      (CrossHolds b 2 ↔ ¬21000 * (readProfile b zc).sectors < (readProfile b zc).nRevNom) ∧
      (CrossHolds b 3 ↔ ¬(readProfile b zc).warmOn ≤ (readProfile b zc).warmOff) ∧
      (CrossHolds b 4 ↔ ¬(readProfile b zc).hotOff < (readProfile b zc).warmOn) ∧
      (CrossHolds b 5 ↔ ¬(readProfile b zc).hotOn ≤ (readProfile b zc).hotOff) := by
  have h0 : ((readProfile b zc).headCount : Int) = payloadField b 0 := payloadField_toNat hb (i := 0) (by decide)
  have h2 : ((readProfile b zc).anchor : Int) = payloadField b 2 := payloadField_toNat hb (i := 2) (by decide)
  have h3 : ((readProfile b zc).sectors : Int) = payloadField b 3 := payloadField_toNat hb (i := 3) (by decide)
  have h5 : ((readProfile b zc).nRevNom : Int) = payloadField b 5 := payloadField_toNat hb (i := 5) (by decide)
  have h35 : ((readProfile b zc).warmOff : Int) = payloadField b 35 := payloadField_toNat hb (i := 35) (by decide)
  have h36 : ((readProfile b zc).warmOn : Int) = payloadField b 36 := payloadField_toNat hb (i := 36) (by decide)
  have h37 : ((readProfile b zc).hotOff : Int) = payloadField b 37 := payloadField_toNat hb (i := 37) (by decide)
  have h38 : ((readProfile b zc).hotOn : Int) = payloadField b 38 := payloadField_toNat hb (i := 38) (by decide)
  unfold CrossHolds
  rw [← h0, ← h2, ← h3, ← h5, ← h35, ← h36, ← h37, ← h38]
  simp only [true_implies, Nat.reduceEqDiff, false_implies, and_true, true_and]
  omega

/-- Checks 4 and 5 of R177 pass. -/
theorem parseProfile_eq (h1 : 1 ≤ zc) (h24 : zc ≤ 24) (hl : b.length = 96 + 4 * zc) (hz : zc = u16At b 2) :
    parseProfile b =
      match (readProfile b zc).fault with
      | some i => .error (.value i)
      | none => .ok (readProfile b zc) := by
  unfold parseProfile
  rw [leNat_two, ← hz, if_neg (by omega)]
  exact (if_neg (by omega)).trans ((if_neg (by omega)).trans rfl)

/-- Check 6 finds the first field out of its range. -/
theorem fault_field (hb : 32 ≤ b.length) {i : Nat} (hi : i < 46) (hlt : ∀ k < i, FieldInRange b k) (hn : ¬FieldInRange b i) :
    (readProfile b zc).fault = some i := by
  unfold Profile.fault
  rw [fields_of_payload hb, firstOutOfRange_some (i := i) (fun j hj => (inRangeAt_payload (hj.trans hi)).mpr (hlt j hj))
    (fun h => hn ((inRangeAt_payload hi).mp h)), Nat.zero_add]

/-- With all fields in their ranges the zone tracks are checked. -/
theorem fault_of_fields (hb : 32 ≤ b.length) (h : ∀ i < 46, FieldInRange b i) :
    (readProfile b zc).fault =
      (firstZoneOver 0 ((List.range zc).map (payloadTrack b))).or (crossFields (readProfile b zc)) := by
  have hnone : firstOutOfRange 0 (readProfile b zc).fields fieldRanges = none := by
    rw [fields_of_payload hb]
    refine firstOutOfRange_eq_none.mpr fun j => ?_
    by_cases hj : j < 46
    · exact (inRangeAt_payload hj).mpr (h j hj)
    · exact inRangeAt_beyond (by simpa using hj)
  unfold Profile.fault
  rw [hnone, tracks_of_payload]
  cases firstZoneOver 0 ((List.range zc).map (payloadTrack b)) <;> rfl

/-- Check 7 finds the first zone track above 262,143. -/
theorem fault_zone (hb : 32 ≤ b.length) (h : ∀ i < 46, FieldInRange b i) {z : Nat} (hz : z < zc)
    (hlt : ∀ k < z, payloadTrack b k ≤ 262143) (ho : 262143 < payloadTrack b z) : (readProfile b zc).fault = some (46 + z) := by
  rw [fault_of_fields hb h, firstZoneOver_some (i := z)
    (fun j hj t ht => by rw [getElem?_payloadTracks (hj.trans hz)] at ht; cases ht; exact hlt j hj)
    ⟨_, getElem?_payloadTracks hz, ho⟩, Nat.zero_add, Option.some_or]

/-- With checks 6 and 7 passed the constraints between fields are checked. -/
theorem fault_of_zones (hb : 32 ≤ b.length) (h : ∀ i < 46, FieldInRange b i) (hz : ∀ z < zc, payloadTrack b z ≤ 262143) :
    (readProfile b zc).fault = crossFields (readProfile b zc) := by
  rw [fault_of_fields hb h, firstZoneOver_none fun t ht => ?_, Option.none_or]
  obtain ⟨z, hm, rfl⟩ := List.mem_map.mp ht
  exact hz z (List.mem_range.mp hm)

/-- With the first five constraints held the order of the zone tracks is checked. -/
theorem crossFields_of_holds (hb : 32 ≤ b.length) (h : ∀ k < 6, CrossHolds b k) :
    crossFields (readProfile b zc) = zoneOrder (readProfile b zc).trackMax 0 none ((List.range zc).map (payloadTrack b)) := by
  obtain ⟨h1, h2, h3, h4, h5⟩ := crossHolds_iff (zc := zc) hb
  unfold crossFields
  rw [if_neg (h1.mp (h 1 (by decide))), if_neg (h2.mp (h 2 (by decide))), if_neg (h3.mp (h 3 (by decide))),
    if_neg (h4.mp (h 4 (by decide))), if_neg (h5.mp (h 5 (by decide))), tracks_of_payload]

/-- Constraint 6 finds the first zone track out of order. -/
theorem crossFields_order (hb : 32 ≤ b.length) (h : ∀ k < 6, CrossHolds b k) {z : Nat} (hz : z < zc)
    (hlt : ∀ k < z, TrackFits b k) (hn : ¬TrackFits b z) : crossFields (readProfile b zc) = some (46 + z) := by
  rw [crossFields_of_holds hb h, zoneOrder_some (i := z) (fun j hj => (zoneFitsAt_payload hb (hj.trans hz)).mpr (hlt j hj))
    (fun k => hn ((zoneFitsAt_payload hb hz).mp k)), Nat.zero_add]

theorem crossFields_none (hb : 32 ≤ b.length) (h : ∀ k < 6, CrossHolds b k) (hz : ∀ z < zc, TrackFits b z) :
    crossFields (readProfile b zc) = none := by
  rw [crossFields_of_holds hb h]
  refine zoneOrder_eq_none fun z => ?_
  by_cases hlt : z < zc
  · exact (zoneFitsAt_payload hb hlt).mpr (hz z hlt)
  · exact zoneFitsAt_beyond (by simpa using hlt)

end

/-! ## What a payload that passes carries (R172, R173) -/

/-- The profile of a payload that passes every check. -/
theorem parseProfile_ok {b : List Byte} {p : Profile} (h : parseProfile b = .ok p) :
    ∃ zc, 1 ≤ zc ∧ zc ≤ 24 ∧ zc = u16At b 2 ∧ b.length = 96 + 4 * zc ∧ p = readProfile b zc ∧ p.fault = none := by
  unfold parseProfile at h
  rw [leNat_two] at h
  split at h
  · cases h
  · dsimp only at h
    split at h
    · cases h
    · split at h
      · cases h
      · split at h
        · cases h
        next hz hl _ hf =>
          cases h
          exact ⟨u16At b 2, by omega, by omega, rfl, not_not.mp hl, rfl, hf⟩

/-- A profile with no fault is within ranges and constraints (R172, R173). -/
theorem fault_none {p : Profile} (h : p.fault = none) :
    (∀ (i : Nat) (x lo hi : Int), p.fields[i]? = some x → fieldRanges[i]? = some (lo, hi) → lo ≤ x ∧ x ≤ hi) ∧
      p.anchor < p.headCount ∧ p.nRevNom ≤ 21000 * p.sectors ∧ p.warmOff < p.warmOn ∧ p.warmOn ≤ p.hotOff ∧
      p.hotOff < p.hotOn ∧ (∀ x ∈ p.zoneTracks, x ≤ p.trackMax) ∧ p.zoneTracks.Pairwise (· < ·) := by
  unfold Profile.fault at h
  split at h
  · cases h
  next hf =>
    split at h
    · cases h
    · unfold crossFields at h
      split at h
      · cases h
      next h1 =>
      split at h
      · cases h
      next h2 =>
      split at h
      · cases h
      next h3 =>
      split at h
      · cases h
      next h4 =>
      split at h
      · cases h
      next h5 =>
      obtain ⟨hmax, hrise, -⟩ := zoneOrder_rises h
      exact ⟨fun i x lo up hx hr => firstOutOfRange_eq_none.mp hf i x (lo, up) hx hr, Nat.lt_of_not_le h1, Nat.le_of_not_lt h2,
        Nat.lt_of_not_le h3, Nat.le_of_not_lt h4, Nat.lt_of_not_le h5, hmax, hrise⟩

/-! ## The level recomputed with the heads parked (R146, R147) -/

/-- `t` is `s` in PARKED with the heat level `a` for cause `c`, its reports aside. -/
structure Releveled (s : State) (a : HeatLevel) (c : LevelCause) (t : State) : Prop where
  now : t.now = s.now
  pst : t.pst = s.pst
  sdc : t.sdc = s.sdc
  hmp : t.hmp = s.hmp
  flc : t.flc = s.flc
  pos : ∃ h b, t.pos = { s.pos with held := h, lastBench := b }
  chm : t.chm = { s.chm with level := a, last := t.chm.last }
  changed : a ≠ s.chm.level → t.blk.events.thermal = true ∧
    t.chm.last = some { before := s.chm.level, after := a, cause := c }
  same : a = s.chm.level → t.chm.last = s.chm.last
  sending : t.blk.sending = s.blk.sending
  waiting : ∃ ws, t.blk.waiting = s.blk.waiting ++ ws
  noneHears : s.NoneHears → t.NoneHears

theorem Releveled.tells {a : HeatLevel} {c : LevelCause} {ms : List JctMsg} (h : Releveled s a c t)
    (hm : ∀ m ∈ ms, m ≠ .restTest) : Releveled s a c (t.tells ms) :=
  ⟨h.now, h.pst, h.sdc, h.hmp, h.flc, h.pos, h.chm, h.changed, h.same, h.sending, h.waiting, fun hn => (h.noneHears hn).tells hm⟩

theorem Releveled.goOn_hot {a : HeatLevel} {c : LevelCause} (h : Releveled s a c t) : Releveled s a c (t.goOn .hot) := by
  refine ⟨h.now, h.pst, h.sdc, h.hmp, h.flc, h.pos, h.chm, h.changed, h.same, h.sending, h.waiting, fun hn => ?_⟩
  exact ⟨(h.noneHears hn).1, fun m hm => (List.mem_cons.mp hm).elim (fun e => by rw [e]; decide) ((h.noneHears hn).2 m)⟩

theorem Releveled.discardHeld {a : HeatLevel} {c : LevelCause} (h : Releveled s a c t) (x : StopCause) :
    Releveled s a c (t.discardHeld x) := by
  obtain ⟨ms, hm, e⟩ := discardHeld_eq t x
  rw [e]
  refine Releveled.tells (t := t.setPos (t.pos.heldDone x)) ?_ hm.not_restTest
  refine ⟨h.now, h.pst, h.sdc, h.hmp, h.flc, ?_, h.chm, h.changed, h.same, h.sending, h.waiting, h.noneHears⟩
  obtain ⟨l, b, hp⟩ := h.pos
  rw [State.setPos_pos, hp]
  exact ⟨_, _, rfl⟩

theorem Blk.raise_link (b : Blk) (k : EventKind) :
    (b.raise k).sending = b.sending ∧ ∃ ws, (b.raise k).waiting = b.waiting ++ ws := by
  rcases b.raise_cases k with h | ⟨-, h⟩ | ⟨-, h⟩ <;> rw [h]
  · exact ⟨rfl, [], (List.append_nil _).symm⟩
  · exact ⟨rfl, [], (List.append_nil _).symm⟩
  · exact ⟨rfl, [.notice k], rfl⟩

/-- A change of level is recorded (R147). -/
theorem recordLevel_releveled {a : HeatLevel} (ha : a ≠ s.chm.level) (c : LevelCause) : Releveled s a c (s.recordLevel a c) := by
  obtain ⟨hsending, hwaiting⟩ := s.blk.raise_link .thermal
  exact ⟨rfl, rfl, rfl, rfl, rfl, ⟨_, _, rfl⟩, rfl, fun _ => ⟨raise_has s .thermal, rfl⟩, fun k => absurd k ha,
    hsending, hwaiting, id⟩

theorem releaseHeld_parked (h : s.pos.act = .parked) : s.releaseHeld = s := by
  unfold State.releaseHeld
  rw [h]
  split <;> rfl

/-- The level changes with the heads parked: no held seek is released (R147, R150, R151). -/
theorem changeLevel_releveled (hp : s.pos.act = .parked) (a : HeatLevel) (c : LevelCause) : Releveled s a c (s.changeLevel a c) := by
  unfold State.changeLevel
  dsimp only
  split
  next h =>
    subst h
    exact ⟨rfl, rfl, rfl, rfl, rfl, ⟨_, _, rfl⟩, rfl, fun k => absurd rfl k, fun _ => rfl, rfl, ⟨[], by simp⟩, id⟩
  next h =>
    have hr := recordLevel_releveled h c
    split
    · exact hr.goOn_hot.discardHeld _
    · exact hr.tells (ms := [.leftHot]) (by simp)
    · rw [releaseHeld_parked (show (s.recordLevel _ c).pos.act = .parked from hp)]
      exact hr
    · exact hr

end Sys2Proof.Machine
end

section
/-! PROOF. PROFILE_WRITE (R177, R178). -/

namespace Sys2Proof.Machine

variable {s t u : State}

/-! ## The reply to a request without jobs -/

/-- Without jobs a request that its owner answers at once has its reply in transmission before any notice (R187; log 13). -/
theorem request_replied {k : RequestKind} {tag : Byte} {p : List Byte} {a : Answer} (h : s.LinkReady) (hp : p.length ≤ 240)
    (hl : ∀ n, k.fixedLength = some n → p.length = n) (hk : k ≠ .restWrite)
    (ha : ((s.reloadFor k).openReply tag).handle k p = (a, t)) (hn : t.NoneHears) (hs : t.blk.sending = none)
    (hw : ∃ f ws, t.blk.waiting = .reply f false :: ws) :
    ∃ ws, request k.code tag p s = .next ((t.setInbox []).setBlk
      { t.blk with
        sending := some
          { frame := a.frame tag, isReply := true, reset := isResetAck k a
            due := t.now + 1000 * (5 + (a.frame tag).payload.length) }
        waiting := ws }) := by
  obtain ⟨f, ws, hw⟩ := hw
  have hf : (t.fillReply (a.frame tag) (isResetAck k a)).NoneHears := hn
  refine ⟨ws.map fun w => w.fill (a.frame tag) (isResetAck k a), ?_⟩
  rw [request_good h k tag hp hl]
  unfold arrival State.answer
  simp only [hk, if_false, openReply_reloadFor, ha]
  rw [finish_noJobs hf.1 hf.2]
  unfold State.transmit State.fillReply
  simp only [State.setInbox_blk, State.setBlk_blk, hs, hw, List.map_cons, Waiting.fill]
  rfl

/-- PROFILE_WRITE that is refused (R177). -/
theorem profile_refused {tag : Byte} {b : List Byte} {c : RefuseCode} {n : Nat} (h : s.LinkReady) (hb : b.length ≤ 240)
    (ht : ((s.reload .configReq).openReply tag).takeProfile b = .error { code := c, detail := n }) :
    exec (.profileWrite tag b) s = .next ((s.reload .configReq).refuses tag c n) := by
  refine request_kept (k := .profileWrite) (p := b) (a := .refuse { code := c, detail := n }) h hb (fun n hn => by cases hn)
    (by decide) ?_
  show ((s.reload .configReq).openReply tag).reqProfileWrite b = _
  unfold State.reqProfileWrite
  rw [ht]
  rfl

/-! ## The acceptance (R178) -/

/-- `t` is `s`, its actuator PARKED, with the profile `p` accepted, but for the link and the reports. -/
structure Accepted (s : State) (p : Profile) (t : State) : Prop where
  now : t.now = s.now
  pst : t.pst = { s.pst with profile := p, source := .written, defaulted := false, unsaved := true }
  counters : t.sdc.counters = List.replicate 20 {}
  expect : t.sdc.expect = none
  marker : t.sdc.marker = false
  hmp : t.hmp =
    { working := emptyMap p.headCount p.zoneCount, published := emptyMap p.headCount p.zoneCount, gen := 0, unpub := false }
  flc : t.flc = { s.flc with engineHead := p.anchor }
  chm : t.chm = { s.chm with level := nextLevel p s.chm.level s.chm.heat, last := t.chm.last }
  changed : t.chm.level ≠ s.chm.level → t.blk.events.thermal = true ∧
    t.chm.last = some { before := s.chm.level, after := t.chm.level, cause := .profile }
  same : t.chm.level = s.chm.level → t.chm.last = s.chm.last
  act : t.pos.act = s.pos.act
  spindle : t.pos.spindle = s.pos.spindle
  inTol : t.pos.inTol = 0
  outTol : t.pos.outTol = 0
  indexRef : t.pos.indexRef = s.pos.indexRef
  silence : s.pos.spindle = .atSpeed → t.pos.silenceDue = some (s.now + 2 * p.nRevNom)
  sending : t.blk.sending = s.blk.sending
  waiting : ∃ ws, t.blk.waiting = s.blk.waiting ++ ws
  noneHears : s.NoneHears → t.NoneHears

theorem acceptProfile_accepted (ha : s.pos.act = .parked) (p : Profile) : Accepted s p (s.acceptProfile p) := by
  unfold State.acceptProfile
  extract_lets p0 s1
  have hr : Releveled (s1.clearDecoder.acceptPos).emptyMaps (nextLevel p s.chm.level s.chm.heat) .profile
      ((s1.clearDecoder.acceptPos).emptyMaps.recompute .profile) :=
    changeLevel_releveled (s := (s1.clearDecoder.acceptPos).emptyMaps) ha _ _
  generalize (s1.clearDecoder.acceptPos).emptyMaps.recompute .profile = v at hr
  obtain ⟨l, b, hpos⟩ := hr.pos
  have hva : v.pos.act = .parked := by rw [hpos]; exact ha
  obtain ⟨m, hm, e⟩ := selectHead_parked hva p.anchor
  have hsdc := hr.sdc
  have hlevel : v.chm.level = nextLevel p s.chm.level s.chm.heat := congrArg Chm.level hr.chm
  rw [e]
  exact {
    now := hr.now
    pst := hr.pst
    counters := congrArg Sdc.counters hsdc
    expect := congrArg Sdc.expect hsdc
    marker := hm (congrArg Sdc.marker hsdc)
    hmp := hr.hmp
    flc := (congrArg (fun f : Flc => { f with engineHead := p.anchor }) hr.flc).trans rfl
    chm := hr.chm
    changed := fun k => by
      obtain ⟨hthermal, hlast⟩ := hr.changed fun e => k (hlevel.trans e)
      exact ⟨hthermal, hlast.trans (congrArg (fun x => some (LevelChange.mk s.chm.level x .profile)) hlevel.symm)⟩
    same := fun k => hr.same (hlevel.symm.trans k)
    act := by rw [ha]; exact hva
    spindle := (congrArg Pos.spindle hpos).trans rfl
    inTol := (congrArg Pos.inTol hpos).trans rfl
    outTol := (congrArg Pos.outTol hpos).trans rfl
    indexRef := (congrArg Pos.indexRef hpos).trans rfl
    silence := fun k => (congrArg Pos.silenceDue hpos).trans (if_pos k)
    sending := hr.sending
    waiting := hr.waiting
    noneHears := hr.noneHears }

/-! ## The request -/

section
variable {tag : Byte} {b : List Byte} {zc n : Nat} {p : Profile}

/-- The state in which PROFILE_WRITE is taken, its reply open. -/
theorem openReply_configReq (s : State) (tag : Byte) :
    ∃ r, (s.reload .configReq).openReply tag = (s.setRtm r).openReply tag := by
  obtain ⟨r, e⟩ := reload_eq s .configReq
  exact ⟨r, by rw [e]⟩

/-- With no job, the actuator PARKED and no save in flight, the payload alone decides (R177). -/
theorem takeProfile_parse (ht : s.jct.table = []) (ha : s.pos.act = .parked) (hs : s.pst.save = none) :
    s.takeProfile b =
      match parseProfile b with
      | .error .length => .error { code := .badLength }
      | .error (.value i) => .error { code := .badValue, detail := i }
      | .ok p => .ok (s.acceptProfile p) := by
  unfold State.takeProfile
  rw [ht]
  dsimp only
  rw [if_neg (not_not.mpr ha), hs]
  rfl

theorem profile_badLength (h : s.LinkReady) (hb : b.length ≤ 240) (ht : s.jct.table = []) (ha : s.pos.act = .parked)
    (hs : s.pst.save = none) (hp : parseProfile b = .error .length) :
    exec (.profileWrite tag b) s = .next ((s.reload .configReq).refuses tag .badLength 0) := by
  refine profile_refused h hb ?_
  obtain ⟨r, e⟩ := openReply_configReq s tag
  rw [e, takeProfile_parse (s := (s.setRtm r).openReply tag) ht ha hs, hp]

theorem profile_badValue (h : s.LinkReady) (hb : b.length ≤ 240) (ht : s.jct.table = []) (ha : s.pos.act = .parked)
    (hs : s.pst.save = none) (hp : parseProfile b = .error (.value n)) :
    exec (.profileWrite tag b) s = .next ((s.reload .configReq).refuses tag .badValue n) := by
  refine profile_refused h hb ?_
  obtain ⟨r, e⟩ := openReply_configReq s tag
  rw [e, takeProfile_parse (s := (s.setRtm r).openReply tag) ht ha hs, hp]

/-- A payload that passes every check is accepted, its reply in transmission at once (R178; log 13). -/
theorem profile_accepted (h : s.LinkReady) (hb : b.length ≤ 240) (ht : s.jct.table = []) (ha : s.pos.act = .parked)
    (hs : s.pst.save = none) (hp : parseProfile b = .ok p) :
    ∃ r v ws, Accepted ((s.setRtm r).openReply tag) p v ∧ exec (.profileWrite tag b) s = .next ((v.setInbox []).setBlk
      { v.blk with
        sending := some
          { frame := { kind := 0x80, tag := tag, payload := [2, 1] }, isReply := true, reset := false, due := s.now + 7000 }
        waiting := ws }) := by
  obtain ⟨r, e⟩ := openReply_configReq s tag
  have hacc := acceptProfile_accepted (s := (s.setRtm r).openReply tag) ha p
  have htake := takeProfile_parse (s := (s.setRtm r).openReply tag) (b := b) ht ha hs
  rw [hp] at htake
  dsimp only at htake
  generalize ((s.setRtm r).openReply tag).acceptProfile p = v at hacc htake
  have hsource : b1 v.pst.source.code ++ [boolByte v.pst.unsaved] = [2, 1] := by rw [hacc.pst]; rfl
  obtain ⟨ws, hws⟩ := hacc.waiting
  have hwaiting : v.blk.waiting = .reply { kind := 0x80, tag := tag, payload := [] } false :: ws := by
    rw [hws]
    show s.blk.waiting ++ _ ++ ws = _
    rw [h.waiting]
    rfl
  obtain ⟨xs, hexec⟩ := request_replied (k := .profileWrite) (p := b) (a := .ack [2, 1]) (tag := tag) (t := v) h hb
    (fun n hn => by cases hn) (by decide)
    (by
      show ((s.reload .configReq).openReply tag).reqProfileWrite b = _
      unfold State.reqProfileWrite
      rw [e, htake]
      dsimp only
      rw [hsource])
    (hacc.noneHears
      ⟨ht, fun m hm => by rw [show ((s.setRtm r).openReply tag).inbox = [] from h.inbox] at hm; cases hm⟩)
    (hacc.sending.trans h.sending) ⟨_, ws, hwaiting⟩
  refine ⟨r, v, xs, hacc, ?_⟩
  rw [show s.now = v.now from hacc.now.symm]
  exact hexec

theorem parse_badLength_short (hb : b.length < 4) : parseProfile b = .error .length := if_pos hb

theorem parse_zoneCount (hb : 4 ≤ b.length) (hz : zc = u16At b 2) (h : zc = 0 ∨ 24 < zc) : parseProfile b = .error (.value 1) := by
  unfold parseProfile
  rw [leNat_two, ← hz, if_neg (by omega)]
  exact if_pos (by omega)

theorem parse_badLength (hb : 4 ≤ b.length) (hz : zc = u16At b 2) (h1 : 1 ≤ zc) (h24 : zc ≤ 24) (hl : b.length ≠ 96 + 4 * zc) :
    parseProfile b = .error .length := by
  unfold parseProfile
  rw [leNat_two, ← hz, if_neg (by omega)]
  dsimp only
  rw [if_neg (by omega), if_pos hl]

end

/-- Settles O52: each check by the first index at which its walk over fields, zones or constraints stops, and the acceptance block
by block. -/
theorem profileWriteChecksAndAccepts : Obligations.ProfileWriteChecksAndAccepts := by
  unfold Obligations.ProfileWriteChecksAndAccepts
  intro s tag b zc h hb hz
  refine ⟨fun j rest hj => ?_, fun ht ha => ?_, fun ht ha => ⟨fun hs => ?_, fun hs => ⟨fun hlt => ?_, fun hle hc => ?_,
    fun hle h1 h24 hl => ?_, fun h1 h24 hl => ?_, fun p hp => ?_⟩⟩⟩
  · refine profile_refused h hb ?_
    obtain ⟨r, e⟩ := openReply_configReq s tag
    rw [e]
    unfold State.takeProfile
    rw [show ((s.setRtm r).openReply tag).jct.table = j :: rest from hj]
  · refine profile_refused h hb ?_
    obtain ⟨r, e⟩ := openReply_configReq s tag
    rw [e]
    unfold State.takeProfile
    rw [show ((s.setRtm r).openReply tag).jct.table = [] from ht]
    exact if_pos ha
  · refine profile_refused h hb ?_
    obtain ⟨r, e⟩ := openReply_configReq s tag
    rw [e]
    unfold State.takeProfile
    rw [show ((s.setRtm r).openReply tag).jct.table = [] from ht]
    exact (if_neg (not_not.mpr ha)).trans (if_pos hs)
  · exact profile_badLength h hb ht ha hs (parse_badLength_short hlt)
  · exact profile_badValue h hb ht ha hs (parse_zoneCount hle hz hc)
  · exact profile_badLength h hb ht ha hs (parse_badLength hle hz h1 h24 hl)
  · have hlong : 32 ≤ b.length := by omega
    have hparse := parseProfile_eq h1 h24 hl hz
    have hfault : ∀ n, (readProfile b zc).fault = some n →
        exec (.profileWrite tag b) s = .next ((s.reload .configReq).refuses tag .badValue n) := fun n hn =>
      profile_badValue h hb ht ha hs (by rw [hparse, hn])
    refine ⟨fun i hi hlt hn => hfault i (fault_field hlong hi hlt hn), fun hf =>
      ⟨fun z hz hlt ho => hfault _ (fault_zone hlong hf hz hlt ho), fun hover => ?_⟩⟩
    have hcross := fault_of_zones hlong hf hover
    obtain ⟨c1, c2, c3, c4, c5⟩ := crossHolds_iff (zc := zc) hlong
    have hnot : ∀ n, crossFields (readProfile b zc) = some n →
        exec (.profileWrite tag b) s = .next ((s.reload .configReq).refuses tag .badValue n) := fun n hn =>
      hfault n (hcross.trans hn)
    unfold crossFields at hnot
    refine ⟨fun n1 => hnot 2 ?_, fun k1 n2 => hnot 5 ?_, fun k1 k2 n3 => hnot 36 ?_, fun k1 k2 k3 n4 => hnot 37 ?_,
      fun k1 k2 k3 k4 n5 => hnot 38 ?_, fun hall => ⟨fun z hz hlt hn => hfault _ ?_, fun hfits => ?_⟩⟩
    · rw [if_pos (not_not.mp (c1.not.mp n1))]
    · rw [if_neg (c1.mp k1), if_pos (not_not.mp (c2.not.mp n2))]
    · rw [if_neg (c1.mp k1), if_neg (c2.mp k2), if_pos (not_not.mp (c3.not.mp n3))]
    · rw [if_neg (c1.mp k1), if_neg (c2.mp k2), if_neg (c3.mp k3), if_pos (not_not.mp (c4.not.mp n4))]
    · rw [if_neg (c1.mp k1), if_neg (c2.mp k2), if_neg (c3.mp k3), if_neg (c4.mp k4), if_pos (not_not.mp (c5.not.mp n5))]
    · rw [hcross, crossFields_order hlong hall hz hlt hn]
    · refine ⟨readProfile b zc, ?_, fields_of_payload hlong, tracks_of_payload⟩
      rw [hparse, hcross.trans (crossFields_none hlong hall hfits)]
  · obtain ⟨zc', h1, h24, hzc, hl, rfl, hf⟩ := parseProfile_ok hp
    obtain ⟨hranges, hanchor, hrev, hwarm, hmid, hhot, hmax, hrise⟩ := fault_none hf
    have hcount : (readProfile b zc').zoneCount = zc' :=
      Int.ofNat.inj ((payloadField_toNat (by omega) (i := 1) (by decide)).trans (by rw [hzc]; rfl))
    obtain ⟨r, v, ws, hacc, hexec⟩ := profile_accepted (tag := tag) h hb ht ha hs hp
    refine ⟨hf, hranges, rfl, hrev, hanchor, hcount ▸ h1, hcount ▸ h24, ?_, hcount ▸ hl, hmax, hrise, hwarm, hmid, hhot,
      _, hexec, hacc.pst, hacc.counters, hacc.expect, hacc.marker, hacc.hmp, hacc.flc, ?_, ?_, ?_, ?_, hacc.changed, hacc.same,
      hacc.act.trans ha, hacc.spindle, hacc.inTol, hacc.outTol, hacc.indexRef, hacc.silence, rfl⟩
    · rw [hcount]
      exact (List.length_map _).trans List.length_range
    all_goals
      show _ = _
      exact (congrArg _ hacc.chm).trans rfl

end Sys2Proof.Machine
end

section
/-! PROOF. Records of the anchor in SEEKING and SETTLING in a quiet part (R24, R34, R36, R148, R149). -/

namespace Sys2Proof.Machine

variable {s t u : State} {n : Nat}

/-! ## The level recomputed with no seek held (R146, R147) -/

theorem releaseHeld_none (h : s.pos.held = none) : s.releaseHeld = s := by
  unfold State.releaseHeld
  rw [h]

/-- `t` is `s` but for the heat level, the last change and what is reported. -/
structure LevelMoved (s t : State) : Prop where
  pos : t.pos = s.pos
  heat : t.chm.heat = s.chm.heat
  prof : t.prof = s.prof

/-- A change of level with no seek held, in a quiet part. -/
theorem Served.changeLevel (h : Served s n t) (hh : t.pos.held = none) (a : HeatLevel) (c : LevelCause) :
    Served s n (t.changeLevel a c) ∧ LevelMoved t (t.changeLevel a c) := by
  have hr : Served s n (t.recordLevel a c) := Served.raise h.setChm
  have hm : LevelMoved t (t.recordLevel a c) := ⟨rfl, rfl, rfl⟩
  unfold State.changeLevel
  dsimp only
  split
  · exact ⟨h, rfl, rfl, rfl⟩
  · split
    · rw [discardHeld_of_none ((t.recordLevel _ c).goOn .hot) hh]
      exact ⟨hr.goOn (by decide), hm.pos, hm.heat, hm.prof⟩
    · exact ⟨hr.tell (by decide), hm.pos, hm.heat, hm.prof⟩
    · rw [releaseHeld_none (s := t.recordLevel _ c) hh]
      exact ⟨hr, hm⟩
    · exact ⟨hr, hm⟩

/-- The cost of a seek in a quiet part (R148). -/
theorem Served.seekCost (h : Served s n t) (hh : t.pos.held = none) (d : Nat) : Served s n (t.seekCost d) ∧
    (t.seekCost d).pos = t.pos ∧ (t.seekCost d).chm.pace = 0 ∧
    (t.seekCost d).chm.heat = min 65535 (t.chm.heat + (s.prof.seekBase + d / s.prof.seekDiv)) := by
  rw [← h.prof]
  obtain ⟨h1, hm⟩ := Served.changeLevel (t := t.addHeat (t.prof.seekBase + d / t.prof.seekDiv)) h.setChm hh
    (nextLevel t.prof t.chm.level (satAdd 65535 t.chm.heat (t.prof.seekBase + d / t.prof.seekDiv))) .seek
  exact ⟨h1.setChm, hm.pos, rfl, hm.heat⟩

/-- The cost of a jog in a quiet part (R149). -/
theorem Served.jogCost (h : Served s n t) (hh : t.pos.held = none) : Served s n t.jogCost ∧ t.jogCost.pos = t.pos ∧
    t.jogCost.chm.heat = min 65535 (t.chm.heat + s.prof.jogCost) := by
  rw [← h.prof]
  obtain ⟨h1, hm⟩ := Served.changeLevel (t := t.addHeat t.prof.jogCost) h.setChm hh
    (nextLevel t.prof t.chm.level (satAdd 65535 t.chm.heat t.prof.jogCost)) .jog
  exact ⟨h1, hm.pos, hm.heat⟩

/-! ## SEEKING (R34) -/

/-- A GOOD record of the anchor in SEEKING. -/
theorem seekingRecord_good {m : Mark} {r : SectorRecord} (hr : AnchorGood s m r) : s.seekingRecord r =
    if m.track = s.pos.target then
      (((s.setPos (s.pos.driven (anchorError s m (pesOf m)))).setAct .settling
        (s.deadlineIn .settle s.prof.settleMs)).seekCost ((s.pos.target : Int) - s.pos.seekOrigin).natAbs).firstSettleRecord
          (anchorError s m (pesOf m))
    else s.setPos (s.pos.driven (anchorError s m (pesOf m))) := by
  unfold State.seekingRecord
  rw [hr.cls, hr.mark, hr.pes]
  rfl

/-- The settle run of the record that completes a seek, where one record is not enough (R36). -/
theorem firstSettleRecord_one {e : Int} (hrun : s.pos.settleRun = 0) (hc : 2 ≤ s.prof.settleCount) : s.firstSettleRecord e =
    s.setPos { s.pos with settleRun := if e.natAbs ≤ s.prof.settleTol then 1 else 0 } := by
  unfold State.firstSettleRecord
  split
  · rw [hrun, if_neg (by omega)]
  · rfl

/-- A record that completes a seek in a quiet part (R34, R36, R148). -/
theorem Served.seekEnd (h : Served s n t) (ha : t.pos.act = .seeking) (hh : t.pos.held = none) (hc : 2 ≤ s.prof.settleCount)
    (d : Nat) (e : Int) (x : Option ActDeadline) :
    Served s n (((t.setAct .settling x).seekCost d).firstSettleRecord e) ∧
    (((t.setAct .settling x).seekCost d).firstSettleRecord e).pos =
      { t.pos.arrived .settling x with settleRun := if e.natAbs ≤ s.prof.settleTol then 1 else 0 } ∧
    (((t.setAct .settling x).seekCost d).firstSettleRecord e).chm.pace = 0 ∧
    (((t.setAct .settling x).seekCost d).firstSettleRecord e).chm.heat =
      min 65535 (t.chm.heat + (s.prof.seekBase + d / s.prof.seekDiv)) := by
  obtain ⟨h1, hp1, hc1, -⟩ := h.setAct (d := x) (by rw [ha]; decide) .settling
  obtain ⟨h2, hp2, hpace, hheat⟩ := h1.seekCost (by rw [hp1]; exact hh) d
  have hp := hp2.trans hp1
  rw [firstSettleRecord_one (by rw [hp]; rfl) (by rw [h2.prof]; exact hc), hp, h2.prof]
  exact ⟨h2.setPos (by rw [hp]; exact ⟨rfl, rfl, rfl⟩), rfl, hpace, by rw [← hc1]; exact hheat⟩

/-! ## SETTLING (R36) -/

/-- A GOOD record of the anchor in SETTLING. -/
theorem settlingRecord_good {m : Mark} {r : SectorRecord} (hr : AnchorGood s m r) : s.settlingRecord r =
    if (anchorError s m (pesOf m)).natAbs ≤ s.prof.settleTol then
      if s.prof.settleCount ≤ s.pos.settleRun + 1 then (s.setPos (s.pos.tracked (anchorError s m (pesOf m)))).settled
      else s.setPos { s.pos.tracked (anchorError s m (pesOf m)) with settleRun := s.pos.settleRun + 1 }
    else s.setPos { s.pos.tracked (anchorError s m (pesOf m)) with settleRun := 0 } := by
  unfold State.settlingRecord
  rw [hr.cls, hr.mark, hr.pes]
  rfl

/-- The end of settling in a quiet part (R36, R149). -/
theorem Served.settled (h : Served s n t) (ha : t.pos.act ≠ .parked) (hh : t.pos.held = none) : Served s n t.settled ∧
    t.settled.pos = (t.pos.moveDone .settled).arrived .following none ∧
    ((∃ w, t.pos.actMove = some { kind := .jog, owner := w }) →
      t.settled.chm.heat = min 65535 (t.chm.heat + s.prof.jogCost)) ∧
    ((∀ w, t.pos.actMove ≠ some { kind := .jog, owner := w }) → t.settled.chm = t.chm) := by
  obtain ⟨h1, hp1, hc1, -⟩ := h.endActMove .settled
  obtain ⟨h2, hp2, hc2, -⟩ := h1.setAct (d := none) (by rw [hp1]; exact ha) .following
  have hp := hp2.trans (congrArg (fun p => Pos.arrived p .following none) hp1)
  have hc := hc2.trans hc1
  unfold State.settled
  dsimp only
  cases hjog : t.pos.actMove.any fun m => m.kind == .jog
  · rw [if_neg (by decide), h2.restTest]
    refine ⟨h2, hp, fun ⟨w, hw⟩ => ?_, fun _ => hc⟩
    rw [hw] at hjog
    cases hjog
  · obtain ⟨h3, hp3, hheat⟩ := h2.jogCost (by rw [hp]; exact hh)
    rw [if_pos rfl, h3.restTest]
    refine ⟨h3, hp3.trans hp, fun _ => hheat.trans (by rw [hc]), fun k => ?_⟩
    obtain ⟨⟨kind, w⟩, hm, hk⟩ := Option.any_eq_true _ _ |>.mp hjog
    exact absurd (hm.trans (by rw [show kind = .jog from by simpa using hk])) (k w)

/-! ## A seek and its settling without jobs -/

/-- SEEKING in a quiet part: the seek goes on, or is completed (R34). -/
theorem quiet_seeking {sector : BitVec 10} {code : BitVec 18} {e o : BitVec 12} {ticks : Nat} {m : Mark} (h : QuietSlot s)
    (hg : GoodMark s sector code e o m) (hh : s.pos.held = none) (hc : 2 ≤ s.prof.settleCount) (ha : s.pos.act = .seeking) :
    ∃ t, exec (.slotEndMark sector code e o ticks) s = .next t ∧ ServoFrame s (s.pos.indexRef.getD s.now + ticks) t ∧
      t.pos.target = s.pos.target ∧ t.pos.offset = s.pos.offset ∧ t.pos.actMove = s.pos.actMove ∧
      (m.track ≠ s.pos.target → t.pos.act = .seeking ∧ t.pos.deadline = s.pos.deadline ∧ t.chm = s.chm) ∧
      (m.track = s.pos.target →
        t.pos.act = .settling ∧
        t.pos.deadline = some { kind := .settle, due := t.now + s.prof.settleMs * 200000 } ∧
        t.pos.settleRun = (if (pesOf m - s.pos.offset).natAbs ≤ s.prof.settleTol then 1 else 0) ∧
        t.chm.heat = min 65535
          (s.chm.heat + (s.prof.seekBase + ((s.pos.target : Int) - s.pos.seekOrigin).natAbs / s.prof.seekDiv)) ∧
        t.chm.pace = 0) := by
  obtain ⟨v, r, hr, hv, hpos, hchm, hexec⟩ := h.goodSlot hg ticks
  rw [servoRecord_seeking hr.head (by rw [hpos]; exact ha) (by rw [hr.cls]; decide), seekingRecord_good hr] at hexec
  have he : anchorError v m (pesOf m) = ((m.track : Int) - s.pos.target) * 16384 + pesOf m - s.pos.offset := by
    unfold anchorError
    rw [hpos]
  rw [hpos] at hexec
  have hdriven := hv.setPos (p := s.pos.driven (anchorError v m (pesOf m))) (by rw [hpos]; exact ⟨rfl, rfl, rfl⟩)
  by_cases ht : m.track = s.pos.target
  · rw [if_pos ht] at hexec
    obtain ⟨hserved, hp, hpace, hheat⟩ := hdriven.seekEnd ha hh hc ((s.pos.target : Int) - s.pos.seekOrigin).natAbs
      (anchorError v m (pesOf m)) (v.deadlineIn .settle v.prof.settleMs)
    obtain ⟨hf, hfp, hfc, hfn⟩ := hserved.finish
    refine ⟨_, hexec hserved, hf, ?_⟩
    rw [hfp, hfc, hfn, hpace, hheat, hp]
    refine ⟨rfl, rfl, rfl, fun k => absurd ht k, fun _ => ⟨rfl, ?_, ?_, by rw [State.setPos_chm, hchm], rfl⟩⟩
    · exact (hv.deadlineIn .settle _).trans (by rw [hv.prof])
    · rw [he, show ((m.track : Int) - s.pos.target) * 16384 + pesOf m - s.pos.offset = pesOf m - s.pos.offset by rw [ht]; omega]
  · rw [if_neg ht] at hexec
    obtain ⟨hf, hfp, hfc, hfn⟩ := hdriven.finish
    refine ⟨_, hexec hdriven, hf, ?_⟩
    rw [hfp, hfc]
    exact ⟨rfl, rfl, rfl, fun _ => ⟨ha, rfl, hchm⟩, fun k => absurd k ht⟩

/-- SETTLING in a quiet part: the settle run, and its end (R36, R149). -/
theorem quiet_settling {sector : BitVec 10} {code : BitVec 18} {e o : BitVec 12} {ticks : Nat} {m : Mark} (h : QuietSlot s)
    (hg : GoodMark s sector code e o m) (hh : s.pos.held = none) (ha : s.pos.act = .settling) :
    ∃ t, exec (.slotEndMark sector code e o ticks) s = .next t ∧ ServoFrame s (s.pos.indexRef.getD s.now + ticks) t ∧
      t.pos.target = s.pos.target ∧ t.pos.offset = s.pos.offset ∧
      (s.prof.settleTol < (((m.track : Int) - s.pos.target) * 16384 + pesOf m - s.pos.offset).natAbs →
        t.pos.act = .settling ∧ t.pos.settleRun = 0 ∧ t.pos.deadline = s.pos.deadline ∧
        t.pos.actMove = s.pos.actMove ∧ t.chm = s.chm) ∧
      ((((m.track : Int) - s.pos.target) * 16384 + pesOf m - s.pos.offset).natAbs ≤ s.prof.settleTol →
        (s.pos.settleRun + 1 < s.prof.settleCount →
          t.pos.act = .settling ∧ t.pos.settleRun = s.pos.settleRun + 1 ∧ t.pos.deadline = s.pos.deadline ∧
          t.pos.actMove = s.pos.actMove ∧ t.chm = s.chm) ∧
        (s.prof.settleCount ≤ s.pos.settleRun + 1 →
          t.pos.act = .following ∧ t.pos.deadline = none ∧ t.pos.actMove = none ∧
          t.pos.lastBench = benchOutcome s.pos.lastBench s.pos.actMove .settled ∧
          ((∃ w, s.pos.actMove = some { kind := .jog, owner := w }) →
            t.chm.heat = min 65535 (s.chm.heat + s.prof.jogCost)) ∧
          ((∀ w, s.pos.actMove ≠ some { kind := .jog, owner := w }) → t.chm = s.chm))) := by
  obtain ⟨v, r, hr, hv, hpos, hchm, hexec⟩ := h.goodSlot hg ticks
  rw [servoRecord_settling hr.head (by rw [hpos]; exact ha) (by rw [hr.cls]; decide), settlingRecord_good hr] at hexec
  have he : anchorError v m (pesOf m) = ((m.track : Int) - s.pos.target) * 16384 + pesOf m - s.pos.offset := by
    unfold anchorError
    rw [hpos]
  rw [hpos, hv.prof, he] at hexec
  generalize ((m.track : Int) - s.pos.target) * 16384 + pesOf m - s.pos.offset = x at hexec ⊢
  have htracked : ∀ k, Served s (s.pos.indexRef.getD s.now + ticks) (v.setPos { s.pos.tracked x with settleRun := k }) :=
    fun k => hv.setPos (by rw [hpos]; exact ⟨rfl, rfl, rfl⟩)
  by_cases hx : x.natAbs ≤ s.prof.settleTol
  · rw [if_pos hx] at hexec
    by_cases hc : s.prof.settleCount ≤ s.pos.settleRun + 1
    · rw [if_pos hc] at hexec
      obtain ⟨hserved, hp, hjog, hno⟩ := (hv.setPos (p := s.pos.tracked x) (by rw [hpos]; exact ⟨rfl, rfl, rfl⟩)).settled
        (by show s.pos.act ≠ _; rw [ha]; decide) hh
      obtain ⟨hf, hfp, hfc, -⟩ := hserved.finish
      refine ⟨_, hexec hserved, hf, ?_⟩
      rw [hfp, hfc]
      refine ⟨(congrArg Pos.target hp).trans rfl, (congrArg Pos.offset hp).trans rfl,
        fun k => absurd hx (by omega), fun _ => ⟨fun k => absurd hc (by omega),
        fun _ => ⟨congrArg Pos.act hp, congrArg Pos.deadline hp, congrArg Pos.actMove hp, congrArg Pos.lastBench hp,
          fun k => (hjog k).trans (by rw [State.setPos_chm, hchm]), fun k => (hno k).trans hchm⟩⟩⟩
    · rw [if_neg hc] at hexec
      obtain ⟨hf, hfp, hfc, -⟩ := (htracked (s.pos.settleRun + 1)).finish
      refine ⟨_, hexec (htracked _), hf, ?_⟩
      rw [hfp, hfc]
      exact ⟨rfl, rfl, fun k => absurd hx (by omega), fun _ => ⟨fun _ => ⟨ha, rfl, rfl, rfl, hchm⟩, fun k => absurd k hc⟩⟩
  · rw [if_neg hx] at hexec
    obtain ⟨hf, hfp, hfc, -⟩ := (htracked 0).finish
    refine ⟨_, hexec (htracked _), hf, ?_⟩
    rw [hfp, hfc]
    exact ⟨rfl, rfl, fun _ => ⟨ha, rfl, rfl, rfl, hchm⟩, fun k => absurd k hx⟩

end Sys2Proof.Machine
end

section
/-! PROOF. The RUNNING job's record, the reports that change nothing for it, and the end of an arrival (chapter 6; log 15). -/

namespace Sys2Proof.Machine

variable {s t u : State} {j : Job} {c : Cursor} {f : Figures} {head zone : Nat}

/-! ## The RUNNING job's record -/

theorem isActive_of_running {j : Job} (h : j.state = .running) : j.isActive = true := by
  unfold Job.isActive
  rw [h]
  rfl

theorem active_of_running (h : s.running = some j) : s.active = some j ∧ j.state = .running := by
  unfold State.running at h
  cases ha : s.active with
  | none => rw [ha] at h; cases h
  | some x =>
    rw [ha] at h
    dsimp only at h
    split at h
    · cases h
      exact ⟨rfl, ‹_›⟩
    · cases h

/-- An edit that keeps every record's state edits the active one. -/
theorem active_editActive {g : Job → Job} (h : s.active = some j) (hg : ∀ x, (g x).state = x.state) :
    (s.editActive g).active = some (g j) := by
  have hact : ∀ x : Job, (if x.isActive then g x else x).isActive = x.isActive := fun x => by
    split
    · unfold Job.isActive
      rw [hg]
    · rfl
  have hj : j.isActive = true := List.find?_some h
  unfold State.active State.editActive
  show List.find? Job.isActive (s.jct.table.map _) = _
  rw [List.find?_map, show (Job.isActive ∘ fun x => if x.isActive then g x else x) = Job.isActive from funext hact,
    show s.jct.table.find? Job.isActive = some j from h, Option.map_some, if_pos hj]

theorem running_editActive {g : Job → Job} (h : s.running = some j) (hg : ∀ x, (g x).state = x.state) :
    (s.editActive g).running = some (g j) := by
  obtain ⟨ha, hs⟩ := active_of_running h
  unfold State.running
  rw [active_editActive ha hg]
  exact if_pos ((hg j).trans hs)

/-- The RUNNING job with the cursor `c`, at head `head` and zone `zone`, its figures `f`. -/
structure Job.At (j : Job) (c : Cursor) (f : Figures) (head zone : Nat) : Prop where
  cursor : j.cursor = some c
  figures : j.figures = some f
  head : j.heads[c.head]? = some head
  zone : j.zones[c.zone]? = some zone

theorem here_of (h : s.running = some j) (hj : j.At c f head zone) :
    s.here = some { job := j, cursor := c, figures := f, head := head, zone := zone } := by
  unfold State.here
  rw [h]
  dsimp only
  rw [hj.cursor, hj.figures]
  dsimp only
  rw [hj.head, hj.zone]

theorem runningPhase_of (h : s.running = some j) (hc : j.cursor = some c) : s.runningPhase = some c.phase := by
  unfold State.runningPhase
  rw [h]
  show j.cursor.map _ = _
  rw [hc]
  rfl

/-- The cursor edited: the same head-zone. -/
theorem Job.At.onCursor (h : j.At c f head zone) (g : Cursor → Cursor) (hh : (g c).head = c.head) (hz : (g c).zone = c.zone) :
    (j.onCursor g).At (g c) f head zone := by
  refine ⟨?_, h.figures, ?_, ?_⟩
  · unfold Job.onCursor
    rw [h.cursor]
    rfl
  · rw [hh]
    exact h.head
  · rw [hz]
    exact h.zone

theorem onCursor_eq (h : j.cursor = some c) (g : Cursor → Cursor) : j.onCursor g = { j with cursor := some (g c) } := by
  unfold Job.onCursor
  rw [h]
  rfl

theorem running_onCursor (h : s.running = some j) (g : Cursor → Cursor) :
    (s.editActive fun x => x.onCursor g).running = some (j.onCursor g) := running_editActive h fun _ => rfl

/-! ## Reports that change nothing -/

/-- A report that changes nothing for a job that has its order: a change of position, a move ended for another reason than those
of R111, a gate aborted. -/
def JctMsg.idle : JctMsg → Bool
  | .posChanged => true
  | .moveEnded _ (.interrupted c) _ => c != .servoLost && c != .offTrack
  | .gateEnded r _ => r.ending == .aborted
  | _ => false

theorem takeMove_interrupted {k : MoveKind} {x : StopCause} {n : Nat} (h1 : x ≠ .servoLost) (h2 : x ≠ .offTrack) :
    s.takeMove k (.interrupted x) n = s := by
  have hseek : ∀ y, s.takeSeekOutcome y (.interrupted x) = s := fun y => by
    unfold State.takeSeekOutcome
    split <;> simp_all
  have hjog : ∀ y, s.takeJogOutcome y (.interrupted x) = s := fun y => by
    unfold State.takeJogOutcome
    split <;> simp_all
  unfold State.takeMove
  split
  · rfl
  · split
    · split <;> rfl
    · split <;> rfl
    · rw [hseek, hjog]; split <;> [rfl; (split <;> rfl)]
    · rw [hseek, hjog]; split <;> [rfl; (split <;> rfl)]
    · rfl
    · rfl

/-- The RUNNING job has its order: in PREPARE it waits, and a held seek that it waits for in ZONE_SEEK is held. -/
structure State.Ordered (s : State) : Prop where
  waits : s.runningPhase = some .prepare → ∀ ms, (s.setInbox ms).prepare = s.setInbox ms
  held : s.runningPhase = some .zoneSeek → s.jct.ctx.waits = some .heldSeek → s.pos.held ≠ none

theorem State.Ordered.setInbox (h : s.Ordered) (ms : List JctMsg) : (s.setInbox ms).Ordered := ⟨h.waits, h.held⟩

theorem takeGate_aborted {r : GateRecord} (hr : r.ending = .aborted) (n : Nat) : s.takeGate r n = s := by
  unfold State.takeGate
  split
  · rfl
  · split
    · unfold State.takePeriod State.takeGateA State.takeGateP
      rw [hr]
      split <;> rfl
    · rfl

/-- Such a report changes nothing for a job that has its order. -/
theorem State.Ordered.take (h : s.Ordered) {m : JctMsg} (hm : m.idle = true) : s.jctTake m = s := by
  unfold JctMsg.idle at hm
  split at hm
  · show s.takePosChange = s
    unfold State.takePosChange
    split
    next hp => exact h.waits hp s.inbox
    next hp => exact if_neg fun k => h.held hp k.1 k.2
    · rfl
  · rw [Bool.and_eq_true, bne_iff_ne, bne_iff_ne] at hm
    exact takeMove_interrupted hm.1 hm.2
  · exact takeGate_aborted (by simpa using hm) _
  · cases hm

/-- The end of an arrival with such reports alone. -/
theorem State.Ordered.drain (h : s.Ordered) (hm : s.inbox.all JctMsg.idle = true) (n : Nat) : s.drain n = s.setInbox [] := by
  induction n generalizing s with
  | zero => rfl
  | succ n ih =>
    unfold State.drain
    split
    next e => rw [← e]; rfl
    next m ms e =>
      rw [e, List.all_cons, Bool.and_eq_true] at hm
      rw [(h.setInbox ms).take hm.1]
      exact ih (h.setInbox ms) hm.2

/-! ## The end of an arrival, report by report -/

theorem drain_cons {m : JctMsg} {ms : List JctMsg} (h : s.inbox = m :: ms) (n : Nat) :
    s.drain (n + 1) = ((s.setInbox ms).jctTake m).drain n := by
  conv_lhs => unfold State.drain
  rw [h]

/-- An arrival whose first report gives the job its order. -/
theorem finish_ordered {m : JctMsg} {ms : List JctMsg} (h : s.inbox = m :: ms) (ht : (s.setInbox ms).jctTake m = t)
    (ho : t.Ordered) (hm : t.inbox.all JctMsg.idle = true) :
    ∃ x w, s.finish = (t.setInbox []).setBlk { t.blk with sending := x, waiting := w } := by
  have hd : s.drain Config.drainFuel = t.setInbox [] := by
    show s.drain (65535 + 1) = _
    rw [drain_cons h, ht, ho.drain hm]
  unfold State.finish
  rw [hd]
  exact transmit_frame (t.setInbox [])

/-- An arrival whose first report sends the job to PREPARE, which gives it its order. -/
theorem finish_prepared {m : JctMsg} {ms ks : List JctMsg} (h : s.inbox = m :: ms) (ht : (s.setInbox ms).jctTake m = t)
    (hk : t.inbox = .prepare :: ks) (hu : (t.setInbox ks).prepare = u) (ho : u.Ordered) (hm : u.inbox.all JctMsg.idle = true) :
    ∃ x w, s.finish = (u.setInbox []).setBlk { u.blk with sending := x, waiting := w } := by
  have hd : s.drain Config.drainFuel = u.setInbox [] := by
    show s.drain (65534 + 1 + 1) = _
    rw [drain_cons h, ht, drain_cons hk, show (t.setInbox ks).jctTake .prepare = u from hu, ho.drain hm]
  unfold State.finish
  rw [hd]
  exact transmit_frame (u.setInbox [])

end Sys2Proof.Machine
end

section
/-! PROOF. The motions of the heads while a job is RUNNING, with no window open (R25, R32, R33, R35). -/

namespace Sys2Proof.Machine

variable {s t u : State} {p q : Pos}

/-! ## Motions with no window open -/

/-- `t` is `s` with Positioner `p`, and with reports that change nothing for a job that has its order. -/
def Drove (s : State) (p : Pos) (t : State) : Prop :=
  ∃ ms : List JctMsg, ms.all JctMsg.idle = true ∧ t = (s.setPos p).tells ms

theorem Drove.pos (h : Drove s p t) : t.pos = p := by
  obtain ⟨ms, -, rfl⟩ := h
  rfl

/-- What a motion leaves as it is. -/
theorem Drove.reads (h : Drove s p t) : t.now = s.now ∧ t.window = s.window ∧ t.jct = s.jct ∧ t.hmp = s.hmp ∧ t.chm = s.chm ∧
    t.prof = s.prof ∧ t.gcu = s.gcu ∧ t.rampView = s.rampView := by
  obtain ⟨ms, -, rfl⟩ := h
  exact ⟨rfl, rfl, rfl, rfl, rfl, rfl, rfl, rfl⟩

theorem Drove.idle (h : Drove s p t) (hs : s.inbox.all JctMsg.idle = true) : t.inbox.all JctMsg.idle = true := by
  obtain ⟨ms, hm, rfl⟩ := h
  show (s.inbox ++ ms).all JctMsg.idle = true
  rw [List.all_append, hs, hm]
  rfl

theorem Drove.trans (h : Drove s p t) (k : Drove t q u) : Drove s q u := by
  obtain ⟨ms, hm, rfl⟩ := h
  obtain ⟨ns, hn, rfl⟩ := k
  refine ⟨ms ++ ns, by rw [List.all_append, hm, hn]; rfl, ?_⟩
  rw [← State.tells_tells]
  rfl

theorem Drove.setPos (h : Drove s p t) (q : Pos) : Drove s q (t.setPos q) := by
  obtain ⟨ms, hm, rfl⟩ := h
  exact ⟨ms, hm, rfl⟩

theorem Drove.refl (s : State) : Drove s s.pos s := ⟨[], rfl, by rw [State.tells_nil]; rfl⟩

theorem reportMove_drove (m : Move) {x : StopCause} (h1 : x ≠ .servoLost) (h2 : x ≠ .offTrack) :
    Drove s { s.pos with lastBench := benchOutcome s.pos.lastBench (some m) (.interrupted x) }
      (s.reportMove m (.interrupted x)) := by
  unfold State.reportMove
  split
  next h => exact ⟨[], rfl, by rw [benchOutcome_of_bench h, State.tells_nil]⟩
  next n h =>
    refine ⟨[.moveEnded m.kind (.interrupted x) n], ?_, by rw [benchOutcome_of_not_bench (by simp [h])]; rfl⟩
    simp [JctMsg.idle, h1, h2]
  next h => exact ⟨[], rfl, by rw [benchOutcome_of_not_bench (by simp [h]), State.tells_nil]; rfl⟩

theorem discardHeld_drove {x : StopCause} (h1 : x ≠ .servoLost) (h2 : x ≠ .offTrack) :
    Drove s (s.pos.heldDone x) (s.discardHeld x) := by
  cases h : s.pos.held with
  | none =>
    rw [discardHeld_of_none s h, Pos.heldDone_of_none h]
    exact .refl s
  | some k =>
    have hr := reportMove_drove (s := s.setPos { s.pos with held := none }) { kind := .seek, owner := k.owner } h1 h2
    unfold State.discardHeld Pos.heldDone
    rw [h]
    exact hr

theorem endActMove_drove {x : StopCause} (h1 : x ≠ .servoLost) (h2 : x ≠ .offTrack) :
    Drove s (s.pos.moveDone (.interrupted x)) (s.endActMove (.interrupted x)) := by
  unfold State.endActMove
  split
  next m h =>
    have hr := reportMove_drove (s := s.setPos { s.pos with actMove := none }) m h1 h2
    unfold Pos.moveDone
    rw [h]
    exact hr
  next h =>
    rw [Pos.moveDone_of_none h]
    exact .refl s

/-- The end of a job's move (R25). -/
theorem endActMove_job {k : MoveKind} {n : Nat} (h : s.pos.actMove = some { kind := k, owner := .job n }) (o : MoveOutcome) :
    s.endActMove o = (s.setPos (s.pos.moveDone o)).tell (.moveEnded k o n) := by
  unfold State.endActMove Pos.moveDone
  rw [h]
  rfl

/-- The part is in no measurement that a change of actuator state ends: no window is open and no skew phase is under way. -/
structure State.Unmeasured (s : State) : Prop where
  window : s.window = none
  skew : s.runningPhase.map Phase.isSkew ≠ some true

theorem State.Unmeasured.congr (h : s.Unmeasured) (hw : t.window = s.window) (hj : t.jct = s.jct) : t.Unmeasured := by
  refine ⟨hw.trans h.window, ?_⟩
  unfold State.runningPhase State.running State.active
  rw [hj]
  exact h.skew

theorem Drove.unmeasured (h : Drove s p t) (hs : s.Unmeasured) : t.Unmeasured := hs.congr h.reads.2.1 h.reads.2.2.1

/-- A change of actuator state off the ramp, outside a measurement (R24, R31, R108). -/
theorem setAct_unmeasured (h : s.Unmeasured) (hp : s.pos.act ≠ .parked) (a : ActState) (d : Option ActDeadline) :
    s.setAct a d = (s.setPos (s.pos.arrived a d)).tell .posChanged := by
  have hd : (s.setPos (s.pos.arrived a d)).departFollowing a = s.setPos (s.pos.arrived a d) := by
    unfold State.departFollowing State.endWindow
    rw [show (s.setPos (s.pos.arrived a d)).window = none from h.window]
    exact if_neg h.skew
  unfold State.setAct
  dsimp only
  rw [if_neg (c := s.pos.act = .parked ∧ a ≠ .parked) fun k => hp k.1]
  split
  · exact congrArg (fun x => State.tell x .posChanged) hd
  · rfl

theorem setAct_drove (h : s.Unmeasured) (hp : s.pos.act ≠ .parked) (a : ActState) (d : Option ActDeadline) :
    Drove s (s.pos.arrived a d) (s.setAct a d) := ⟨[.posChanged], rfl, setAct_unmeasured h hp a d⟩

/-- A move that replaces the one before it. -/
theorem replaced_drove (h : s.Unmeasured) (hp : s.pos.act ≠ .parked) {g : Pos → Pos} {a : ActState} {k : DeadlineKind}
    {n : Profile → Nat} {m : Move} (hg : ∀ p : Pos, (g p).act = p.act) :
    let s1 := s.endActMove (.interrupted .replaced)
    let s2 := s1.setPos (g s1.pos)
    let s3 := s2.setAct a (s2.deadlineIn k (n s2.prof))
    Drove s { (g (s.pos.moveDone (.interrupted .replaced))).arrived a (some { kind := k, due := s.now + n s.prof * 200000 }) with
      actMove := some m } (s3.setPos { s3.pos with actMove := some m }) := by
  intro s1 s2 s3
  have h1 : Drove s (s.pos.moveDone (.interrupted .replaced)) s1 := endActMove_drove (by decide) (by decide)
  obtain ⟨hnow, hwin, hjct, -, -, hprof, -⟩ := h1.reads
  have h2 : Drove s2 (s2.pos.arrived a (s2.deadlineIn k (n s2.prof))) s3 :=
    setAct_drove ((h1.setPos _).unmeasured h) (by rw [State.setPos_pos, hg, h1.pos]; exact hp) a _
  have hd : s2.deadlineIn k (n s2.prof) = some { kind := k, due := s.now + n s.prof * 200000 } := by
    unfold State.deadlineIn State.inMs
    rw [show s2.now = s.now from hnow, show s2.prof = s.prof from hprof]
    rfl
  have h3 := (h1.setPos (g s1.pos)).trans h2
  have h4 := h3.setPos { s3.pos with actMove := some m }
  rw [h3.pos, hd, show s2.pos = g s1.pos from rfl, h1.pos] at h4
  rw [h3.pos, hd, show s2.pos = g s1.pos from rfl, h1.pos]
  exact h4

theorem startSeek_drove (h : s.Unmeasured) (hp : s.pos.act ≠ .parked) (track : Nat) (offset : Int) (o : Owner) :
    Drove s (s.pos.seekBegun track offset o (s.now + s.prof.seekMs * 200000)) (s.startSeek track offset o) :=
  replaced_drove h hp (g := fun p => { p with seekOrigin := p.target, target := track, offset := offset })
    (a := .seeking) (k := .seek) (n := Profile.seekMs) (m := { kind := .seek, owner := o }) fun _ => rfl

theorem startJog_drove (h : s.Unmeasured) (hp : s.pos.act ≠ .parked) (offset : Int) (o : Owner) :
    Drove s (s.pos.jogBegun offset o (s.now + s.prof.settleMs * 200000)) (s.startJog offset o) :=
  replaced_drove h hp (g := fun p => { p with offset := offset }) (a := .settling) (k := .settle) (n := Profile.settleMs)
    (m := { kind := .jog, owner := o }) fun _ => rfl

/-- An unload of loaded heads outside a measurement, the ramp line at OFF_RAMP (R38). -/
theorem beginUnload_drove (h : s.Unmeasured) (hl : s.pos.act.isLoaded = true) (hv : s.rampView = .offRamp) {x : UnloadCause}
    (hx : x ≠ .bench) : ∃ v q, Drove s q v ∧ q.act = .unloading ∧ q.spindle = s.pos.spindle ∧
      q.spinDownPending = s.pos.spinDownPending ∧ s.beginUnload x = v.raise .motion := by
  have hp : s.pos.act ≠ .parked := fun k => by rw [k] at hl; cases hl
  let s0 := s.discardHeld (.unload x)
  let s1 := s0.endActMove (.interrupted (.unload x))
  let s2 := s1.setAct .unloading (s1.deadlineIn .unload s1.prof.unloadMs)
  let s3 := s2.setPos { s2.pos with actMove := some { kind := .unload, owner := .nobody }, unloadCause := x }
  have h0 : Drove s _ s0 := discardHeld_drove (by simp) (by simp)
  have h1 : Drove s _ s1 := h0.trans (endActMove_drove (by simp) (by simp))
  have h2 : Drove s _ s2 := h1.trans (setAct_drove (h1.unmeasured h) (by rw [h1.pos, h0.pos]; exact hp) _ _)
  have h3 : Drove s _ s3 := h2.setPos _
  have hramp : (s3.raise .motion).rampView ≠ .onRamp := by
    rw [show (s3.raise .motion).rampView = s.rampView from h3.reads.2.2.2.2.2.2.2, hv]
    decide
  refine ⟨s3, _, h3, ?_, ?_, ?_, ?_⟩
  · rw [h2.pos]; rfl
  · rw [h2.pos, h1.pos, h0.pos]; rfl
  · rw [h2.pos, h1.pos, h0.pos]; rfl
  · unfold State.beginUnload
    rw [if_pos hl]
    dsimp only
    rw [if_neg hx, if_neg hx]
    exact if_neg hramp

end Sys2Proof.Machine
end

section
/-! PROOF. The orders of a RUNNING job's head-zone: the zone sought and reached, the jogs and the windows (R110, R112 to R114). -/

namespace Sys2Proof.Machine

variable {s t u v : State} {j : Job} {c : Cursor} {f : Figures} {head zone : Nat} {p : Phase} {q : Pos} {a : Await}
  {w : Option WaitCond}

/-! ## Phases -/

theorem running_enterPhase (h : s.running = some j) (hc : j.cursor = some c) (p : Phase) :
    (s.enterPhase p).running = some { j with cursor := some { c with phase := p } } := by
  rw [show (s.enterPhase p).running = _ from running_onCursor h _, onCursor_eq hc]

/-- `t` comes from `s` with the RUNNING job having its order in phase `p`, and with reports that change nothing for it. -/
structure Obeys (s : State) (p : Phase) (t : State) : Prop where
  phase : t.runningPhase = some p
  idle : s.inbox.all JctMsg.idle = true → t.inbox.all JctMsg.idle = true

/-- Out of PREPARE and ZONE_SEEK the job has its order. -/
theorem Obeys.ordered (h : Obeys s p t) (h1 : p ≠ .prepare) (h2 : p ≠ .zoneSeek) : t.Ordered := by
  refine ⟨fun k => ?_, fun k => ?_⟩
  · rw [h.phase] at k
    exact absurd (Option.some.inj k) h1
  · rw [h.phase] at k
    exact absurd (Option.some.inj k) h2

/-- In ZONE_SEEK the job has its order when a held seek that it waits for is held. -/
theorem Obeys.ordered_zoneSeek (h : Obeys s .zoneSeek t) (hh : t.jct.ctx.waits = some .heldSeek → t.pos.held ≠ none) :
    t.Ordered := by
  refine ⟨fun k => ?_, fun _ => hh⟩
  rw [h.phase] at k
  cases k

/-- A phase entered, a motion, and the outcome awaited. -/
theorem phaseReached_drove (hr : s.running = some j) (hc : j.cursor = some c) (hd : Drove (s.enterPhase p) q v) :
    PhaseReached s j c p c.failedZones a (v.await (some a) w) ∧ Obeys s p (v.await (some a) w) := by
  have hrun : (v.await (some a) w).running = some { j with cursor := some { c with phase := p } } := by
    rw [← running_enterPhase hr hc p]
    unfold State.running State.active
    rw [show (v.await (some a) w).jct.table = v.jct.table from rfl, hd.reads.2.2.1]
  have hjct : v.jct = (s.enterPhase p).jct := hd.reads.2.2.1
  refine ⟨⟨hrun, ⟨rfl, ?_⟩, hd.reads.2.2.2.1, ?_⟩, runningPhase_of hrun rfl, hd.idle⟩
  · exact (congrArg Jct.attempt hjct).trans rfl
  · exact (congrArg Jct.finished hjct).trans rfl

/-- A motion, a phase entered, and the outcome awaited. -/
theorem drove_phaseReached (hr : s.running = some j) (hc : j.cursor = some c) (hd : Drove s q v) :
    PhaseReached s j c p c.failedZones a ((v.enterPhase p).await (some a) w) ∧ Obeys s p ((v.enterPhase p).await (some a) w) := by
  obtain ⟨ms, hm, rfl⟩ := hd
  exact phaseReached_drove hr hc (v := (((s.setPos q).tells ms).enterPhase p)) (q := q) ⟨ms, hm, rfl⟩

/-! ## Windows and jogs (R112, R113) -/

/-- A window opened in FOLLOWING (R45, R112, R113). -/
theorem collect_reaches (hr : s.running = some j) (hc : j.cursor = some c) (ha : s.pos.act = .following) (hw : s.window = none)
    (k : WindowKind) (x : Here) :
    PhaseReached s j c p c.failedZones .window (s.collect x p k) ∧ Obeys s p (s.collect x p k) ∧
      WindowOpened s k x.head x.figures.w (s.collect x p k) ∧ (s.collect x p k).pos = s.pos ∧ (s.collect x p k).chm = s.chm := by
  obtain ⟨hreach, hobeys⟩ := phaseReached_drove (p := p) (a := .window) (w := none) hr hc (Drove.refl (s.enterPhase p))
  have e : s.collect x p k = ((s.enterPhase p).await (some .window) none).setWindow
      (some (s.newWindow k x.head x.figures.w s.jct.attempt)) := by
    unfold State.collect State.openWindow State.endWindow
    rw [show ((s.enterPhase p).await (some .window) none).window = none from hw]
    exact if_pos ha
  rw [e]
  exact ⟨⟨hreach.running, hreach.await, hreach.kept⟩, ⟨hobeys.phase, hobeys.idle⟩, ⟨ha, rfl⟩, rfl, rfl⟩

/-- A jog from FOLLOWING (R35, R113). -/
theorem jogTo_reaches (hr : s.running = some j) (hc : j.cursor = some c) (ha : s.pos.act = .following) (hu : s.Unmeasured)
    (x : Here) (offset : Int) :
    PhaseReached s j c p c.failedZones .jog (s.jogTo x p offset) ∧ Obeys s p (s.jogTo x p offset) ∧
      JogUnderWay s offset (s.jogTo x p offset) := by
  have hd := startJog_drove hu (by rw [ha]; decide) offset s.jobOwner
  have e : s.jogTo x p offset = ((s.startJog offset s.jobOwner).enterPhase p).await (some .jog) none := by
    unfold State.jogTo State.takeJog
    rw [if_pos ha]
  obtain ⟨hreach, hobeys⟩ := drove_phaseReached (p := p) (a := .jog) (w := none) hr hc hd
  rw [e]
  refine ⟨hreach, hobeys, ?_⟩
  generalize hq : s.pos.jogBegun offset s.jobOwner (s.now + s.prof.settleMs * 200000) = q at hd
  obtain ⟨hact, htgt, hoff, -, hdl, hmv, -, -⟩ := Pos.jogBegun_facts hq
  have hpos : (((s.startJog offset s.jobOwner).enterPhase p).await (some .jog) none).pos = q := hd.pos
  have hnow : (((s.startJog offset s.jobOwner).enterPhase p).await (some .jog) none).now = s.now := hd.reads.1
  unfold JogUnderWay
  rw [hpos, hnow]
  exact ⟨hact, htgt, hoff, hdl, hmv, hd.reads.2.1.trans hu.window⟩

/-! ## The period gate (R88, R89, R114) -/

theorem armGate_idle (h : s.gcu.state = .idle) (mode : GateMode) (x : Option Nat) (n : Nat) :
    s.armGate mode x n = some (s.setGcu { s.gcu with state := .armed, mode := mode, head := x, attempt := n }) := by
  unfold State.armGate
  rw [h]

theorem armGate_busy (h : s.gcu.state ≠ .idle) (mode : GateMode) (x : Option Nat) (n : Nat) : s.armGate mode x n = none := by
  unfold State.armGate
  split
  · exact absurd ‹_› h
  · rfl
  · rfl

/-- An abort order for a gate that is not IDLE (R84). -/
theorem abortGate_busy (h : s.gcu.state ≠ .idle) : ∃ g r n, s.abortGate .job = (s.setGcu g).tell (.gateEnded r n) ∧
    g.state = .idle ∧ r.ending = .aborted := by
  unfold State.abortGate
  split
  · exact absurd ‹_› h
  · exact ⟨_, _, _, rfl, rfl, rfl⟩
  · exact ⟨_, _, _, rfl, rfl, rfl⟩

/-- An arm order: the gate is armed, an older one aborted first (R79, R84, R114). -/
theorem arm_eq (mode : GateMode) (x : Option Nat) : ∃ g ms, ms.all JctMsg.idle = true ∧
    s.arm mode x = ((s.await (some .gate) none).setGcu g).tells ms ∧ g.state = .armed ∧ g.mode = mode ∧ g.head = x ∧
      g.attempt = s.jct.attempt := by
  unfold State.arm
  dsimp only
  by_cases hg : s.gcu.state = .idle
  · rw [armGate_idle (s := s.await (some .gate) none) hg]
    exact ⟨_, [], rfl, (State.tells_nil _).symm, rfl, rfl, rfl, rfl⟩
  · obtain ⟨g, r, n, e, hidle, hr⟩ := abortGate_busy (s := s.await (some .gate) none) hg
    rw [armGate_busy (s := s.await (some .gate) none) hg, e,
      armGate_idle (s := ((s.await (some .gate) none).setGcu g).tell (.gateEnded r n)) hidle]
    refine ⟨_, [.gateEnded r n], ?_, rfl, rfl, rfl, rfl, rfl⟩
    simp [JctMsg.idle, hr]

/-- PERIOD entered with the period gate armed (R88, R89). -/
theorem startPeriod_reaches (hr : s.running = some j) (hc : j.cursor = some c) :
    PhaseReached s j c .period c.failedZones .gate s.startPeriod ∧ Obeys s .period s.startPeriod ∧
      s.startPeriod.pos = s.pos ∧ s.startPeriod.jct.ctx.tally = {} ∧ s.startPeriod.gcu.state = .armed ∧
      s.startPeriod.gcu.mode = .chained ∧ s.startPeriod.gcu.head = none ∧ s.startPeriod.gcu.attempt = s.jct.attempt := by
  have hrun := running_enterPhase hr hc .period
  obtain ⟨g, ms, hm, e, hstate, hmode, hhead, hatt⟩ := arm_eq (s := (s.enterPhase .period).setCtx
    { (s.enterPhase .period).jct.ctx with tally := {}, probe := false }) .chained none
  unfold State.startPeriod
  dsimp only
  rw [e]
  refine ⟨⟨hrun, ⟨rfl, rfl⟩, rfl, rfl⟩, ⟨runningPhase_of hrun rfl, fun k => ?_⟩, rfl, rfl, hstate, hmode, hhead, hatt⟩
  show (s.inbox ++ ms).all JctMsg.idle = true
  rw [List.all_append, k, hm]
  rfl

/-! ## The zone reached (R110) -/

section
variable {x : Here}

/-- The job with no anchor-failed zone before this one. -/
theorem running_zoneReached (hr : s.running = some j) (hc : j.cursor = some c) :
    ((s.editActive fun j => j.onCursor fun c => { c with failedZones := 0 }).await none none).running =
      some { j with cursor := some { c with failedZones := 0 } } :=
  (running_onCursor hr _).trans (congrArg some (onCursor_eq hc _))

/-- The zone is reached in FOLLOWING with no measurement under way (R110, R112 to R114). -/
theorem zoneReached_reaches (hr : s.running = some j) (hj : j.At c f head zone) (ha : s.pos.act = .following)
    (hu : s.Unmeasured) (hx : x.job.kind = j.kind) (hh : x.head = head) (hf : x.figures = f) :
    ZoneReached s j c f head (s.zoneReached x) ∧ (s.zoneReached x).Ordered ∧
      (s.inbox.all JctMsg.idle = true → (s.zoneReached x).inbox.all JctMsg.idle = true) := by
  have hrun := running_zoneReached hr hj.cursor
  have hphase := (runningPhase_of hrun rfl).trans (runningPhase_of hr hj.cursor).symm
  let v := (s.editActive fun j => j.onCursor fun c => { c with failedZones := 0 }).await none none
  have hv : v.Unmeasured := ⟨hu.window, by rw [show v.runningPhase = s.runningPhase from hphase]; exact hu.skew⟩
  have e : s.zoneReached x = v.firstPhase x := rfl
  unfold State.firstPhase at e
  rw [hx] at e
  cases hk : j.kind with
  | qualify =>
    rw [hk] at e
    obtain ⟨hreach, hobeys, hopen, -⟩ := collect_reaches (p := .collect) hrun rfl ha hu.window .qualify x
    rw [hh, hf] at hopen
    rw [e]
    exact ⟨⟨fun _ => ⟨⟨hreach.running, hreach.await, hreach.kept⟩, hopen⟩, fun k => absurd (hk.symm.trans k) (by decide),
      fun k => absurd (hk.symm.trans k) (by decide), fun k => absurd (hk.symm.trans k) (by decide)⟩,
      hobeys.ordered (by decide) (by decide), hobeys.idle⟩
  | span =>
    rw [hk] at e
    unfold State.jogFirst at e
    dsimp only at e
    rw [hf] at e
    by_cases ho : s.pos.offset = f.o1
    · replace e := e.trans (if_pos ho)
      obtain ⟨hreach, hobeys, hopen, -⟩ := collect_reaches (p := .collect1) hrun rfl ha hu.window .span x
      rw [hh, hf] at hopen
      rw [e]
      exact ⟨⟨fun k => absurd (hk.symm.trans k) (by decide), fun _ k => absurd ho k,
        fun _ _ => ⟨⟨hreach.running, hreach.await, hreach.kept⟩, hopen⟩, fun k => absurd (hk.symm.trans k) (by decide)⟩,
        hobeys.ordered (by decide) (by decide), hobeys.idle⟩
    · replace e := e.trans (if_neg ho)
      obtain ⟨hreach, hobeys, hjog⟩ := jogTo_reaches (p := .jog1) hrun rfl ha hv x f.o1
      rw [e]
      exact ⟨⟨fun k => absurd (hk.symm.trans k) (by decide), fun _ _ => ⟨⟨hreach.running, hreach.await, hreach.kept⟩, hjog⟩,
        fun _ k => absurd k ho, fun k => absurd (hk.symm.trans k) (by decide)⟩,
        hobeys.ordered (by decide) (by decide), hobeys.idle⟩
  | skew =>
    rw [hk] at e
    obtain ⟨hreach, hobeys, hpos, htally, hstate, hmode, hhead, hatt⟩ := startPeriod_reaches hrun rfl
    rw [e]
    exact ⟨⟨fun k => absurd (hk.symm.trans k) (by decide), fun k => absurd (hk.symm.trans k) (by decide),
      fun k => absurd (hk.symm.trans k) (by decide), fun _ => ⟨⟨hreach.running, hreach.await, hreach.kept⟩,
        (congrArg Pos.act hpos).trans ha, htally, hstate, hmode, hhead, hatt⟩⟩,
      hobeys.ordered (by decide) (by decide), hobeys.idle⟩

/-- The zone reached: the phase that the kind gives. -/
theorem ZoneReached.phase (h : ZoneReached s j c f head t) : ∃ p a, PhaseReached s j c p 0 a t := by
  cases hk : j.kind with
  | qualify => exact ⟨_, _, (h.qualify hk).1⟩
  | span =>
    by_cases ho : s.pos.offset = f.o1
    · exact ⟨_, _, (h.span hk ho).1⟩
    · exact ⟨_, _, (h.jog hk ho).1⟩
  | skew => exact ⟨_, _, (h.skew hk).1⟩

/-! ## ZONE_SEEK (R110) -/

theorem onZone_other {track : Nat} (h : s.pos.target ≠ track) : s.onZone x track = false := by
  unfold State.onZone
  rw [beq_eq_false_iff_ne.mpr h, Bool.and_false, Bool.false_and]

/-- ZONE_SEEK to another track in FOLLOWING: the seek is started or held (R32, R33, R110). -/
theorem zoneSeek_other (ha : s.pos.act = .following) (hz : x.zone = zone) (hf : x.figures = f)
    (ht : s.pos.target ≠ s.prof.zoneTracks.getD zone 0) {r : SeekTaken × State}
    (hr : (s.enterPhase .zoneSeek).seekOrHold (s.prof.zoneTracks.getD zone 0) f.centre (.job s.jct.attempt) = r) :
    s.zoneSeek x = match r.1 with
      | .unchanged => r.2.zoneReached x
      | .moving => r.2.await (some .seek) (some .seekOutcome)
      | .held => r.2.await (some .seek) (some .heldSeek) := by
  have htake : (s.enterPhase .zoneSeek).takeSeek (s.prof.zoneTracks.getD zone 0) f.centre (.job s.jct.attempt) = .ok r := by
    unfold State.takeSeek
    rw [show (s.enterPhase .zoneSeek).pos = s.pos from rfl, ha]
    dsimp only
    rw [if_neg (Ne.symm ht), hr]
  have hon : (s.enterPhase .zoneSeek).onZone x (s.prof.zoneTracks.getD zone 0) = false :=
    onZone_other (s := s.enterPhase .zoneSeek) ht
  unfold State.zoneSeek
  dsimp only
  rw [hz, hf, show (s.enterPhase .zoneSeek).prof = s.prof from rfl, hon, if_neg (by decide),
    show (s.enterPhase .zoneSeek).jobOwner = .job s.jct.attempt from rfl, htake]
  obtain ⟨a, b⟩ := r
  cases a <;> rfl

/-- In ZONE_SEEK no measurement is under way. -/
theorem unmeasured_zoneSeek (hr : s.running = some j) (hc : j.cursor = some c) (hw : s.window = none) :
    (s.enterPhase .zoneSeek).Unmeasured :=
  ⟨hw, by rw [runningPhase_of (running_enterPhase hr hc .zoneSeek) rfl]; exact fun k => nomatch k⟩

/-- A seek to another track in FOLLOWING that may start (R32, R110). -/
theorem zoneSeek_starts (hr : s.running = some j) (hj : j.At c f head zone) (ha : s.pos.act = .following) (hw : s.window = none)
    (hz : x.zone = zone) (hf : x.figures = f) (ht : s.pos.target ≠ s.prof.zoneTracks.getD zone 0)
    (hm : s.chm.maySeek s.prof = true) :
    PhaseReached s j c .zoneSeek c.failedZones .seek (s.zoneSeek x) ∧ Obeys s .zoneSeek (s.zoneSeek x) ∧
      (s.zoneSeek x).jct.ctx.waits = some .seekOutcome ∧ (s.zoneSeek x).now = s.now ∧
      (s.zoneSeek x).pos = (s.pos.heldDone .replaced).seekBegun (s.prof.zoneTracks.getD zone 0) f.centre (.job s.jct.attempt)
        (s.now + s.prof.seekMs * 200000) := by
  have hd : Drove (s.enterPhase .zoneSeek) _ ((s.enterPhase .zoneSeek).discardHeld .replaced) :=
    discardHeld_drove (by decide) (by decide)
  have hk := startSeek_drove (hd.unmeasured (unmeasured_zoneSeek hr hj.cursor hw))
    (by rw [hd.pos]; show s.pos.act ≠ _; rw [ha]; decide) (s.prof.zoneTracks.getD zone 0) f.centre (.job s.jct.attempt)
  obtain ⟨hnow, -, -, -, hchm, hprof, -⟩ := hd.reads
  rw [hd.pos, hnow, hprof] at hk
  have hall := hd.trans hk
  have he : s.zoneSeek x = _ := zoneSeek_other ha hz hf ht (r := (.moving, _)) (by
    unfold State.seekOrHold
    dsimp only
    rw [hchm, hprof]
    exact if_pos hm)
  obtain ⟨hreach, hobeys⟩ := phaseReached_drove (a := .seek) (w := some .seekOutcome) hr hj.cursor hall
  rw [he]
  exact ⟨hreach, hobeys, rfl, hall.reads.1, hall.pos⟩

/-- A seek to another track in FOLLOWING that is held (R33, R110, R150). -/
theorem zoneSeek_holds (hr : s.running = some j) (hj : j.At c f head zone) (ha : s.pos.act = .following)
    (hz : x.zone = zone) (hf : x.figures = f) (ht : s.pos.target ≠ s.prof.zoneTracks.getD zone 0)
    (hm : s.chm.maySeek s.prof = false) :
    PhaseReached s j c .zoneSeek c.failedZones .seek (s.zoneSeek x) ∧ Obeys s .zoneSeek (s.zoneSeek x) ∧
      (s.zoneSeek x).jct.ctx.waits = some .heldSeek ∧
      (s.zoneSeek x).pos = { s.pos.heldDone .replaced with
        held := some { track := s.prof.zoneTracks.getD zone 0, offset := f.centre, owner := .job s.jct.attempt } } := by
  have hd : Drove (s.enterPhase .zoneSeek) _ ((s.enterPhase .zoneSeek).discardHeld .replaced) :=
    discardHeld_drove (by decide) (by decide)
  obtain ⟨-, -, -, -, hchm, hprof, -⟩ := hd.reads
  have hall := hd.setPos { s.pos.heldDone .replaced with
    held := some { track := s.prof.zoneTracks.getD zone 0, offset := f.centre, owner := .job s.jct.attempt } }
  have he : s.zoneSeek x = _ := zoneSeek_other ha hz hf ht (r := (.held, _)) (by
    unfold State.seekOrHold
    dsimp only
    rw [hchm, hprof, if_neg (by rw [show (s.enterPhase .zoneSeek).chm = s.chm from rfl,
      show (s.enterPhase .zoneSeek).prof = s.prof from rfl, hm]; decide), hd.pos])
  obtain ⟨hreach, hobeys⟩ := phaseReached_drove (a := .seek) (w := some .heldSeek) hr hj.cursor hall
  rw [he]
  exact ⟨hreach, hobeys, rfl, hall.pos⟩

/-- A zone seek on the track held, to another offset, is a jog (R32, R110). -/
theorem zoneSeek_jogs (hr : s.running = some j) (hj : j.At c f head zone) (ha : s.pos.act = .following) (hw : s.window = none)
    (hz : x.zone = zone) (hf : x.figures = f) (ht : s.pos.target = s.prof.zoneTracks.getD zone 0)
    (ho : s.pos.offset ≠ f.centre) (hon : s.onZone x (s.prof.zoneTracks.getD zone 0) = false) :
    PhaseReached s j c .zoneSeek c.failedZones .seek (s.zoneSeek x) ∧ Obeys s .zoneSeek (s.zoneSeek x) ∧
      (s.zoneSeek x).jct.ctx.waits = some .seekOutcome := by
  have hd : Drove (s.enterPhase .zoneSeek) _ ((s.enterPhase .zoneSeek).discardHeld .replaced) :=
    discardHeld_drove (by decide) (by decide)
  have hk := startJog_drove (hd.unmeasured (unmeasured_zoneSeek hr hj.cursor hw))
    (by rw [hd.pos]; show s.pos.act ≠ _; rw [ha]; decide) f.centre (.job s.jct.attempt)
  obtain ⟨hreach, hobeys⟩ := phaseReached_drove (a := .seek) (w := some .seekOutcome) hr hj.cursor (hd.trans hk)
  have htake : (s.enterPhase .zoneSeek).takeSeek (s.prof.zoneTracks.getD zone 0) f.centre (.job s.jct.attempt) =
      .ok (.moving, ((s.enterPhase .zoneSeek).discardHeld .replaced).startJog f.centre (.job s.jct.attempt)) := by
    unfold State.takeSeek
    rw [show (s.enterPhase .zoneSeek).pos = s.pos from rfl, ha]
    dsimp only
    rw [if_pos ht.symm, if_neg (Ne.symm ho)]
  have he : s.zoneSeek x = (((s.enterPhase .zoneSeek).discardHeld .replaced).startJog f.centre (.job s.jct.attempt)).await
      (some .seek) (some .seekOutcome) := by
    unfold State.zoneSeek
    dsimp only
    rw [hz, hf, show (s.enterPhase .zoneSeek).prof = s.prof from rfl,
      show (s.enterPhase .zoneSeek).onZone x _ = false from hon, if_neg (by decide),
      show (s.enterPhase .zoneSeek).jobOwner = .job s.jct.attempt from rfl, htake]
  rw [he]
  exact ⟨hreach, hobeys, rfl⟩

/-- ZONE_SEEK from FOLLOWING gives the job its order in the same attempt (R110). -/
theorem zoneSeek_reaches (hr : s.running = some j) (hj : j.At c f head zone) (ha : s.pos.act = .following) (hw : s.window = none)
    (hx : x.job.kind = j.kind) (hh : x.head = head) (hz : x.zone = zone) (hf : x.figures = f) :
    (∃ p n a, PhaseReached s j c p n a (s.zoneSeek x)) ∧ (s.zoneSeek x).Ordered ∧
      (s.inbox.all JctMsg.idle = true → (s.zoneSeek x).inbox.all JctMsg.idle = true) := by
  by_cases ht : s.pos.target = s.prof.zoneTracks.getD zone 0
  · cases hon : s.onZone x (s.prof.zoneTracks.getD zone 0) with
    | true =>
      have he : s.zoneSeek x = (s.enterPhase .zoneSeek).zoneReached x := by
        unfold State.zoneSeek
        dsimp only
        rw [hz]
        exact if_pos hon
      have hrun := running_enterPhase hr hj.cursor .zoneSeek
      obtain ⟨hreached, hord, hidle⟩ := zoneReached_reaches (zone := zone) hrun ⟨rfl, hj.figures, hj.head, hj.zone⟩ ha
        (unmeasured_zoneSeek hr hj.cursor hw) hx hh hf
      obtain ⟨p, a, hp⟩ := hreached.phase
      rw [he]
      exact ⟨⟨p, 0, a, hp.running, hp.await, hp.kept⟩, hord, hidle⟩
    | false =>
      have ho : s.pos.offset ≠ f.centre := fun k => by
        unfold State.onZone at hon
        rw [ha, hf, ht, k] at hon
        simp at hon
      obtain ⟨hreach, hobeys, hwaits⟩ := zoneSeek_jogs hr hj ha hw hz hf ht ho hon
      exact ⟨⟨_, _, _, hreach⟩, hobeys.ordered_zoneSeek (fun k => by rw [hwaits] at k; cases k), hobeys.idle⟩
  · cases hm : s.chm.maySeek s.prof with
    | true =>
      obtain ⟨hreach, hobeys, hwaits, -⟩ := zoneSeek_starts hr hj ha hw hz hf ht hm
      exact ⟨⟨_, _, _, hreach⟩, hobeys.ordered_zoneSeek (fun k => by rw [hwaits] at k; cases k), hobeys.idle⟩
    | false =>
      obtain ⟨hreach, hobeys, -, hpos⟩ := zoneSeek_holds hr hj ha hz hf ht hm
      exact ⟨⟨_, _, _, hreach⟩, hobeys.ordered_zoneSeek (fun _ => by rw [hpos]; simp), hobeys.idle⟩

end

end Sys2Proof.Machine
end

section
/-! PROOF. Records of the anchor that end a RUNNING job's move (R30, R36, R110, R113). -/

namespace Sys2Proof.Machine

variable {s t u : State} {j : Job} {c : Cursor} {f : Figures} {head zone n : Nat} {a : Await} {m : Mark} {r : SectorRecord}

/-! ## A slot of the anchor -/

/-- A slot outside a window and a gate does what the Positioner does with its record (R11). -/
theorem AnchorSlot.deliver (h : AnchorSlot s) (hp : s.runningPhase ≠ some .gateP)
    (hy : ((s.atTick n).endSlot r n).servoRecord r = t) (hw : t.window = none) (hg : t.gcu = s.gcu) :
    (s.atTick n).deliver r n = t := by
  have hs : (s.atTick n).awaitsSwitch = false := by
    unfold State.awaitsSwitch
    rw [show (s.atTick n).runningPhase = s.runningPhase from rfl, beq_eq_false_iff_ne.mpr hp]
    rfl
  have hwin : (((s.atTick n).endSlot r n).servoRecord r).windowRecord r = t := by
    unfold State.windowRecord
    rw [hy, hw]
  unfold State.deliver
  dsimp only
  rw [hwin, gateRecord_of_idle (s := t) (by rw [hg]; exact h.gate),
    if_neg (fun k => by rw [hs] at k; exact absurd k.1 (by decide))]

/-- A slot with a GOOD mark: the Positioner takes its record once the clock and the decoder have moved. -/
theorem AnchorSlot.goodSlot {sector : BitVec 10} {code : BitVec 18} {e o : BitVec 12} (h : AnchorSlot s)
    (hp : s.runningPhase ≠ some .gateP) (hg : GoodMark s sector code e o m) (ticks : Nat) :
    ∃ x r, AnchorGood ((s.atTick (s.pos.indexRef.getD s.now + ticks)).setSdc x) m r ∧
      ∀ t, ((s.atTick (s.pos.indexRef.getD s.now + ticks)).setSdc x).servoRecord r = t → t.window = none → t.gcu = s.gcu →
        exec (.slotEndMark sector code e o ticks) s = .next t.finish := by
  have hr := anchorGood_of h.head h.marker hg (s.pos.indexRef.getD s.now + ticks)
  generalize hf : formRecord (s.atTick (s.pos.indexRef.getD s.now + ticks)) (markOf s.prof.sectors sector code e o) = r at hr
  refine ⟨((s.atTick (s.pos.indexRef.getD s.now + ticks)).endSlot r (s.pos.indexRef.getD s.now + ticks)).sdc,
    r, ⟨hr.head, hr.mark, hr.cls, hr.pes⟩, fun t ht hw hgate => ?_⟩
  rw [← h.deliver hp ht hw hgate]
  show arrival (s.endWithMark sector code e o (s.afterIndex ticks)) = _
  unfold State.endWithMark
  obtain ⟨d, hd⟩ := Option.isSome_iff_exists.mp h.slot
  rw [hd, ← hf]
  rfl

/-- A slot that ends with a miss. -/
theorem AnchorSlot.missSlot (h : AnchorSlot s) (hp : s.runningPhase ≠ some .gateP) :
    ∃ d x r, r.head = s.prof.anchor ∧ r.cls = .miss ∧
      ∀ t, ((s.atTick d).setSdc x).servoRecord r = t → t.window = none → t.gcu = s.gcu →
        exec .slotEndMiss s = .next t.finish := by
  obtain ⟨d, hd⟩ := Option.isSome_iff_exists.mp h.slot
  refine ⟨d, ((s.atTick d).endSlot (formRecord (s.atTick d) none) d).sdc, formRecord (s.atTick d) none, h.head,
     formRecord_miss (s := s.atTick d) h.marker, fun t ht hw hgate => ?_⟩
  rw [← h.deliver hp ht hw hgate]
  show arrival s.endWithMiss = _
  unfold State.endWithMiss
  rw [hd]
  rfl

/-! ## A job's move ended by a record -/

/-- With a job RUNNING the arrival at FOLLOWING tests no rest condition (R160). -/
theorem restTest_running (h : s.running.isSome = true) : s.restTest = s := restTest_of_not (.inr (.inr (.inr h)))

/-- Two reports with a change of the Positioner between them. -/
theorem tell_setPos_tell (p q : Pos) (x y : JctMsg) :
    (((s.setPos p).tell x).setPos q).tell y = (s.setPos q).tells [x, y] := by
  rw [show [x, y] = [x] ++ [y] from rfl, ← State.tells_tells]
  rfl

/-- A job's move ends and the actuator comes to another state, outside a measurement (R25, R108). -/
theorem endActMove_setAct {k : MoveKind} (hu : s.Unmeasured) (hp : s.pos.act ≠ .parked)
    (hm : s.pos.actMove = some { kind := k, owner := .job n }) (o : MoveOutcome) (a : ActState) (d : Option ActDeadline) :
    (s.endActMove o).setAct a d = (s.setPos ((s.pos.moveDone o).arrived a d)).tells [.moveEnded k o n, .posChanged] := by
  have hend := endActMove_job hm o
  rw [setAct_unmeasured (s := s.endActMove o) (by rw [hend]; exact ⟨hu.window, hu.skew⟩) (by rw [hend]; exact hp) a d, hend]
  exact tell_setPos_tell _ _ _ _

/-- The end of a job's load (R30). -/
theorem acquired_job (hr : s.running.isSome = true) (hu : s.Unmeasured) (hp : s.pos.act ≠ .parked)
    (hm : s.pos.actMove = some { kind := .load, owner := .job n }) (track : Nat) :
    s.acquired track = (s.setPos (s.pos.acquired track)).tells [.moveEnded .load .loaded n, .posChanged] := by
  unfold State.acquired State.arriveFollowing
  dsimp only
  rw [endActMove_setAct (s := s.setPos { s.pos with target := track, offset := 0 }) ⟨hu.window, hu.skew⟩ hp hm]
  exact restTest_running hr

/-- The end of a job's zone seek (R36). -/
theorem settled_seek (hr : s.running.isSome = true) (hu : s.Unmeasured) (hp : s.pos.act ≠ .parked)
    (hm : s.pos.actMove = some { kind := .seek, owner := .job n }) :
    s.settled = (s.setPos ((s.pos.moveDone .settled).arrived .following none)).tells
      [.moveEnded .seek .settled n, .posChanged] := by
  unfold State.settled
  dsimp only
  rw [endActMove_setAct hu hp hm, hm]
  exact restTest_running hr

/-- A jog that brings no change of level out of COOL (R146, R149). -/
theorem jogCost_cool (hl : s.chm.level = .cool) (hh : s.chm.heat + s.prof.jogCost < min s.prof.warmOn s.prof.hotOn) :
    s.jogCost = s.addHeat s.prof.jogCost := by
  have hheat : satAdd 65535 s.chm.heat s.prof.jogCost ≤ s.chm.heat + s.prof.jogCost := Nat.min_le_right _ _
  have hnext : nextLevel s.prof s.chm.level (satAdd 65535 s.chm.heat s.prof.jogCost) = s.chm.level := by
    rw [hl]
    unfold nextLevel
    dsimp only
    rw [if_neg (by omega), if_neg (by omega)]
  unfold State.jogCost State.recompute State.changeLevel
  exact if_pos hnext

/-- The end of a job's jog that brings no change of level (R36, R149). -/
theorem settled_jog (hr : s.running.isSome = true) (hu : s.Unmeasured) (hp : s.pos.act ≠ .parked)
    (hm : s.pos.actMove = some { kind := .jog, owner := .job n }) (hl : s.chm.level = .cool)
    (hh : s.chm.heat + s.prof.jogCost < min s.prof.warmOn s.prof.hotOn) :
    s.settled = ((s.setPos ((s.pos.moveDone .settled).arrived .following none)).tells
      [.moveEnded .jog .settled n, .posChanged]).addHeat s.prof.jogCost := by
  have hcost := jogCost_cool (s := (s.setPos ((s.pos.moveDone .settled).arrived .following none)).tells
      [.moveEnded .jog .settled n, .posChanged]) hl hh
  unfold State.settled
  dsimp only
  rw [endActMove_setAct hu hp hm, hm]
  exact (congrArg State.restTest hcost).trans (restTest_running hr)

/-! ## The job's answer -/

/-- The head-zone under way, as the Job Controller sees it. -/
theorem MeasureUnderWay.at {p : Phase} (h : MeasureUnderWay s j c f head zone p) : j.At c f head zone :=
  ⟨h.cursor, h.figures, h.atHead, h.atZone⟩

theorem MeasureUnderWay.runningPhase {p : Phase} (h : MeasureUnderWay s j c f head zone p) : s.runningPhase = some p := by
  rw [runningPhase_of h.running h.cursor, h.phase]

theorem MeasureUnderWay.unmeasured {p : Phase} (h : MeasureUnderWay s j c f head zone p) (hw : s.window = none)
    (hp : p.isSkew = false) : s.Unmeasured :=
  ⟨hw, by rw [h.runningPhase, Option.map_some, hp]; decide⟩

theorem answers_of (hr : s.running = some j) (ha : s.jct.ctx.await = some a) (b : Await) :
    s.answers b s.jct.attempt = (a == b) := by
  unfold State.answers
  rw [hr, ha]
  simp

/-- A load that the job awaits has ended LOADED: PREPARE goes on (R109). -/
theorem takeMove_loaded (hr : s.running = some j) (hj : j.At c f head zone) (ha : s.jct.ctx.await = some .load) :
    s.takeMove .load .loaded s.jct.attempt = (s.await none none).goOn .prepare := by
  unfold State.takeMove
  rw [here_of hr hj]
  dsimp only
  rw [answers_of hr ha]
  rfl

/-- The zone seek has SETTLED: the zone is reached (R110). -/
theorem takeMove_seekSettled (hr : s.running = some j) (hj : j.At c f head zone) (ha : s.jct.ctx.await = some .seek) :
    s.takeMove .seek .settled s.jct.attempt =
      s.zoneReached { job := j, cursor := c, figures := f, head := head, zone := zone } := by
  unfold State.takeMove
  rw [here_of hr hj]
  dsimp only
  rw [answers_of hr ha]
  rfl

/-- A jog has SETTLED: its window is opened (R113). -/
theorem takeMove_jogSettled (hr : s.running = some j) (hj : j.At c f head zone) (ha : s.jct.ctx.await = some .jog) :
    s.takeMove .jog .settled s.jct.attempt =
      s.collect { job := j, cursor := c, figures := f, head := head, zone := zone }
        (if c.phase = .jog1 then .collect1 else .collect2) .span := by
  unfold State.takeMove
  rw [here_of hr hj]
  dsimp only
  rw [answers_of hr ha, answers_of hr ha]
  rfl

/-- PREPARE with the spindle AT_SPEED goes on with the actuator (R108). -/
theorem prepare_atSpeed (hr : s.running = some j) (hj : j.At c f head zone) (hp : c.phase = .prepare)
    (hs : s.pos.spindle = .atSpeed ∧ s.pos.spinDownPending = false) :
    s.prepare = s.prepareActuator { job := j, cursor := c, figures := f, head := head, zone := zone } := by
  unfold State.prepare
  rw [here_of hr hj]
  dsimp only
  rw [if_pos hp, hs.1]
  dsimp only
  rw [if_neg (by rw [hs.2]; decide)]

theorem prepare_following (hr : s.running = some j) (hj : j.At c f head zone) (hp : c.phase = .prepare)
    (hs : s.pos.spindle = .atSpeed ∧ s.pos.spinDownPending = false) (ha : s.pos.act = .following) :
    s.prepare = s.zoneSeek { job := j, cursor := c, figures := f, head := head, zone := zone } := by
  rw [prepare_atSpeed hr hj hp hs]
  unfold State.prepareActuator
  rw [ha]

end Sys2Proof.Machine
end

section
/-! PROOF. A RUNNING job's load, zone seek and jogs ended by a record of the anchor (R109, R110, R113). -/

namespace Sys2Proof.Machine

variable {s t u : State} {j : Job} {c : Cursor} {f : Figures} {head zone n track : Nat} {m : Mark}
  {sector : BitVec 10} {code : BitVec 18} {e o : BitVec 12} {ticks : Nat}

/-- What the transmitter's start leaves a job's phase at. -/
theorem PhaseReached.sent {p : Phase} {a : Await} (h : PhaseReached s j c p n a t) (x : Option Sending) (w : List Waiting) :
    PhaseReached s j c p n a ((t.setInbox []).setBlk { t.blk with sending := x, waiting := w }) := ⟨h.running, h.await, h.kept⟩

/-! ## The end of the job's load (R109, R110) -/

/-- The Positioner at the end of an acquisition. -/
theorem Pos.acquired_facts {p q : Pos} {e : Int} {track : Nat} (h : (p.driven e).acquired track = q) :
    q.act = .following ∧ q.target = track ∧ q.offset = 0 ∧ q.held = p.held ∧ q.spindle = p.spindle ∧
      q.spinDownPending = p.spinDownPending := by
  subst h
  exact ⟨rfl, rfl, rfl, rfl, rfl, rfl⟩

/-- `v` is `s` where the job's load has ended on `track` and ZONE_SEEK is next. -/
structure LoadEnded (s : State) (track : Nat) (v : State) : Prop where
  act : v.pos.act = .following
  target : v.pos.target = track
  offset : v.pos.offset = 0
  held : v.pos.held = s.pos.held
  table : v.jct.table = s.jct.table
  attempt : v.jct.attempt = s.jct.attempt
  finished : v.jct.finished = s.jct.finished
  map : v.hmp = s.hmp
  heat : v.chm = s.chm
  prof : v.prof = s.prof
  window : v.window = none
  inbox : v.inbox = [.posChanged]

theorem LoadEnded.running {v : State} (h : LoadEnded s track v) : v.running = s.running := by
  unfold State.running State.active
  rw [h.table]

/-- What is reached from there is reached from `s`. -/
theorem LoadEnded.reaches {v : State} {p : Phase} {a : Await} (h : LoadEnded s track v) (k : PhaseReached v j c p n a t) :
    PhaseReached s j c p n a t :=
  ⟨k.running, ⟨k.await.1, k.await.2.trans h.attempt⟩, k.kept.1.trans h.map,
    k.kept.2.trans h.finished⟩

/-- The record that ends the job's load brings it to ZONE_SEEK, from FOLLOWING the record's track. -/
theorem loadEnd_zoneSeek (h : MeasureUnderWay s j c f head zone .prepare) (hs : AnchorSlot s) (hg : GoodMark s sector code e o m)
    (ha : s.pos.act = .acquiring) (hc : s.prof.acqCount ≤ s.pos.acqRun + 1) (haw : s.jct.ctx.await = some .load)
    (hm : s.pos.actMove = some { kind := .load, owner := .job s.jct.attempt }) :
    ∃ v, LoadEnded s m.track v ∧ ∀ u, v.zoneSeek ⟨j, c, f, head, zone⟩ = u →
      u.Ordered → u.inbox.all JctMsg.idle = true → ∃ x w, exec (.slotEndMark sector code e o ticks) s =
        .next ((u.setInbox []).setBlk { u.blk with sending := x, waiting := w }) := by
  obtain ⟨d, r, hr, hexec⟩ := hs.goodSlot (by rw [h.runningPhase]; decide) hg ticks
  generalize s.pos.indexRef.getD s.now + ticks = N at hr hexec
  let v0 := (s.atTick N).setSdc d
  let v1 := v0.setPos (v0.pos.driven (pesOf m))
  have hrec : v0.servoRecord r = v1.acquired m.track := by
    rw [servoRecord_acquiring (s := v0) hr.head ha (by rw [hr.cls]; decide), acquireRecord_good hr]
    exact if_pos hc
  have hrun : v1.running = some j := h.running
  rw [acquired_job (s := v1) (by rw [hrun]; rfl)
    ⟨hs.window, (h.unmeasured hs.window rfl).skew⟩ (by show s.pos.act ≠ _; rw [ha]; decide) hm] at hrec
  generalize hq : v1.pos.acquired m.track = q at hrec
  obtain ⟨hact, htgt, hoff, hheld, hspin, hpend⟩ := Pos.acquired_facts hq
  let y := (v1.setPos q).tells [.moveEnded .load .loaded s.jct.attempt, .posChanged]
  let v := ((y.setInbox [.posChanged]).await none none)
  refine ⟨v, ⟨hact, htgt, hoff, hheld, rfl, rfl, rfl, rfl, rfl, rfl, hs.window, rfl⟩, fun u hu ho hm => ?_⟩
  rw [hexec y hrec hs.window rfl]
  obtain ⟨x, w, hf⟩ := finish_prepared (s := y) (m := .moveEnded .load .loaded s.jct.attempt) (ms := [.posChanged])
    (ks := [.posChanged]) (by show s.inbox ++ _ = _; rw [h.inbox]; rfl) (takeMove_loaded (s := y.setInbox _) hrun h.at haw)
    rfl ((prepare_following (s := v) hrun h.at h.phase ⟨hspin.trans h.spindle.1, hpend.trans h.spindle.2⟩ hact).trans hu) ho hm
  exact ⟨x, w, by rw [hf]⟩

/-- A load that ends on another track than the zone's: the zone seek begins (R32, R110). -/
theorem loadEnd_seeks (h : MeasureUnderWay s j c f head zone .prepare) (hs : AnchorSlot s) (hg : GoodMark s sector code e o m)
    (ha : s.pos.act = .acquiring) (hc : s.prof.acqCount ≤ s.pos.acqRun + 1) (haw : s.jct.ctx.await = some .load)
    (hm : s.pos.actMove = some { kind := .load, owner := .job s.jct.attempt })
    (ht : m.track ≠ s.prof.zoneTracks.getD zone 0) (hmay : s.chm.maySeek s.prof = true) :
    ∃ t, exec (.slotEndMark sector code e o ticks) s = .next t ∧
      PhaseReached s j c .zoneSeek c.failedZones .seek t ∧ t.jct.ctx.waits = some .seekOutcome ∧
      t.pos.act = .seeking ∧ t.pos.target = s.prof.zoneTracks.getD zone 0 ∧ t.pos.offset = f.centre ∧
      t.pos.actMove = some { kind := .seek, owner := .job s.jct.attempt } ∧
      t.pos.deadline = some { kind := .seek, due := t.now + s.prof.seekMs * 200000 } := by
  obtain ⟨v, hv, hout⟩ := loadEnd_zoneSeek (ticks := ticks) h hs hg ha hc haw hm
  obtain ⟨hreach, hobeys, hwaits, hnow, hpos⟩ := zoneSeek_starts (x := ⟨j, c, f, head, zone⟩)
    (hv.running.trans h.running) h.at hv.act hv.window rfl rfl (by rw [hv.target, hv.prof]; exact ht)
    (by rw [hv.heat, hv.prof]; exact hmay)
  rw [hv.prof, hv.attempt] at hpos
  generalize hz : v.zoneSeek ⟨j, c, f, head, zone⟩ = u at hreach hobeys hwaits hnow hpos
  obtain ⟨x, w, hexec⟩ := hout u hz (hobeys.ordered_zoneSeek fun k => by rw [hwaits] at k; cases k)
    (hobeys.idle (by rw [hv.inbox]; rfl))
  obtain ⟨hact, htgt, hoff, -, hdl, hmv, -⟩ := Pos.seekBegun_facts hpos.symm
  exact ⟨_, hexec, (hv.reaches hreach).sent x w, hwaits, hact, htgt, hoff, hmv, by rw [← hnow] at hdl; exact hdl⟩

/-- A load that ends on another track than the zone's, in WARM and too soon: the zone seek is held (R33, R110, R150). -/
theorem loadEnd_holds (h : MeasureUnderWay s j c f head zone .prepare) (hs : AnchorSlot s) (hg : GoodMark s sector code e o m)
    (ha : s.pos.act = .acquiring) (hc : s.prof.acqCount ≤ s.pos.acqRun + 1) (haw : s.jct.ctx.await = some .load)
    (hm : s.pos.actMove = some { kind := .load, owner := .job s.jct.attempt }) (hh : s.pos.held = none)
    (ht : m.track ≠ s.prof.zoneTracks.getD zone 0) (hmay : s.chm.maySeek s.prof = false) :
    ∃ t, exec (.slotEndMark sector code e o ticks) s = .next t ∧
      PhaseReached s j c .zoneSeek c.failedZones .seek t ∧ t.jct.ctx.waits = some .heldSeek ∧
      t.pos.act = .following ∧ t.pos.target = m.track ∧ t.pos.offset = 0 ∧
      t.pos.held = some { track := s.prof.zoneTracks.getD zone 0, offset := f.centre, owner := .job s.jct.attempt } := by
  obtain ⟨v, hv, hout⟩ := loadEnd_zoneSeek (ticks := ticks) h hs hg ha hc haw hm
  obtain ⟨hreach, hobeys, hwaits, hpos⟩ := zoneSeek_holds (x := ⟨j, c, f, head, zone⟩)
    (hv.running.trans h.running) h.at hv.act rfl rfl (by rw [hv.target, hv.prof]; exact ht)
    (by rw [hv.heat, hv.prof]; exact hmay)
  rw [hv.prof, hv.attempt,
    Pos.heldDone_of_none (hv.held.trans hh)] at hpos
  generalize hz : v.zoneSeek ⟨j, c, f, head, zone⟩ = u at hreach hobeys hwaits hpos
  obtain ⟨x, w, hexec⟩ := hout u hz (hobeys.ordered_zoneSeek fun _ => by rw [hpos]; simp) (hobeys.idle (by rw [hv.inbox]; rfl))
  exact ⟨_, hexec, (hv.reaches hreach).sent x w, hwaits, (congrArg Pos.act hpos).trans hv.act,
    (congrArg Pos.target hpos).trans hv.target, (congrArg Pos.offset hpos).trans hv.offset, congrArg Pos.held hpos⟩

/-! ## The job's zone seek and jogs SETTLED (R110, R113) -/

/-- The Positioner at the end of settling. -/
theorem Pos.settled_facts {p q : Pos} {e : Int} (h : ((p.tracked e).moveDone .settled).arrived .following none = q) :
    q.act = .following ∧ q.target = p.target ∧ q.offset = p.offset := by
  subst h
  exact ⟨rfl, rfl, rfl⟩

/-- The record that ends settling within tolerance. -/
theorem settlingRecord_ends {r : SectorRecord} (hr : AnchorGood s m r) (ha : s.pos.act = .settling)
    (ht : (anchorError s m (pesOf m)).natAbs ≤ s.prof.settleTol) (hc : s.prof.settleCount ≤ s.pos.settleRun + 1) :
    s.servoRecord r = (s.setPos (s.pos.tracked (anchorError s m (pesOf m)))).settled := by
  rw [servoRecord_settling hr.head ha (by rw [hr.cls]; decide), settlingRecord_good hr, if_pos ht, if_pos hc]

/-- What the zone reached from a state with the job's own state, map, target and offset of `s` is from `s`. -/
theorem ZoneReached.sent {v : State} (h : ZoneReached v j c f head t) (hj : v.jct = s.jct) (hm : v.hmp = s.hmp)
    (hp : v.prof = s.prof) (ht : v.pos.target = s.pos.target) (ho : v.pos.offset = s.pos.offset) (x : Option Sending)
    (w : List Waiting) : ZoneReached s j c f head ((t.setInbox []).setBlk { t.blk with sending := x, waiting := w }) := by
  have hreach : ∀ {p : Phase} {a : Await}, PhaseReached v j c p 0 a t →
      PhaseReached s j c p 0 a ((t.setInbox []).setBlk { t.blk with sending := x, waiting := w }) := fun k =>
    ⟨k.running, ⟨k.await.1, k.await.2.trans (congrArg Jct.attempt hj)⟩, k.kept.1.trans hm,
      k.kept.2.trans (congrArg Jct.finished hj)⟩
  have hopen : ∀ {k : WindowKind}, WindowOpened v k head f.w t →
      WindowOpened s k head f.w ((t.setInbox []).setBlk { t.blk with sending := x, waiting := w }) := fun {k} ⟨hact, hwin⟩ => by
    rw [hp, hj] at hwin
    exact ⟨hact, hwin⟩
  have hatt : v.jct.attempt = s.jct.attempt := congrArg Jct.attempt hj
  refine ⟨fun k => (h.qualify k).imp hreach hopen, fun k l => ?_, fun k l => (h.span k (ho.trans l)).imp hreach hopen,
    fun k => ?_⟩
  · obtain ⟨hp', hact, htgt, hoff, hdl, hmv, hwin⟩ := h.jog k (by rw [ho]; exact l)
    rw [hp] at hdl
    rw [hatt] at hmv
    exact ⟨hreach hp', hact, htgt.trans ht, hoff, hdl, hmv, hwin⟩
  · obtain ⟨hp', hact, htally, hstate, hmode, hhead, ha⟩ := h.skew k
    exact ⟨hreach hp', hact, htally, hstate, hmode, hhead, ha.trans hatt⟩

/-- The record that ends the settling of the zone seek: the zone is reached (R36, R110). -/
theorem seekEnd_reaches (hs : AnchorSlot s) (hg : GoodMark s sector code e o m) (ha : s.pos.act = .settling)
    (ht : (((m.track : Int) - s.pos.target) * 16384 + pesOf m - s.pos.offset).natAbs ≤ s.prof.settleTol)
    (hc : s.prof.settleCount ≤ s.pos.settleRun + 1) (h : MeasureUnderWay s j c f head zone .zoneSeek)
    (haw : s.jct.ctx.await = some .seek) (hm : s.pos.actMove = some { kind := .seek, owner := .job s.jct.attempt }) :
    ∃ t, exec (.slotEndMark sector code e o ticks) s = .next t ∧ ZoneReached s j c f head t := by
  obtain ⟨d, r, hr, hexec⟩ := hs.goodSlot (by rw [h.runningPhase]; decide) hg ticks
  generalize s.pos.indexRef.getD s.now + ticks = N at hr hexec
  let v0 := (s.atTick N).setSdc d
  let v1 := v0.setPos (v0.pos.tracked (anchorError v0 m (pesOf m)))
  have hrun : v1.running = some j := h.running
  have hu : v1.Unmeasured := ⟨hs.window, (h.unmeasured hs.window rfl).skew⟩
  have hrec : v0.servoRecord r = v1.settled := settlingRecord_ends hr ha ht hc
  rw [settled_seek (s := v1) (by rw [hrun]; rfl) hu (by show s.pos.act ≠ _; rw [ha]; decide) hm] at hrec
  generalize hq : (v1.pos.moveDone .settled).arrived .following none = q at hrec
  obtain ⟨hact, htgt, hoff⟩ := Pos.settled_facts hq
  let y := (v1.setPos q).tells [.moveEnded .seek .settled s.jct.attempt, .posChanged]
  let v := y.setInbox [.posChanged]
  obtain ⟨hreached, hord, hidle⟩ := zoneReached_reaches (s := v) (x := ⟨j, c, f, head, zone⟩) hrun h.at hact
    ⟨hs.window, hu.skew⟩ rfl rfl rfl
  generalize hz : v.zoneReached ⟨j, c, f, head, zone⟩ = u at hreached hord hidle
  obtain ⟨x, w, hf⟩ := finish_ordered (s := y) (m := .moveEnded .seek .settled s.jct.attempt) (ms := [.posChanged])
    (by show s.inbox ++ _ = _; rw [h.inbox]; rfl) ((takeMove_seekSettled (s := v) hrun h.at haw).trans hz) hord (hidle rfl)
  exact ⟨_, hexec y hrec hs.window rfl, by rw [hf]; exact hreached.sent (s := s) rfl rfl rfl htgt hoff x w⟩

/-- The record that ends the settling of a jog: its window is opened (R36, R113, R149). -/
theorem jogEnd_collects (hs : AnchorSlot s) (hg : GoodMark s sector code e o m) (ha : s.pos.act = .settling)
    (ht : (((m.track : Int) - s.pos.target) * 16384 + pesOf m - s.pos.offset).natAbs ≤ s.prof.settleTol)
    (hc : s.prof.settleCount ≤ s.pos.settleRun + 1) (hph : c.phase = .jog1 ∨ c.phase = .jog2)
    (h : MeasureUnderWay s j c f head zone c.phase) (haw : s.jct.ctx.await = some .jog)
    (hm : s.pos.actMove = some { kind := .jog, owner := .job s.jct.attempt }) (hl : s.chm.level = .cool)
    (hh : s.chm.heat + s.prof.jogCost < min s.prof.warmOn s.prof.hotOn) :
    ∃ t, exec (.slotEndMark sector code e o ticks) s = .next t ∧
      PhaseReached s j c (if c.phase = .jog1 then .collect1 else .collect2) c.failedZones .window t ∧
      WindowOpened s .span head f.w t ∧ t.pos.offset = s.pos.offset ∧ t.pos.target = s.pos.target ∧
      t.chm.heat = min 65535 (s.chm.heat + s.prof.jogCost) := by
  have hskew : c.phase.isSkew = false := by rcases hph with k | k <;> rw [k] <;> rfl
  have hnext : (if c.phase = .jog1 then Phase.collect1 else .collect2) = .collect1 ∨
      (if c.phase = .jog1 then Phase.collect1 else .collect2) = .collect2 := by split <;> simp
  obtain ⟨d, r, hr, hexec⟩ := hs.goodSlot (by rw [h.runningPhase]; rcases hph with k | k <;> rw [k] <;> decide) hg ticks
  generalize s.pos.indexRef.getD s.now + ticks = N at hr hexec
  let v0 := (s.atTick N).setSdc d
  let v1 := v0.setPos (v0.pos.tracked (anchorError v0 m (pesOf m)))
  have hrun : v1.running = some j := h.running
  have hu : v1.Unmeasured := ⟨hs.window, (h.unmeasured hs.window hskew).skew⟩
  have hrec : v0.servoRecord r = v1.settled := settlingRecord_ends hr ha ht hc
  rw [settled_jog (s := v1) (by rw [hrun]; rfl) hu (by show s.pos.act ≠ _; rw [ha]; decide) hm hl hh] at hrec
  generalize hq : (v1.pos.moveDone .settled).arrived .following none = q at hrec
  obtain ⟨hact, htgt, hoff⟩ := Pos.settled_facts hq
  let y := ((v1.setPos q).tells [.moveEnded .jog .settled s.jct.attempt, .posChanged]).addHeat s.prof.jogCost
  let v := y.setInbox [.posChanged]
  obtain ⟨hreach, hobeys, hopen, hpos, hchm⟩ := collect_reaches (s := v) (p := if c.phase = .jog1 then .collect1 else .collect2)
    hrun h.cursor hact hs.window .span ⟨j, c, f, head, zone⟩
  generalize hz : v.collect ⟨j, c, f, head, zone⟩ (if c.phase = .jog1 then .collect1 else .collect2) .span = u
    at hreach hobeys hopen hpos hchm
  have hord : u.Ordered := by
    rcases hnext with k | k <;> rw [k] at hobeys <;> exact hobeys.ordered (by decide) (by decide)
  obtain ⟨x, w, hf⟩ := finish_ordered (s := y) (m := .moveEnded .jog .settled s.jct.attempt) (ms := [.posChanged])
    (by show s.inbox ++ _ = _; rw [h.inbox]; rfl) ((takeMove_jogSettled (s := v) hrun h.at haw).trans hz) hord (hobeys.idle rfl)
  refine ⟨_, hexec y hrec hs.window rfl, ?_⟩
  rw [hf]
  exact ⟨⟨hreach.running, hreach.await, hreach.kept⟩, hopen, (congrArg Pos.offset hpos).trans hoff,
    (congrArg Pos.target hpos).trans htgt, (congrArg Chm.heat hchm).trans rfl⟩

end Sys2Proof.Machine
end

section
/-! PROOF. A zone seek that fails: the retry, and the entry and the end of the job when the retries are spent (R103, R111,
R117). -/

namespace Sys2Proof.Machine

variable {s t u y : State} {j : Job} {c : Cursor} {f : Figures} {head zone n : Nat} {r : Result} {rest : List JctMsg}

/-! ## The entry and the record (R103, R117, R129) -/

theorem faultEntry_eq (k : JobKind) (r : Reason) : faultEntry k r = entryOf k r := by cases k <;> rfl

theorem put_eq (z : ZoneSlots) (r : Result) (n : Nat) : z.put r n = withEntry z n r := by cases r <;> rfl

theorem joinFinished_eq (xs : List Finished) (x : Finished) : joinFinished xs x = withFinished xs x := by
  unfold joinFinished withFinished
  split
  · rfl
  · rw [show xs.length - 7 = 0 by omega, List.drop_zero]

/-- The record of a job after an entry (R117). -/
theorem countResult_eq (j : Job) (head zone : Nat) (r : Result) :
    j.countResult head zone r = { j with counts := countsWith j.counts r, first := firstWith j head zone r } := by
  match r with
  | .qualify (.pass _) | .qualify (.fail _ _) | .span (.ok _) | .span .reference | .span (.fault _) | .skew (.ok _)
  | .skew .reference | .skew (.fault _) => rfl

/-- The active job, with no measurement under way, finishes (R103). -/
theorem finishActive_eq (ha : s.active = some j) (hu : s.Unmeasured) (final : FinalState) (why : Option FailReason) :
    ∃ x, s.finishActive final why = (((s.setJct { s.jct with
      ctx := {}, recoverDue := none, table := s.jct.table.filter fun x => x.id != j.id
      finished := withFinished s.jct.finished (j.finish final why) }).raise .jobEnd).setRtm x).setInbox
        (.startTest :: .restTest :: s.inbox) := by
  have hj : j.isActive = true := List.find?_some ha
  have hend : s.endMeasurement = s.setCtx {} := by
    unfold State.endMeasurement State.endWindow
    rw [hu.window]
    dsimp only
    rw [if_neg hu.skew]
  unfold State.finishActive
  rw [ha]
  dsimp only
  unfold State.finishJob
  rw [if_pos hj, hend]
  dsimp only
  rw [joinFinished_eq]
  obtain ⟨x, hx⟩ := reload_eq ((s.setJct { s.jct with
      ctx := {}, recoverDue := none, table := s.jct.table.filter fun x => x.id != j.id
      finished := withFinished s.jct.finished (j.finish final why) }).raise .jobEnd) .jobEnd
  exact ⟨x, congrArg (fun z => (State.goOn z .restTest).goOn .startTest) hx⟩

/-! ## The only head-zone of the only job ends (R107, R117) -/

/-- `s` with the entry `r` of the job `j` captured at the head-zone, before the job finishes. -/
def State.entered (s : State) (j : Job) (head zone : Nat) (r : Result) : State :=
  (s.capture head zone r j.id).editActive fun x => x.countResult head zone r

theorem active_entered (hr : s.running = some j) (r : Result) :
    (s.entered j head zone r).active = some (j.countResult head zone r) :=
  active_editActive (s := s.capture head zone r j.id) (active_of_running hr).1 fun x => by rw [countResult_eq]

/-- The only job finishes with the entry of its only head-zone (R103, R117). -/
theorem entered_finishes (hr : s.running = some j) (hu : s.Unmeasured) (ht : s.jct.table = [j]) (r : Result) (final : FinalState)
    (why : Option FailReason) : ∃ z, (s.entered j head zone r).finishActive final why =
      z.setInbox (.startTest :: .restTest :: s.inbox) ∧ z.pos = s.pos ∧ FinishedWith s j head zone r final why z := by
  obtain ⟨hact, hstate⟩ := active_of_running hr
  have ha := active_entered (head := head) (zone := zone) hr r
  have htable : (s.entered j head zone r).jct.table = [j.countResult head zone r] := by
    show s.jct.table.map _ = _
    rw [ht, List.map_cons, List.map_nil, if_pos (isActive_of_running hstate)]
  have hphase : (s.entered j head zone r).runningPhase = s.runningPhase := by
    unfold State.runningPhase
    rw [show (s.entered j head zone r).running = some (j.countResult head zone r) from
      running_editActive (s := s.capture head zone r j.id) hr fun x => by rw [countResult_eq], hr, countResult_eq]
    rfl
  obtain ⟨x, e⟩ := finishActive_eq ha ⟨hu.window, by rw [hphase]; exact hu.skew⟩ final why
  refine ⟨_, e, rfl, ?_, ?_, ⟨rfl, rfl, rfl⟩, ?_, raise_has _ .jobEnd⟩
  · show (s.entered j head zone r).jct.table.filter _ = []
    rw [htable]
    simp
  · show putEntry s.hmp.working head zone r j.id = _
    unfold putEntry
    simp only [put_eq]
  · show withFinished s.jct.finished ((j.countResult head zone r).finish final why) = _
    rw [countResult_eq]
    rfl

/-- A zone-seek failure with the retries spent, at the only head-zone of the only job (R103, R111, R117). -/
theorem failZone_spent (hr : s.running = some j) (hj : j.At c f head zone) (ho : OnlyHeadZone s j head zone) (hu : s.Unmeasured)
    (hret : s.prof.retries ≤ c.retries) : ∃ z, s.failZone ⟨j, c, f, head, zone⟩ =
      z.setInbox (.startTest :: .restTest :: s.inbox) ∧ z.pos = s.pos ∧
      (c.failedZones = 0 → EndedWith s j head zone (entryOf j.kind .anchor) z) ∧
      (1 ≤ c.failedZones → FinishedWith s j head zone (entryOf j.kind .anchor) .failed (some .anchor) z) := by
  let v := s.setJct { s.jct with zoneFailed := true }
  have hv : v.Unmeasured := ⟨hu.window, hu.skew⟩
  have ha := active_entered (s := v) (head := head) (zone := zone) hr (entryOf j.kind .anchor)
  have hzones : (v.entered j head zone (entryOf j.kind .anchor)).failedZones = c.failedZones := by
    unfold State.failedZones
    rw [ha, countResult_eq]
    show ((j.cursor.map fun c => c.failedZones).getD 0) = _
    rw [hj.cursor]
    rfl
  have e : s.failZone ⟨j, c, f, head, zone⟩ =
      if 2 ≤ c.failedZones + 1 then (v.entered j head zone (entryOf j.kind .anchor)).finishActive .failed (some .anchor)
      else (v.entered j head zone (entryOf j.kind .anchor)).finishActive
        (finalOf (countsWith j.counts (entryOf j.kind .anchor))) none := by
    unfold State.failZone
    rw [if_neg (Nat.not_lt.mpr hret), faultEntry_eq]
    show (v.entered j head zone (entryOf j.kind .anchor)).advance ⟨j, c, f, head, zone⟩ = _
    unfold State.advance
    rw [if_neg (by show ¬c.head + 1 < j.heads.length; rw [ho.heads]; simp),
      if_pos (show (v.entered j head zone (entryOf j.kind .anchor)).jct.zoneFailed = true from rfl), hzones]
    split
    · rfl
    · unfold State.nextZone
      rw [if_neg (by show ¬c.zone + 1 < j.zones.length; rw [ho.zones]; simp), ha, countResult_eq]
      rfl
  by_cases h2 : 2 ≤ c.failedZones + 1
  · obtain ⟨z, hz, hpos, hfin⟩ := entered_finishes (s := v) (head := head) (zone := zone) hr hv ho.table
      (entryOf j.kind .anchor) .failed (some .anchor)
    rw [e, if_pos h2]
    exact ⟨z, hz, hpos, fun k => by omega, fun _ => ⟨hfin.table, hfin.working, hfin.map, hfin.record, hfin.event⟩⟩
  · obtain ⟨z, hz, hpos, hfin⟩ := entered_finishes (s := v) (head := head) (zone := zone) hr hv ho.table
      (entryOf j.kind .anchor) (finalOf (countsWith j.counts (entryOf j.kind .anchor))) none
    rw [e, if_neg h2]
    exact ⟨z, hz, hpos, fun _ => ⟨hfin.table, hfin.working, hfin.map, hfin.record, hfin.event⟩, fun k => by omega⟩

/-! ## The end of the arrival in which the last job finishes (R160) -/

theorem JctMsg.ne_restTest_of_idle {m : JctMsg} (h : m.idle = true) : m ≠ .restTest := fun k => by rw [k] at h; cases h

/-- The rest test changes nothing, or unloads from FOLLOWING (R160). -/
theorem restTest_cases (s : State) : s.restTest = s ∨ s.pos.act = .following ∧ s.restTest = s.beginUnload .rest := by
  unfold State.restTest
  split
  next h =>
    unfold State.restHolds at h
    simp only [Bool.and_eq_true, beq_iff_eq] at h
    exact .inr ⟨h.1.2, rfl⟩
  next => exact .inl rfl

/-- What the rest test without jobs leaves as it is, with no spin-down pending. -/
theorem restTest_noneHears (h : s.NoneHears) (hp : s.pos.spinDownPending = false) : s.restTest.NoneHears ∧
    s.restTest.jct = s.jct ∧ s.restTest.hmp = s.hmp ∧
    (s.blk.events.jobEnd = true → s.restTest.blk.events.jobEnd = true) := by
  have hjct := (restTest_motion s).jct
  have hevent := (restTest_carries s).raised .jobEnd
  rcases restTest_cases s with e | ⟨hact, e⟩
  · rw [e]
    exact ⟨h, rfl, rfl, id⟩
  · have htaken := beginUnload_taken .rest h (by rw [hact]; rfl) hp
    rw [← e] at htaken
    exact ⟨htaken.noneHears, hjct, htaken.map, hevent⟩

/-- An arrival whose first report finishes the last job. -/
theorem finish_finished {m : JctMsg} {z : State} (hi : y.inbox = m :: rest)
    (hz : (y.setInbox rest).jctTake m = z.setInbox (.startTest :: .restTest :: rest)) (hrest : rest.all JctMsg.idle = true)
    (ht : z.jct.table = []) (hp : z.pos.spinDownPending = false) :
    y.finish.jct = z.jct ∧ y.finish.hmp = z.hmp ∧ (z.blk.events.jobEnd = true → y.finish.blk.events.jobEnd = true) := by
  have hn : (z.setInbox rest).NoneHears := ⟨ht, fun m hm => JctMsg.ne_restTest_of_idle (List.all_eq_true.mp hrest m hm)⟩
  obtain ⟨hnone, hjct, hmap, hevent⟩ := restTest_noneHears hn hp
  have hd : y.drain Config.drainFuel = ((z.setInbox rest).restTest).setInbox [] := by
    show y.drain (65533 + 1 + 1 + 1) = _
    rw [drain_cons hi, hz, drain_cons (m := .startTest) (ms := .restTest :: rest) rfl,
      jctTake_noJobs (by exact ht) (by decide), drain_cons (m := .restTest) (ms := rest) rfl]
    exact drain_noJobs _ hnone.1 hnone.2
  obtain ⟨x, w, hx⟩ := transmit_frame (((z.setInbox rest).restTest).setInbox [])
  have hf : y.finish = _ := (congrArg State.transmit hd).trans hx
  rw [hf]
  exact ⟨hjct, hmap, hevent⟩

/-! ## The retry (R111, R116) -/

theorem running_retry (hr : s.running = some j) (hc : j.cursor = some c) :
    s.retry.running = some { j with cursor := some { c with retries := c.retries + 1, phase := .prepare } } :=
  (running_onCursor hr _).trans (congrArg some (onCursor_eq hc _))

/-- What a head-zone in PREPARE waits for off the ramp and out of FOLLOWING (R108). -/
def ActState.waitedFor (a : ActState) : WaitCond := if a = .unloading then .parked else .followingOrParked

/-- PREPARE off the ramp and out of FOLLOWING, with no load of the job under way: it waits (R108). -/
theorem prepare_waits (hr : s.running = some j) (hj : j.At c f head zone) (hp : c.phase = .prepare)
    (hs : s.pos.spindle = .atSpeed ∧ s.pos.spinDownPending = false) (haw : s.jct.ctx.await = none)
    (h1 : s.pos.act ≠ .following) (h2 : s.pos.act ≠ .parked) : s.prepare = s.await none (some s.pos.act.waitedFor) := by
  rw [prepare_atSpeed hr hj hp hs]
  unfold State.prepareActuator
  rw [haw]
  cases ha : s.pos.act with
  | following => exact absurd ha h1
  | parked => exact absurd ha h2
  | loading | acquiring | seeking | settling | unloading => rfl

/-- Waiting so in PREPARE, the job has its order. -/
theorem ordered_waits (hr : s.running = some j) (hj : j.At c f head zone) (hp : c.phase = .prepare)
    (hs : s.pos.spindle = .atSpeed ∧ s.pos.spinDownPending = false) (h1 : s.pos.act ≠ .following) (h2 : s.pos.act ≠ .parked) :
    (s.await none (some s.pos.act.waitedFor)).Ordered := by
  have hphase : (s.await none (some s.pos.act.waitedFor)).runningPhase = some .prepare := by
    rw [← hp]
    exact runningPhase_of (s := s) hr hj.cursor
  refine ⟨fun _ ms => ?_, fun k => ?_⟩
  · exact prepare_waits (s := (s.await none (some s.pos.act.waitedFor)).setInbox ms) hr hj hp hs rfl h1 h2
  · rw [hphase] at k
    cases k

/-! ## The failure taken (R111) -/

/-- The outcomes that fail a zone seek (R111). -/
def MoveOutcome.failsSeek : MoveOutcome → Bool
  | .settleTimeout | .seekTimeout | .interrupted .servoLost | .interrupted .offTrack => true
  | _ => false

theorem takeSeekOutcome_fails {o : MoveOutcome} (h : o.failsSeek = true) (x : Here) : s.takeSeekOutcome x o = s.failZone x := by
  unfold MoveOutcome.failsSeek at h
  split at h
  · rfl
  · rfl
  · rfl
  · rfl
  · cases h

/-- `y` is `s` where the zone seek of the RUNNING job has ended with a failure, the reports `rest` behind it. -/
structure SeekFails (s y : State) (rest : List JctMsg) : Prop where
  first : ∃ k o, (k = .seek ∨ k = .jog) ∧ o.failsSeek = true ∧ y.inbox = .moveEnded k o s.jct.attempt :: rest
  rest : rest.all JctMsg.idle = true
  jct : y.jct = s.jct
  map : y.hmp = s.hmp
  prof : y.prof = s.prof
  window : y.window = none
  spindle : y.pos.spindle = .atSpeed ∧ y.pos.spinDownPending = false
  act : y.pos.act ≠ .parked

/-- The failed seek's outcome, awaited, fails the zone (R111, R115). -/
theorem takeMove_fails {k : MoveKind} {o : MoveOutcome} (hr : s.running = some j) (hj : j.At c f head zone)
    (ha : s.jct.ctx.await = some .seek) (hk : k = .seek ∨ k = .jog) (ho : o.failsSeek = true) :
    s.takeMove k o s.jct.attempt = s.failZone ⟨j, c, f, head, zone⟩ := by
  unfold State.takeMove
  rw [here_of hr hj]
  dsimp only
  have hans : s.answers .seek s.jct.attempt = true := answers_of hr ha .seek
  rw [takeSeekOutcome_fails ho]
  rcases hk with rfl | rfl <;> exact if_pos hans

theorem SeekFails.running (h : SeekFails s y rest) (hr : s.running = some j) : y.running = some j := by
  unfold State.running State.active
  rw [h.jct]
  exact hr

/-- The first report of the arrival fails the zone (R111). -/
theorem SeekFails.take (h : SeekFails s y rest) (hm : MeasureUnderWay s j c f head zone .zoneSeek)
    (haw : s.jct.ctx.await = some .seek) : ∃ m, y.inbox = m :: rest ∧
      (y.setInbox rest).jctTake m = (y.setInbox rest).failZone ⟨j, c, f, head, zone⟩ := by
  obtain ⟨k, o, hk, ho, hi⟩ := h.first
  have e := takeMove_fails (s := y.setInbox rest) (h.running hm.running) hm.at
    (by show y.jct.ctx.await = _; rw [h.jct]; exact haw) hk ho
  rw [show (y.setInbox rest).jct.attempt = s.jct.attempt from congrArg Jct.attempt h.jct] at e
  exact ⟨_, hi, e⟩

/-- With a retry left the head-zone starts again (R111). -/
theorem SeekFails.retried (h : SeekFails s y rest) (hm : MeasureUnderWay s j c f head zone .zoneSeek)
    (haw : s.jct.ctx.await = some .seek) (hret : c.retries < s.prof.retries) : RetriedFrom s j c y.finish ∧
    (y.pos.act ≠ .following → y.finish.runningPhase = some .prepare ∧
      y.finish.jct.ctx.waits = some y.pos.act.waitedFor) := by
  have hrun := h.running hm.running
  obtain ⟨m, hi, htake⟩ := h.take hm haw
  have hfail : (y.setInbox rest).jctTake m = (y.setInbox rest).retry := by
    rw [htake]
    unfold State.failZone
    exact if_pos (by show c.retries < y.prof.retries; rw [h.prof]; exact hret)
  let v := (y.setInbox rest).retry.setInbox rest
  have hv : v.running = some { j with cursor := some { c with retries := c.retries + 1, phase := .prepare } } :=
    running_retry (s := y.setInbox rest) hrun hm.cursor
  have hat : Job.At { j with cursor := some { c with retries := c.retries + 1, phase := .prepare } }
      { c with retries := c.retries + 1, phase := .prepare } f head zone := ⟨rfl, hm.figures, hm.atHead, hm.atZone⟩
  have hatt : v.jct.attempt = s.jct.attempt + 1 := by
    show y.jct.attempt + 1 = _
    rw [h.jct]
  have hkept : v.hmp = s.hmp ∧ v.jct.finished = s.jct.finished := ⟨h.map, by show y.jct.finished = _; rw [h.jct]⟩
  by_cases hact : y.pos.act = .following
  · obtain ⟨⟨p, n, a, hreach⟩, hord, hidle⟩ := zoneSeek_reaches (s := v) (x := ⟨_, _, f, head, zone⟩) hv hat hact h.window
      rfl rfl rfl rfl
    have hprep := prepare_following (s := v) hv hat rfl h.spindle hact
    obtain ⟨x, w, e⟩ := finish_prepared hi hfail rfl hprep hord (hidle h.rest)
    rw [e]
    exact ⟨⟨⟨_, hreach.running, rfl, rfl, rfl⟩, hreach.await.2.trans hatt, hreach.kept.1.trans hkept.1,
      hreach.kept.2.trans hkept.2⟩, fun k => absurd hact k⟩
  · have hprep := prepare_waits (s := v) hv hat rfl h.spindle rfl hact h.act
    have hord := ordered_waits (s := v) hv hat rfl h.spindle hact h.act
    obtain ⟨x, w, e⟩ := finish_prepared hi hfail rfl hprep hord h.rest
    rw [e]
    exact ⟨⟨⟨_, hv, rfl, rfl, rfl⟩, hatt, hkept⟩, fun _ => ⟨runningPhase_of (s := v) hv rfl, rfl⟩⟩

/-- With the retries spent the head-zone, the only one of the only job, ends with reason ANCHOR (R111). -/
theorem SeekFails.spent (h : SeekFails s y rest) (hm : MeasureUnderWay s j c f head zone .zoneSeek)
    (haw : s.jct.ctx.await = some .seek) (hret : s.prof.retries ≤ c.retries) (ho : OnlyHeadZone s j head zone) :
    (c.failedZones = 0 → EndedWith s j head zone (entryOf j.kind .anchor) y.finish) ∧
      (1 ≤ c.failedZones → FinishedWith s j head zone (entryOf j.kind .anchor) .failed (some .anchor) y.finish) := by
  obtain ⟨m, hi, htake⟩ := h.take hm haw
  have hzone : OnlyHeadZone (y.setInbox rest) j head zone :=
    ⟨(congrArg Jct.table h.jct).trans ho.table, ho.heads, ho.zones, (congrArg Jct.zoneFailed h.jct).trans ho.sound⟩
  have hskew : y.runningPhase = some .zoneSeek := by
    rw [runningPhase_of (h.running hm.running) hm.cursor, hm.phase]
  obtain ⟨z, hz, hpos, hended, hfailed⟩ := failZone_spent (s := y.setInbox rest) (h.running hm.running) hm.at hzone
    ⟨h.window, by rw [show (y.setInbox rest).runningPhase = _ from hskew]; exact fun k => nomatch k⟩
    (by show y.prof.retries ≤ _; rw [h.prof]; exact hret)
  have hsame : ∀ {final why}, FinishedWith (y.setInbox rest) j head zone (entryOf j.kind .anchor) final why z →
      FinishedWith s j head zone (entryOf j.kind .anchor) final why y.finish := fun k => by
    obtain ⟨hjct, hmap, hevent⟩ := finish_finished hi (htake.trans hz) h.rest k.table (by rw [hpos]; exact h.spindle.2)
    refine ⟨by rw [hjct]; exact k.table, ?_, ?_, ?_, hevent k.event⟩
    · rw [hmap, k.working, ← h.map]
      rfl
    · rw [hmap, ← h.map]
      exact k.map
    · rw [hjct, k.record, ← h.jct]
      rfl
  exact ⟨fun k => hsame (hended k), fun k => hsame (hfailed k)⟩

/-- A zone-seek failure has been taken; out of FOLLOWING nothing else moves, and a retry waits for the actuator (R108, R111). -/
theorem SeekFails.taken (h : SeekFails s y rest) (hm : MeasureUnderWay s j c f head zone .zoneSeek)
    (haw : s.jct.ctx.await = some .seek) : ZoneSeekFailed s j c head zone y.finish ∧
    (y.pos.act ≠ .following → c.retries < s.prof.retries → y.finish.runningPhase = some .prepare ∧
      y.finish.jct.ctx.waits = some y.pos.act.waitedFor) := by
  refine ⟨⟨fun k => (h.retried hm haw k).1, fun k ho => h.spent hm haw k ho⟩, fun ha k => (h.retried hm haw k).2 ha⟩

end Sys2Proof.Machine
end

section
/-! PROOF. Off FOLLOWING and off the ramp, the spindle AT_SPEED, the Job Controller moves nothing: a job that fails or finishes
there leaves the Positioner as it is (R108; log 15). -/

namespace Sys2Proof.Machine

variable {s t u : State}

/-- The reports and continuations of a head-zone that ends: those that change nothing for a job that has its order, the next
head-zone, PREPARE, and the tests of R106 and R160. -/
def JctMsg.plain (m : JctMsg) : Bool :=
  m.idle || m == .takeUp || m == .prepare || m == .startTest || m == .restTest

/-- With no window open in `s`, `t` has its Positioner, no window open, and no report beside the plain ones. -/
def Still (s t : State) : Prop :=
  s.window = none → t.pos = s.pos ∧ t.window = none ∧ (s.inbox.all JctMsg.plain = true → t.inbox.all JctMsg.plain = true)

theorem Still.trans (h : Still s t) (k : Still t u) : Still s u := fun hw => by
  obtain ⟨hp, hw', hi⟩ := h hw
  obtain ⟨kp, kw, ki⟩ := k hw'
  exact ⟨kp.trans hp, kw, ki ∘ hi⟩

/-- A change of the Job Controller's own state, of the map, of the timers or of the events. -/
theorem Still.of (hp : t.pos = s.pos) (hw : t.window = s.window) (hi : t.inbox = s.inbox) : Still s t := fun k =>
  ⟨hp, hw.trans k, fun h => by rw [hi]; exact h⟩

theorem Still.refl (s : State) : Still s s := .of rfl rfl rfl

theorem Still.goOn (h : Still s t) {m : JctMsg} (hm : m.plain = true) : Still s (t.goOn m) := fun k => by
  obtain ⟨hp, hw, hi⟩ := h k
  exact ⟨hp, hw, fun l => by show (m :: t.inbox).all _ = true; rw [List.all_cons, hm, hi l]; rfl⟩

theorem Still.tell (h : Still s t) {m : JctMsg} (hm : m.plain = true) : Still s (t.tell m) := fun k => by
  obtain ⟨hp, hw, hi⟩ := h k
  exact ⟨hp, hw, fun l => by show (t.inbox ++ [m]).all _ = true; rw [List.all_append, hi l, List.all_cons, hm]; rfl⟩

theorem selectHead_still (n : Nat) : Still s (s.selectHead n) := by
  obtain ⟨m, e⟩ := takeHeadChange_eq (s.setFlc { s.flc with engineHead := n }) s.drivenHead
  rw [show s.selectHead n = _ from e]
  exact .of rfl rfl rfl

theorem abortGate_still : Still s (s.abortGate .job) := by
  by_cases hg : s.gcu.state = .idle
  · unfold State.abortGate
    rw [hg]
    exact .refl s
  · obtain ⟨g, r, n, e, -, hr⟩ := abortGate_busy hg
    rw [e]
    exact Still.tell (t := s.setGcu g) (.of rfl rfl rfl) (by simp [JctMsg.plain, JctMsg.idle, hr])

theorem stopSkew_still : Still s s.stopSkew := by
  unfold State.stopSkew
  extract_lets s1 s2
  have h1 : Still s s1 := abortGate_still
  have h2 : Still s s2 := by
    show Still s (if s.jct.ctx.probe then s1.selectHead s1.prof.anchor else s1)
    split
    · exact h1.trans (selectHead_still _)
    · exact h1
  exact h2.trans (.of rfl rfl rfl)

theorem endWindow_still (e : WindowEnding) : Still s (s.endWindow e) := fun hw => by
  unfold State.endWindow
  rw [hw]
  exact ⟨rfl, hw, id⟩

/-! ## A job that finishes, and the next head-zone (R103, R106, R107, R111) -/

theorem endMeasurement_still : Still s s.endMeasurement := by
  unfold State.endMeasurement
  extract_lets s1 s2
  have h1 : Still s s1 := endWindow_still _
  have h2 : Still s s2 := by
    show Still s (if (s.runningPhase.map Phase.isSkew) = some true then s1.stopSkew else s1)
    split
    · exact h1.trans stopSkew_still
    · exact h1
  exact h2.trans (.of rfl rfl rfl)

theorem finishJob_still (j : Job) (final : FinalState) (why : Option FailReason) : Still s (s.finishJob j final why) := by
  unfold State.finishJob
  extract_lets s1 q s2 q2 s3
  have h1 : Still s s2 := by
    show Still s (if j.isActive then s1.setJct _ else s)
    split
    · exact endMeasurement_still.trans (.of rfl rfl rfl)
    · exact .refl s
  obtain ⟨r, e⟩ := reload_eq (s3.raise .jobEnd) .jobEnd
  rw [e]
  exact ((h1.trans (u := (s3.raise .jobEnd).setRtm r) (.of rfl rfl rfl)).goOn rfl).goOn rfl

theorem finishActive_still (final : FinalState) (why : Option FailReason) : Still s (s.finishActive final why) := by
  unfold State.finishActive
  split
  · exact finishJob_still _ _ _
  · exact .refl s

theorem nextZone_still (x : Here) (n : Nat) : Still s (s.nextZone x n) := by
  unfold State.nextZone
  split
  · exact Still.goOn (.of rfl rfl rfl) rfl
  · exact finishActive_still _ _

theorem advance_still (x : Here) : Still s (s.advance x) := by
  unfold State.advance
  split
  · exact Still.goOn (.of rfl rfl rfl) rfl
  · split
    · split
      · exact finishActive_still _ _
      · exact nextZone_still _ _
    · exact nextZone_still _ _

theorem endWith_still (x : Here) (r : Result) : Still s (s.endWith x r) :=
  Still.trans (t := (s.capture x.head x.zone r x.job.id).editActive fun j => j.countResult x.head x.zone r) (.of rfl rfl rfl)
    (advance_still x)

theorem skipHead_still (x : Here) : Still s (s.skipHead x) :=
  Still.trans (t := s.editActive fun j => { j with counts := { j.counts with skipped := j.counts.skipped + 1 } })
    (.of rfl rfl rfl) (advance_still x)

theorem takeUp_still : Still s s.takeUp := by
  unfold State.takeUp
  split
  · exact .refl s
  · split
    · exact skipHead_still _
    · split
      · exact endWith_still _ _
      · exact Still.goOn (.of rfl rfl rfl) rfl

theorem retry_still : Still s s.retry := Still.goOn (.of rfl rfl rfl) rfl

theorem failZone_still (x : Here) : Still s (s.failZone x) := by
  unfold State.failZone
  split
  · exact retry_still
  · exact Still.trans (t := s.setJct { s.jct with zoneFailed := true }) (.of rfl rfl rfl) (endWith_still _ _)

theorem startTest_still : Still s s.startTest := by
  unfold State.startTest
  split
  · exact Still.goOn (.of rfl rfl rfl) rfl
  · exact .refl s

/-! ## PREPARE and the reports (R108, R160) -/

/-- The heads are off the ramp and not FOLLOWING, the spindle AT_SPEED with no spin-down pending. -/
structure Pos.Underway (p : Pos) : Prop where
  following : p.act ≠ .following
  parked : p.act ≠ .parked
  spindle : p.spindle = .atSpeed ∧ p.spinDownPending = false

theorem prepare_still (h : s.pos.Underway) : Still s s.prepare := by
  unfold State.prepare
  split
  · exact .refl s
  next x _ =>
    split
    · rw [h.spindle.1]
      dsimp only
      rw [if_neg (by rw [h.spindle.2]; decide)]
      unfold State.prepareActuator
      cases ha : s.pos.act with
      | following => exact absurd ha h.following
      | parked => exact absurd ha h.parked
      | loading | acquiring =>
        dsimp only
        split <;> exact .of rfl rfl rfl
      | seeking | settling | unloading => exact .of rfl rfl rfl
    · exact .refl s

theorem takePosChange_still (h : s.pos.Underway) : Still s s.takePosChange := by
  unfold State.takePosChange
  split
  · exact prepare_still h
  · split
    · exact .of rfl rfl rfl
    · exact .refl s
  · exact .refl s

theorem jctTake_still (h : s.pos.Underway) {m : JctMsg} (hm : m.plain = true) : Still s (s.jctTake m) := by
  match m with
  | .posChanged => exact takePosChange_still h
  | .prepare => exact prepare_still h
  | .takeUp => exact takeUp_still
  | .startTest => exact startTest_still
  | .restTest =>
    show Still s s.restTest
    rw [restTest_of_not (.inr (.inr (.inl h.following)))]
    exact .refl s
  | .gateEnded r n =>
    show Still s (s.takeGate r n)
    rw [takeGate_aborted (by simpa [JctMsg.plain, JctMsg.idle] using hm)]
    exact .refl s
  | .moveEnded k (.interrupted x) n =>
    have hx : x ≠ .servoLost ∧ x ≠ .offTrack := by simpa [JctMsg.plain, JctMsg.idle] using hm
    show Still s (s.takeMove k (.interrupted x) n)
    rw [takeMove_interrupted hx.1 hx.2]
    exact .refl s

/-- Under way, the reports of a head-zone that ends leave the Positioner as it is. -/
theorem drain_still (h : s.pos.Underway) (hw : s.window = none) (hi : s.inbox.all JctMsg.plain = true) (n : Nat) :
    (s.drain n).pos = s.pos := by
  induction n generalizing s with
  | zero => rfl
  | succ n ih =>
    cases hm : s.inbox with
    | nil => rw [drain_of_nil hm]
    | cons m ms =>
      rw [hm, List.all_cons, Bool.and_eq_true] at hi
      obtain ⟨hpos, hwin, hall⟩ := jctTake_still (s := s.setInbox ms) h hi.1 hw
      rw [drain_cons hm]
      exact (ih (by rw [hpos]; exact h) hwin (hall hi.2)).trans hpos

end Sys2Proof.Machine
end

section
/-! PROOF. The arrivals that fail a zone seek (R34, R36, R37, R111), and the obligation on seeks. -/

namespace Sys2Proof.Machine

variable {s t u y : State} {j : Job} {c : Cursor} {f : Figures} {head zone n : Nat} {rest : List JctMsg} {m : Mark}
  {sector : BitVec 10} {code : BitVec 18} {e o : BitVec 12} {ticks : Nat}

/-- A failed seek taken out of FOLLOWING leaves the Positioner as it is. -/
theorem SeekFails.pos (h : SeekFails s y rest) (hm : MeasureUnderWay s j c f head zone .zoneSeek)
    (haw : s.jct.ctx.await = some .seek) (ha : y.pos.act ≠ .following) : y.finish.pos = y.pos := by
  obtain ⟨m, hi, htake⟩ := h.take hm haw
  have hplain : rest.all JctMsg.plain = true := List.all_eq_true.mpr fun m hm => by
    unfold JctMsg.plain
    rw [List.all_eq_true.mp h.rest m hm]
    rfl
  obtain ⟨hpos, hwin, hall⟩ := failZone_still (s := y.setInbox rest) ⟨j, c, f, head, zone⟩ h.window
  have hd : (y.drain Config.drainFuel).pos = y.pos := by
    show (y.drain (65535 + 1)).pos = _
    rw [drain_cons hi, htake]
    exact (drain_still (by rw [hpos]; exact ⟨ha, h.act, h.spindle⟩) hwin (hall hplain) _).trans hpos
  obtain ⟨x, w, hx⟩ := transmit_frame (y.drain Config.drainFuel)
  exact (congrArg State.pos hx).trans hd

/-- A zone-seek failure that leaves the actuator in `a`, out of FOLLOWING, and what a retry then waits for. -/
theorem SeekFails.away (h : SeekFails s y rest) (hm : MeasureUnderWay s j c f head zone .zoneSeek)
    (haw : s.jct.ctx.await = some .seek) {a : ActState} (ha : y.pos.act = a) (hn : a ≠ .following) :
    ZoneSeekFailed s j c head zone y.finish ∧ y.finish.pos = y.pos ∧
      (c.retries < s.prof.retries → y.finish.runningPhase = some .prepare ∧ y.finish.jct.ctx.waits = some a.waitedFor) := by
  subst ha
  exact ⟨(h.taken hm haw).1, h.pos hm haw hn, (h.taken hm haw).2 hn⟩

section
variable {k : MoveKind} (h : MeasureUnderWay s j c f head zone .zoneSeek) (hw : s.window = none)
  (hk : k = .seek ∨ k = .jog) (hm : s.pos.actMove = some { kind := k, owner := .job s.jct.attempt })
include h hw hk hm

/-- SETTLE_TIMEOUT of a zone seek (R36). -/
theorem settleExpiry_fails (ha : s.pos.act = .settling) (hd : s.pos.deadline = some { kind := .settle, due := n }) :
    SeekFails s s.expireSettle [.posChanged] := by
  have hdue : s.deadlineOf .settle = some n := by
    unfold State.deadlineOf
    rw [hd, ha]
    rfl
  have e : s.expireSettle = ((s.atTick n).setPos ((s.pos.moveDone .settleTimeout).arrived .following none)).tells
      [.moveEnded k .settleTimeout s.jct.attempt, .posChanged] := by
    unfold State.expireSettle State.arriveFollowing
    rw [hdue]
    dsimp only
    rw [endActMove_setAct (s := s.atTick n) ⟨hw, (h.unmeasured hw rfl).skew⟩ (by show s.pos.act ≠ _; rw [ha]; decide) hm]
    exact restTest_running (by show s.running.isSome = true; rw [h.running]; rfl)
  rw [e]
  exact ⟨⟨k, _, hk, rfl, by show s.inbox ++ _ = _; rw [h.inbox]; rfl⟩, rfl, rfl, rfl, rfl, hw, h.spindle, by
    show ActState.following ≠ .parked
    decide⟩

/-- SEEK_TIMEOUT of a zone seek, the ramp line at OFF_RAMP (R34, R38). -/
theorem seekExpiry_fails (ha : s.pos.act = .seeking) (hd : s.pos.deadline = some { kind := .seek, due := n })
    (hv : s.rampView = .offRamp) : ∃ rest, SeekFails s s.expireSeek rest ∧ s.expireSeek.pos.act = .unloading := by
  have hdue : s.deadlineOf .seek = some n := by
    unfold State.deadlineOf
    rw [hd, ha]
    rfl
  have hend := endActMove_job (s := s.atTick n) hm .seekTimeout
  obtain ⟨v, q, ⟨ms, hms, rfl⟩, hact, hspin, hpend, e⟩ := beginUnload_drove (s := (s.atTick n).endActMove .seekTimeout)
    (x := .seekTimeout) (by rw [hend]; exact ⟨hw, (h.unmeasured hw rfl).skew⟩)
    (by rw [hend]; show s.pos.act.isLoaded = true; rw [ha]; rfl) (by rw [hend]; exact hv) (by decide)
  have he : s.expireSeek = ((((s.atTick n).endActMove .seekTimeout).setPos q).tells ms).raise .motion := by
    unfold State.expireSeek
    rw [hdue]
    exact e
  rw [he]
  rw [hend] at hspin hpend ⊢
  refine ⟨ms, ⟨⟨k, .seekTimeout, hk, rfl, ?_⟩, hms, rfl, rfl, rfl, hw,
    ⟨hspin.trans h.spindle.1, hpend.trans h.spindle.2⟩, ?_⟩, hact⟩
  · show s.inbox ++ [_] ++ ms = _
    rw [h.inbox]
    rfl
  · show q.act ≠ .parked
    rw [hact]
    decide

end

/-- A loss of servo in SETTLING ends the zone seek (R37). -/
theorem missSlot_fails {k : MoveKind} (hs : AnchorSlot s) (h : MeasureUnderWay s j c f head zone .zoneSeek)
    (hk : k = .seek ∨ k = .jog) (hm : s.pos.actMove = some { kind := k, owner := .job s.jct.attempt })
    (ha : s.pos.act = .settling) (hl : 3 ≤ s.pos.lossRun) (hh : s.pos.held = none) :
    ∃ y, exec .slotEndMiss s = .next y.finish ∧ SeekFails s y [.posChanged] ∧ y.pos.act = .acquiring := by
  obtain ⟨d, x, r, hr, hmiss, hexec⟩ := hs.missSlot (by rw [h.runningPhase]; decide)
  let v0 := (s.atTick d).setSdc x
  let v := v0.setPos { v0.pos with settleRun := 0 }
  have hrec : v0.servoRecord r = v.loseServo := by
    rw [servoRecord_settling (s := v0) hr ha (by rw [hmiss]; decide), settlingRecord_miss hmiss]
    exact if_neg (by show ¬s.pos.lossRun + 1 < 4; omega)
  have hlose : v.loseServo = (v.setPos ((v.pos.moveDone (.interrupted .servoLost)).arrived .acquiring
      ((v.endActMove (.interrupted .servoLost)).deadlineIn .acq (v.endActMove (.interrupted .servoLost)).prof.acqMs))).tells
        [.moveEnded k (.interrupted .servoLost) s.jct.attempt, .posChanged] := by
    unfold State.loseServo
    dsimp only
    rw [discardHeld_of_none v hh]
    exact endActMove_setAct (s := v) ⟨hs.window, (h.unmeasured hs.window rfl).skew⟩
      (by show s.pos.act ≠ _; rw [ha]; decide) hm
      _ _ _
  refine ⟨_, hexec _ (hrec.trans hlose) hs.window rfl, ?_, rfl⟩
  exact ⟨⟨k, _, hk, rfl, by show s.inbox ++ _ = _; rw [h.inbox]; rfl⟩, rfl, rfl, rfl, rfl, hs.window, h.spindle, by
    show ActState.acquiring ≠ .parked
    decide⟩

/-- An off-track arrival that discards the held zone seek (R31, R33). -/
theorem offTrack_fails (hs : AnchorSlot s) (hg : GoodMark s sector code e o m) (h : MeasureUnderWay s j c f head zone .zoneSeek)
    (ha : s.pos.act = .following)
    (ht : s.prof.otTol < (((m.track : Int) - s.pos.target) * 16384 + pesOf m - s.pos.offset).natAbs)
    (hc : s.prof.otCount ≤ s.pos.otRun + 1) {x : HeldSeek} (hh : s.pos.held = some x) (hx : x.owner = .job s.jct.attempt) :
    ∃ y, exec (.slotEndMark sector code e o ticks) s = .next y.finish ∧ SeekFails s y [.posChanged] ∧
      y.pos.act = .settling ∧ y.pos.held = none := by
  obtain ⟨d, r, hr, hexec⟩ := hs.goodSlot (by rw [h.runningPhase]; decide) hg ticks
  generalize s.pos.indexRef.getD s.now + ticks = N at hr hexec
  let v0 := (s.atTick N).setSdc d
  let v := v0.setPos (v0.pos.tracked (anchorError v0 m (pesOf m)))
  have hrec : v0.servoRecord r = v.offTrack := by
    rw [servoRecord_ofFollowing hr.head ha (by rw [hr.cls]; decide), followingRecord_good hr]
    exact (if_pos ht).trans (if_pos hc)
  have hdone : v.discardHeld .offTrack = (v.setPos { v.pos with held := none }).tell
      (.moveEnded .seek (.interrupted .offTrack) s.jct.attempt) := by
    unfold State.discardHeld State.reportMove
    rw [show v.pos.held = some x from hh]
    dsimp only
    rw [hx]
  obtain ⟨dl, hoff⟩ : ∃ dl, v.offTrack = (v.setPos (({ v.pos with held := none } : Pos).arrived .settling dl)).tells
      [.moveEnded .seek (.interrupted .offTrack) s.jct.attempt, .posChanged] := by
    unfold State.offTrack
    dsimp only
    rw [hdone]
    exact ⟨_, (setAct_unmeasured (s := (v.setPos { v.pos with held := none }).tell
      (.moveEnded .seek (.interrupted .offTrack) s.jct.attempt)) ⟨hs.window, (h.unmeasured hs.window rfl).skew⟩
      (by show s.pos.act ≠ _; rw [ha]; decide) .settling _).trans (tell_setPos_tell _ _ _ _)⟩
  refine ⟨_, hexec _ (hrec.trans hoff) hs.window rfl, ?_, rfl, rfl⟩
  exact ⟨⟨.seek, _, .inl rfl, rfl, by show s.inbox ++ _ = _; rw [h.inbox]; rfl⟩, rfl, rfl, rfl, rfl, hs.window, h.spindle, by
    show ActState.settling ≠ .parked
    decide⟩

/-- Settles O24: a seek and its settling without jobs (`quiet_seeking`, `quiet_settling`), the ends of a job's load, zone seek and
jogs (`loadEnd_seeks`, `loadEnd_holds`, `seekEnd_reaches`, `jogEnd_collects`), and the failures (`SeekFails`). -/
theorem seeksCompleteAndSettle : Obligations.SeeksCompleteAndSettle := by
  unfold Obligations.SeeksCompleteAndSettle
  intro s sector code e o ticks m j c f head zone n track
  refine ⟨fun h hg hh hc => ⟨quiet_seeking h hg hh hc, quiet_settling h hg hh⟩, fun h hs hg ha hc haw hm hh htrack ht => ?_,
    fun hs hg ha ht hc => ⟨fun h haw hm => seekEnd_reaches hs hg ha ht hc h haw hm,
      fun hph h haw hm hl hheat => jogEnd_collects hs hg ha ht hc hph h haw hm hl hheat⟩,
    fun h haw hw => ⟨fun hmv => ?_, fun hs hg ha ht hc _ ⟨x, hx, howner⟩ => ?_⟩⟩
  · subst htrack
    refine ⟨fun hl => loadEnd_seeks h hs hg ha hc haw hm ht ?_, fun hl hp => loadEnd_holds h hs hg ha hc haw hm hh ht ?_⟩
    · unfold Chm.maySeek
      rcases hl with hl | ⟨hl, hp⟩ <;> rw [hl]
      exact decide_eq_true hp
    · unfold Chm.maySeek
      rw [hl]
      exact decide_eq_false (Nat.not_le.mpr hp)
  · obtain ⟨k, hk, hm⟩ : ∃ k, (k = MoveKind.seek ∨ k = .jog) ∧
        s.pos.actMove = some { kind := k, owner := .job s.jct.attempt } := by
      rcases hmv with hm | hm
      exacts [⟨_, .inl rfl, hm⟩, ⟨_, .inr rfl, hm⟩]
    refine ⟨fun ha hd => ?_, fun ha hd hv => ?_, fun hs ha hl hh => ?_⟩
    · exact ⟨_, rfl, ((settleExpiry_fails h hw hk hm ha hd).taken h haw).1⟩
    · obtain ⟨rest, hfails, hact⟩ := seekExpiry_fails h hw hk hm ha hd hv
      obtain ⟨hfailed, hpos, hwaits⟩ := hfails.away h haw hact (by decide)
      exact ⟨_, rfl, hfailed, (congrArg Pos.act hpos).trans hact, hwaits⟩
    · obtain ⟨y, hexec, hfails, hact⟩ := missSlot_fails hs h hk hm ha hl hh
      obtain ⟨hfailed, hpos, hwaits⟩ := hfails.away h haw hact (by decide)
      exact ⟨_, hexec, hfailed, (congrArg Pos.act hpos).trans hact, hwaits⟩
  · obtain ⟨y, hexec, hfails, hact, hheld⟩ := offTrack_fails (ticks := ticks) hs hg h ha ht hc hx howner
    obtain ⟨hfailed, hpos, -⟩ := hfails.away h haw hact (by decide)
    exact ⟨_, hexec, hfailed, (congrArg Pos.act hpos).trans hact, (congrArg Pos.held hpos).trans hheld⟩

end Sys2Proof.Machine
end

section
/-! PROOF. Entries of a window by the class of the record (R50 to R54). -/

namespace Sys2Proof.Machine

variable {s : State} {w : Window} {r : SectorRecord} {m : Mark}

/-- Counts saturate at 65,535 (R12, R50). -/
theorem bump_eq (n : Nat) : bump n = min 65535 (n + 1) := rfl

/-- `w` with a GOOD record of the mark `m` and reading `p` entered (R50). -/
def Window.taking (w : Window) (m : Mark) (p : Int) : Window :=
  { w with
    used := w.used + 1, sumV := w.sumV + (((m.track : Int) - w.track) * 16384 + p), sumAmp := w.sumAmp + (m.e + m.o) }

/-- A GOOD record within 127 tracks of the target is used (R50). -/
theorem enter_near (hc : r.cls = .good) (hm : r.mark = some m) (hn : ((m.track : Int) - w.track).natAbs ≤ 127) :
    w.enter r = w.taking m r.pes := by
  unfold Window.enter
  rw [hc, hm]
  exact if_pos hn

/-- A GOOD record farther away is entered as WILD (R51). -/
theorem enter_far (hc : r.cls = .good) (hm : r.mark = some m) (hn : 127 < ((m.track : Int) - w.track).natAbs) :
    w.enter r = { w with wild := bump w.wild } := by
  unfold Window.enter
  rw [hc, hm]
  exact if_neg (Nat.not_le.mpr hn)

/-- Completion is tested first (R53). -/
theorem entryEnding_complete_iff : w.entryEnding = some .complete ↔ w.size ≤ w.used := by
  unfold Window.entryEnding
  split
  next h => exact iff_of_true rfl h
  next h =>
    refine iff_of_false ?_ h
    split <;> exact nofun

/-- Poor servo, the window not complete (R54). -/
theorem entryEnding_poorServo_iff : w.entryEnding = some .poorServo ↔ w.used < w.size ∧ w.size / 4 < w.miss + w.wild := by
  unfold Window.entryEnding
  split
  next h => exact iff_of_false nofun fun k => absurd h (Nat.not_le.mpr k.1)
  next h =>
    split
    next hp => exact iff_of_true rfl ⟨Nat.not_le.mp h, hp⟩
    next hp => exact iff_of_false nofun fun k => hp k.2

/-- Settles O33: the classes that only count are the arms of `Window.enter`; GOOD is `enter_near` or `enter_far`, and the
endings are `entryEnding_complete_iff` and `entryEnding_poorServo_iff`. -/
theorem windowEntriesByClass : Obligations.WindowEntriesByClass := by
  intro w head mark m p slip
  exact ⟨rfl, rfl, rfl, rfl, enter_near rfl rfl, enter_far rfl rfl, entryEnding_complete_iff, entryEnding_poorServo_iff⟩

/-! ## The entry that completes a window -/

/-- A GOOD record within 127 tracks that brings used to W ends the window COMPLETE (R53). -/
theorem enterRecord_completes (hc : r.cls = .good) (hm : r.mark = some m) (hn : ((m.track : Int) - w.track).natAbs ≤ 127)
    (hu : w.size ≤ w.used + 1) :
    s.enterRecord w r = ((s.setWindow (some (w.taking m r.pes))).closeWindow (w.taking m r.pes) .complete, false) := by
  have hkeep : w.reclassifies r = false := by
    unfold Window.reclassifies
    rw [hm, Option.any_some, decide_eq_true hn, Bool.not_true, Bool.and_false]
  have hend : (w.taking m r.pes).entryEnding = some .complete := entryEnding_complete_iff.mpr hu
  unfold State.enterRecord
  dsimp only
  rw [hkeep, enter_near hc hm hn, if_neg Bool.false_ne_true, if_neg (by rw [hc]; exact SectorClass.noConfusion), hend]

/-- The measured head's record completes an anchor-only window (R49, R53). -/
theorem windowRecord_completes_anchor (hw : s.window = some w) (ha : w.anchorOnly = true) (hh : r.head = w.head)
    (hc : r.cls = .good) (hm : r.mark = some m) (hn : ((m.track : Int) - w.track).natAbs ≤ 127) (hu : w.size ≤ w.used + 1) :
    s.windowRecord r = (s.setWindow (some (w.taking m r.pes))).closeWindow (w.taking m r.pes) .complete := by
  unfold State.windowRecord
  rw [hw]
  dsimp only
  rw [if_pos ha, if_pos hh, enterRecord_completes hc hm hn hu]

/-- The measured head's record completes an ordinary window in PROBE_VISIT (R47, R53). -/
theorem windowRecord_completes_visit (hw : s.window = some w) (ho : w.anchorOnly = false) (hp : w.probing = true)
    (hh : r.head = w.head) (hc : r.cls = .good) (hm : r.mark = some m) (hn : ((m.track : Int) - w.track).natAbs ≤ 127)
    (hu : w.size ≤ w.used + 1) :
    s.windowRecord r = (s.setWindow (some (Window.taking { w with pos := w.pos + 1 } m r.pes))).closeWindow
      (Window.taking { w with pos := w.pos + 1 } m r.pes) .complete := by
  rw [windowRecord_of_visit hw ho hp]
  unfold State.visitRecord
  dsimp only
  rw [if_pos hh, enterRecord_completes (w := { w with pos := w.pos + 1 }) hc hm hn hu]

end Sys2Proof.Machine
end

section
/-! PROOF. A window of the RUNNING job that ends, and what its head-zone makes of the report (R58, R107, R112, R113, R116,
R117). -/

namespace Sys2Proof.Machine

variable {s t v y z : State} {j : Job} {c : Cursor} {f : Figures} {head zone : Nat} {w : Window} {e : WindowEnding}
  {r : WindowReport} {q : Result} {p : Phase} {k : Option Cursor}

/-! ## The end of the arrival in which the last job finishes -/

/-- An unload with no job leaves the head map (R38, R39). -/
theorem beginUnload_hmp (hr : s.running = none) (hl : s.pos.act.isLoaded = true) (x : UnloadCause) :
    (s.beginUnload x).hmp = s.hmp := by
  obtain ⟨u, hu, hunload⟩ := beginUnload_moved s hr hl x
  rw [hunload]
  split
  · obtain ⟨ms, -, hpark⟩ := arrivePark_eq (u.setBlk (s.blk.unloadBegunBy x)) false
      (by rw [State.setBlk_pos, hu.reads.1]; rfl)
    rw [hpark]
    exact hu.hmp
  · exact hu.hmp

/-- Without jobs the rest test leaves the head map. -/
theorem restTest_hmp (h : s.running = none) : s.restTest.hmp = s.hmp := by
  rcases restTest_cases s with hsame | ⟨hact, hunload⟩
  · rw [hsame]
  · rw [hunload, beginUnload_hmp h (by rw [hact]; rfl)]

/-- Without jobs the reports of an arrival leave the Job Controller's own state and the head map, and open no window. -/
theorem drain_emptied (h : s.jct.table = []) (n : Nat) : (s.drain n).jct = s.jct ∧ (s.drain n).hmp = s.hmp ∧
    (s.window = none → (s.drain n).window = none) := by
  induction n generalizing s with
  | zero => exact ⟨rfl, rfl, id⟩
  | succ n ih =>
    cases hi : s.inbox with
    | nil => rw [drain_of_nil hi]; exact ⟨rfl, rfl, id⟩
    | cons m ms =>
      rw [drain_cons hi]
      by_cases hm : m = .restTest
      · subst hm
        have hmotion : Motion (s.setInbox ms) (s.setInbox ms).restTest := restTest_motion _
        obtain ⟨hjct, hmap, hwindow⟩ := ih (s := (s.setInbox ms).restTest) (by rw [hmotion.jct]; exact h)
        refine ⟨hjct.trans hmotion.jct, hmap.trans (restTest_hmp (s := s.setInbox ms) (running_noJobs h)), fun hw =>
          hwindow (Option.eq_none_iff_forall_ne_some.mpr fun x hx => ?_)⟩
        obtain ⟨x', hx', -⟩ := hmotion.window_head x hx
        rw [show (s.setInbox ms).window = none from hw] at hx'
        cases hx'
      · rw [jctTake_noJobs (s := s.setInbox ms) h hm]
        exact ih (s := s.setInbox ms) h

/-- An arrival whose first report finishes the last job (R103, R160). -/
theorem finish_emptied {m : JctMsg} {ms : List JctMsg} (hi : y.inbox = m :: ms) (hz : (y.setInbox ms).jctTake m = z)
    (ht : z.jct.table = []) : y.finish.jct = z.jct ∧ y.finish.hmp = z.hmp ∧
      (z.window = none → y.finish.window = none) ∧ (z.blk.events.jobEnd = true → y.finish.blk.events.jobEnd = true) := by
  have hd : y.drain Config.drainFuel = z.drain 65535 := by
    show y.drain (65535 + 1) = _
    rw [drain_cons hi, hz]
  obtain ⟨hjct, hmap, hwindow⟩ := drain_emptied ht 65535
  obtain ⟨x, ws, hx⟩ := transmit_frame (z.drain 65535)
  have hf : y.finish = _ := (congrArg State.transmit hd).trans hx
  rw [hf]
  exact ⟨hjct, hmap, hwindow, (drain_carries z 65535).raised .jobEnd⟩

/-! ## The last head-zone of the only job (R107, R117) -/

/-- `v` is `s` in the part of its RUNNING job `j`, the only one, but for the cursor, at its only head-zone with no measurement
under way. -/
structure AtLast (s : State) (j : Job) (head zone : Nat) (v : State) : Prop where
  running : ∃ k, v.running = some { j with cursor := k } ∧ OnlyHeadZone v { j with cursor := k } head zone
  unmeasured : v.Unmeasured
  map : v.hmp = s.hmp
  finished : v.jct.finished = s.jct.finished

/-- The last head-zone ends with its entry: the job finishes, DONE or with a fault DONE_PARTIAL (R103, R107, R117). -/
theorem AtLast.endWith (h : AtLast s j head zone v) (c : Cursor) (f : Figures) (q : Result) :
    EndedWith s j head zone q (v.endWith ⟨j, c, f, head, zone⟩ q) ∧ (v.endWith ⟨j, c, f, head, zone⟩ q).window = none := by
  obtain ⟨k, hr, ho⟩ := h.running
  refine ⟨?_, (endWith_still _ q h.unmeasured.window).2.1⟩
  have hadvance : v.endWith ⟨j, c, f, head, zone⟩ q =
      (v.entered { j with cursor := k } head zone q).finishActive (finalOf (countsWith j.counts q)) none := by
    show (v.entered { j with cursor := k } head zone q).advance ⟨j, c, f, head, zone⟩ = _
    unfold State.advance
    rw [if_neg (by show ¬c.head + 1 < j.heads.length; rw [show j.heads = [head] from ho.heads]; simp),
      if_neg (by rw [show (v.entered _ head zone q).jct.zoneFailed = false from ho.sound]; decide)]
    unfold State.nextZone
    rw [if_neg (by show ¬c.zone + 1 < j.zones.length; rw [show j.zones = [zone] from ho.zones]; simp),
      active_entered hr, countResult_eq]
    rfl
  obtain ⟨z, hz, -, hfin⟩ := entered_finishes (head := head) (zone := zone) hr h.unmeasured ho.table q
    (finalOf (countsWith j.counts q)) none
  rw [hadvance, hz]
  refine ⟨hfin.table, hfin.working.trans (by rw [h.map]), ?_, ?_, hfin.event⟩
  · rw [← h.map]
    exact hfin.map
  · rw [← h.finished]
    exact hfin.record

/-- The head-zone in COMPUTE, nothing awaited. -/
theorem AtLast.compute (h : AtLast s j head zone v) : AtLast s j head zone ((v.enterPhase .compute).await none none) := by
  obtain ⟨k, hr, ho⟩ := h.running
  have hrun : ((v.enterPhase .compute).await none none).running =
      some { j with cursor := k.map fun c => { c with phase := .compute } } := running_onCursor hr _
  refine ⟨⟨_, hrun, ?_, ho.heads, ho.zones, ho.sound⟩, ⟨h.unmeasured.window, ?_⟩, h.map, h.finished⟩
  · show v.jct.table.map _ = _
    rw [ho.table, List.map_cons, List.map_nil, if_pos (isActive_of_running (active_of_running hr).2)]
    rfl
  · unfold State.runningPhase
    rw [hrun]
    cases k <;> exact nofun

/-! ## The report (R58) -/

/-- `y` is `s` where the open window of the attempt in flight has ended with the report `r`. -/
structure WindowEnds (s y : State) (r : WindowReport) : Prop where
  inbox : y.inbox = [.windowEnded r s.jct.attempt]
  jct : y.jct = s.jct
  map : y.hmp = s.hmp
  prof : y.prof = s.prof
  gate : y.gcu = s.gcu
  window : y.window = none
  act : y.pos.act = s.pos.act
  target : y.pos.target = s.pos.target
  spindle : y.pos.spindle = s.pos.spindle ∧ y.pos.spinDownPending = s.pos.spinDownPending

/-- All that a reported ending does (R58). -/
theorem closeWindow_reported (he : e.reported = true) :
    ∃ n m, s.closeWindow w e = (s.moved s.pos none n m).tells [.windowEnded (w.report e) w.attempt] := by
  obtain ⟨m, hm⟩ := takeHeadChange_eq (s.setFlc { s.flc with engineHead := s.prof.anchor }) s.drivenHead
  unfold State.closeWindow
  dsimp only
  rw [if_pos he]
  cases w.probing with
  | false => exact ⟨s.flc.engineHead, s.sdc.marker, rfl⟩
  | true =>
    refine ⟨s.prof.anchor, m, ?_⟩
    rw [if_pos rfl, show s.selectHead s.prof.anchor = _ from hm]
    rfl

/-- A window of the attempt in flight ends. -/
theorem closeWindow_ends (hi : s.inbox = []) (ha : w.attempt = s.jct.attempt) (he : e.reported = true) :
    WindowEnds s (s.closeWindow w e) (w.report e) := by
  obtain ⟨n, m, hclose⟩ := closeWindow_reported (s := s) (w := w) he
  rw [hclose, ha]
  exact ⟨by rw [State.tells_inbox, show (s.moved s.pos none n m).inbox = [] from hi, List.nil_append], rfl, rfl, rfl, rfl, rfl,
    rfl, rfl, rfl, rfl⟩

/-- WINDOW_TIMEOUT with the revolution count one below the limit (R55). -/
theorem windowTimeout_ends (hi : s.inbox = []) (hw : s.window = some w) (hl : w.revs + 1 = w.limit)
    (ha : w.attempt = s.jct.attempt) : ∃ y, exec .windowTimeout s = .next y.finish ∧ Carries s y ∧
      WindowEnds s y (Window.report { w with revs := w.revs + 1 } .timeout) := by
  have hclose : s.windowTimeout = s.closeWindow { w with revs := w.revs + 1 } .timeout := by
    unfold State.windowTimeout State.windowIndex
    rw [hw]
    dsimp only
    rw [if_pos hl.ge, if_pos hl.ge]
  refine ⟨s.windowTimeout, rfl, ?_, ?_⟩
  · rw [hclose]
    exact closeWindow_carries _ _ _
  · rw [hclose]
    exact closeWindow_ends hi ha rfl

section
variable (h : WindowEnds s y r)
include h

theorem WindowEnds.running (hr : s.running = some j) : (y.setInbox []).running = some j := by
  unfold State.running State.active
  rw [State.setInbox_jct, h.jct]
  exact hr

/-- The head-zone that awaits the window takes its report (R112, R113, R115). -/
theorem WindowEnds.take (hr : s.running = some j) (hj : j.At c f head zone) (haw : s.jct.ctx.await = some .window) :
    (y.setInbox []).jctTake (.windowEnded r s.jct.attempt) =
      if j.kind = .qualify then (y.setInbox []).takeQualify ⟨j, c, f, head, zone⟩ r
      else (y.setInbox []).takeSpan ⟨j, c, f, head, zone⟩ r := by
  have hans := answers_of (s := y.setInbox []) (h.running hr) (by rw [State.setInbox_jct, h.jct]; exact haw) .window
  rw [State.setInbox_jct, h.jct] at hans
  show (y.setInbox []).takeWindow r s.jct.attempt = _
  unfold State.takeWindow
  rw [here_of (h.running hr) hj, hans]
  rfl

theorem WindowEnds.unmeasured (hp : s.runningPhase = some p) (hs : p.isSkew = false) : (y.setInbox []).Unmeasured := by
  refine ⟨h.window, ?_⟩
  unfold State.runningPhase State.running State.active
  rw [State.setInbox_jct, h.jct]
  show s.runningPhase.map Phase.isSkew ≠ some true
  rw [hp, Option.map_some, hs]
  decide

/-- At the only head-zone of the only job. -/
theorem WindowEnds.atLast (hr : s.running = some j) (ho : OnlyHeadZone s j head zone) (hp : s.runningPhase = some p)
    (hs : p.isSkew = false) : AtLast s j head zone (y.setInbox []) := by
  refine ⟨⟨j.cursor, h.running hr, ?_, ho.heads, ho.zones, ?_⟩, h.unmeasured hp hs, h.map, ?_⟩
  · rw [State.setInbox_jct, h.jct]; exact ho.table
  · rw [State.setInbox_jct, h.jct]; exact ho.sound
  · rw [State.setInbox_jct, h.jct]

/-- A report that brings the last head-zone its entry ends the job (R103, R117). -/
theorem WindowEnds.ended (hv : AtLast s j head zone v)
    (ht : (y.setInbox []).jctTake (.windowEnded r s.jct.attempt) = v.endWith ⟨j, c, f, head, zone⟩ q) :
    EndedWith s j head zone q y.finish ∧ y.finish.window = none := by
  obtain ⟨hend, hwindow⟩ := hv.endWith c f q
  obtain ⟨hjct, hmap, hclosed, hevent⟩ := finish_emptied h.inbox ht hend.table
  refine ⟨⟨by rw [hjct]; exact hend.table, by rw [hmap]; exact hend.working, ?_, by rw [hjct]; exact hend.record,
    hevent hend.event⟩, hclosed hwindow⟩
  rw [hmap]
  exact hend.map

/-- A report that fails a head-zone with a retry left starts it again (R116). -/
theorem WindowEnds.retried (hm : MeasureUnderWay s j c f head zone p) (ha : s.pos.act = .following)
    (ht : (y.setInbox []).jctTake (.windowEnded r s.jct.attempt) = (y.setInbox []).retry) : RetriedFrom s j c y.finish := by
  let v := (y.setInbox []).retry.setInbox []
  have hv : v.running = some { j with cursor := some { c with retries := c.retries + 1, phase := .prepare } } :=
    running_retry (s := y.setInbox []) (h.running hm.running) hm.cursor
  have hat : Job.At { j with cursor := some { c with retries := c.retries + 1, phase := .prepare } }
      { c with retries := c.retries + 1, phase := .prepare } f head zone := ⟨rfl, hm.figures, hm.atHead, hm.atZone⟩
  have hact : v.pos.act = .following := h.act.trans ha
  obtain ⟨⟨_, _, _, hreach⟩, hord, hidle⟩ := zoneSeek_reaches (s := v) (x := ⟨_, _, f, head, zone⟩) hv hat hact h.window
    rfl rfl rfl rfl
  have hprep := prepare_following (s := v) hv hat rfl ⟨h.spindle.1.trans hm.spindle.1, h.spindle.2.trans hm.spindle.2⟩ hact
  obtain ⟨x, ws, hf⟩ := finish_prepared h.inbox ht rfl hprep hord (hidle rfl)
  rw [hf]
  refine ⟨⟨_, hreach.running, rfl, rfl, rfl⟩, hreach.await.2.trans ?_, hreach.kept.1.trans h.map, hreach.kept.2.trans ?_⟩
  · show y.jct.attempt + 1 = _
    rw [h.jct]
  · show y.jct.finished = _
    rw [h.jct]

/-- A report that is a head-zone failure: a retry, or with the retries spent the entry (R116). -/
theorem WindowEnds.failed {why : Reason} (hm : MeasureUnderWay s j c f head zone p) (hs : p.isSkew = false)
    (ha : s.pos.act = .following)
    (ht : (y.setInbox []).jctTake (.windowEnded r s.jct.attempt) =
      (y.setInbox []).failHead ⟨j, c, f, head, zone⟩ why) : HeadFailed s j c head zone why y.finish := by
  have hretries : (y.setInbox []).prof.retries = s.prof.retries := congrArg Profile.retries h.prof
  unfold State.failHead at ht
  rw [hretries] at ht
  refine ⟨fun hret => h.retried hm ha (ht.trans (if_pos hret)), fun hret ho => ?_⟩
  rw [if_neg (Nat.not_lt.mpr hret), faultEntry_eq] at ht
  exact (h.ended (h.atLast hm.running ho hm.runningPhase hs) ht).1

/-- A QUALIFY head-zone, the only one of the only job, ends with the qualification of the report (R112). -/
theorem WindowEnds.qualified {x : QualifyResult} (hr : s.running = some j) (hj : j.At c f head zone)
    (haw : s.jct.ctx.await = some .window) (ho : OnlyHeadZone s j head zone) (hp : s.runningPhase = some p)
    (hs : p.isSkew = false) (hk : j.kind = .qualify) (hx : qualification s.prof r = some x) :
    EndedWith s j head zone (.qualify x) y.finish ∧ y.finish.window = none := by
  refine h.ended (c := c) (f := f) (h.atLast hr ho hp hs).compute ((h.take hr hj haw).trans ?_)
  rw [if_pos hk]
  unfold State.takeQualify
  rw [show (y.setInbox []).prof = s.prof from h.prof, hx]

/-- A SPAN head-zone in COLLECT_2, the only one of the only job, ends with the span computation of both reports (R113). -/
theorem WindowEnds.spanned {x : WindowReport} (hm : MeasureUnderWay s j c f head zone .collect2)
    (haw : s.jct.ctx.await = some .window) (ho : OnlyHeadZone s j head zone) (hk : j.kind = .span)
    (hc : r.ending = .complete) (hx : s.jct.ctx.firstReport = some x) :
    EndedWith s j head zone (.span (spanComputation s.prof x r)) y.finish := by
  refine (h.ended (c := c) (f := f) (h.atLast hm.running ho hm.runningPhase rfl).compute
    ((h.take hm.running hm.at haw).trans ?_)).1
  rw [if_neg (by rw [hk]; decide)]
  unfold State.takeSpan
  rw [hc, if_pos rfl]
  dsimp only [WindowEnding.failure]
  rw [if_neg (by rw [hm.phase]; decide), State.setInbox_jct, h.jct, hx, show (y.setInbox []).prof = s.prof from h.prof]

end

end Sys2Proof.Machine
end

section
/-! PROOF. The jog to the second jog point, the record that completes a window, and the obligation on windows (R46 to R53, R112,
R113). -/

namespace Sys2Proof.Machine

variable {s t v y : State} {j : Job} {c : Cursor} {f : Figures} {head zone n : Nat} {w : Window} {r : SectorRecord}
  {x : WindowReport} {m : Mark} {p : Phase} {sector : BitVec 10} {code : BitVec 18} {e o : BitVec 12} {ticks : Nat}

/-! ## COLLECT_1 ended COMPLETE (R113) -/

/-- A jog order from FOLLOWING leaves the first window report. -/
theorem jogTo_firstReport (ha : s.pos.act = .following) (hu : s.Unmeasured) (h : Here) (offset : Int) :
    (s.jogTo h p offset).jct.ctx.firstReport = s.jct.ctx.firstReport := by
  have hjct := (startJog_drove hu (by rw [ha]; decide) offset s.jobOwner).reads.2.2.1
  unfold State.jogTo State.takeJog
  rw [if_pos ha]
  show (s.startJog offset s.jobOwner).jct.ctx.firstReport = _
  rw [hjct]

/-- A SPAN head-zone in COLLECT_1 keeps the report and jogs to o2 (R113). -/
theorem WindowEnds.jogs (h : WindowEnds s y x) (hm : MeasureUnderWay s j c f head zone .collect1)
    (haw : s.jct.ctx.await = some .window) (ha : s.pos.act = .following) (hk : j.kind = .span) (hx : x.ending = .complete) :
    PhaseReached s j c .jog2 c.failedZones .jog y.finish ∧ JogUnderWay s f.o2 y.finish ∧
      y.finish.jct.ctx.firstReport = some x := by
  let v := (y.setInbox []).setCtx { (y.setInbox []).jct.ctx with firstReport := some x }
  have htake : (y.setInbox []).jctTake (.windowEnded x s.jct.attempt) = v.jogTo ⟨j, c, f, head, zone⟩ .jog2 f.o2 := by
    rw [h.take hm.running hm.at haw, if_neg (by rw [hk]; decide)]
    unfold State.takeSpan
    rw [hx]
    dsimp only [WindowEnding.failure]
    rw [if_pos rfl, if_pos hm.phase]
  have hact : v.pos.act = .following := h.act.trans ha
  have hu := h.unmeasured hm.runningPhase rfl
  have hatt : v.jct.attempt = s.jct.attempt := by
    show y.jct.attempt = _
    rw [h.jct]
  obtain ⟨hreach, hobeys, hjog⟩ := jogTo_reaches (s := v) (p := .jog2) (h.running hm.running) hm.cursor hact
    ⟨hu.window, hu.skew⟩ ⟨j, c, f, head, zone⟩ f.o2
  have hfirst := jogTo_firstReport (s := v) (p := .jog2) hact ⟨hu.window, hu.skew⟩ ⟨j, c, f, head, zone⟩ f.o2
  obtain ⟨b, ws, hf⟩ := finish_ordered h.inbox htake (hobeys.ordered (by decide) (by decide)) (hobeys.idle rfl)
  obtain ⟨hsettling, htarget, hoffset, hdue, hmove, hclosed⟩ := hjog
  rw [hf]
  refine ⟨⟨hreach.running, ⟨hreach.await.1, hreach.await.2.trans hatt⟩, hreach.kept.1.trans h.map, hreach.kept.2.trans ?_⟩,
    ⟨hsettling, htarget.trans h.target, hoffset, ?_, ?_, hclosed⟩, hfirst⟩
  · show y.jct.finished = _
    rw [h.jct]
  · rw [show v.prof = s.prof from h.prof] at hdue
    exact hdue
  · rw [hatt] at hmove
    exact hmove

/-! ## A GOOD record of the measured head (R46 to R53) -/

/-- A slot with a GOOD mark, the recovery marker clear, has a record of the driven head with that mark (R4, R10). -/
theorem formRecord_good (hm : s.sdc.marker = false) (hg : GoodMark s sector code e o m) (n : Nat) :
    (formRecord (s.atTick n) (markOf s.prof.sectors sector code e o)).cls = .good ∧
      (formRecord (s.atTick n) (markOf s.prof.sectors sector code e o)).mark = some m ∧
      (formRecord (s.atTick n) (markOf s.prof.sectors sector code e o)).pes = pesOf m := by
  have hc : classify s.prof s.sdc.marker (markOf s.prof.sectors sector code e o) = .good := by
    rw [hm, hg.mark]
    unfold classify
    dsimp only
    rw [if_neg Bool.false_ne_true, if_neg (Nat.not_lt.mpr hg.track), if_neg (Nat.not_lt.mpr hg.amplitude)]
  refine ⟨hc, hg.mark, ?_⟩
  show (if classify s.prof s.sdc.marker (markOf s.prof.sectors sector code e o) = .good then _ else _) = _
  rw [if_pos hc, hg.mark]
  rfl

/-- What the Positioner keeps when it takes a record without leaving FOLLOWING. -/
structure Pos.Keeps (p q : Pos) : Prop where
  act : q.act = p.act
  target : q.target = p.target
  spindle : q.spindle = p.spindle ∧ q.spinDownPending = p.spinDownPending

/-- A GOOD record of the anchor that does not end the off-track run at OT_COUNT keeps FOLLOWING (R31). -/
theorem servoRecord_keeps (hr : AnchorGood s m r) (ha : s.pos.act = .following) (ho : s.pos.otRun + 1 < s.prof.otCount) :
    ∃ q, s.servoRecord r = s.setPos q ∧ s.pos.Keeps q := by
  rw [servoRecord_ofFollowing hr.head ha (by rw [hr.cls]; decide), followingRecord_good hr, if_neg (Nat.not_le.mpr ho)]
  split
  · exact ⟨_, rfl, rfl, rfl, rfl, rfl⟩
  · exact ⟨_, rfl, rfl, rfl, rfl, rfl⟩

/-- The measured head's record reaches its window: of the anchor in an anchor-only window, which FOLLOWING outlasts, or of
another head in PROBE_VISIT (R46, R47, R49). -/
def State.Measures (s : State) (w : Window) : Prop :=
  (w.anchorOnly = true ∧ s.drivenHead = w.head ∧ w.head = s.prof.anchor ∧ s.pos.otRun + 1 < s.prof.otCount) ∨
    (w.anchorOnly = false ∧ w.probing = true ∧ s.drivenHead = w.head ∧ w.head ≠ s.prof.anchor)

/-- `w` with the GOOD record of the mark `m` entered by its kind of window: an ordinary one also counts the record of the visit. -/
def Window.completed (w : Window) (m : Mark) : Window :=
  Window.taking { w with pos := if w.anchorOnly then w.pos else w.pos + 1 } m (pesOf m)

/-- A slot with a GOOD mark whose delivery, but for the gate, leaves `y`. -/
theorem slotEndMark_of_window (hslot : s.sdc.slotDue.isSome = true) (hs : s.awaitsSwitch = false)
    (hn : s.pos.indexRef.getD s.now + ticks = n) (hf : formRecord (s.atTick n) (markOf s.prof.sectors sector code e o) = r)
    (hy : (((s.atTick n).endSlot r n).servoRecord r).windowRecord r = y) (hg : y.gcu.state = .idle) :
    exec (.slotEndMark sector code e o ticks) s = .next y.finish := by
  have hdeliver : (s.atTick n).deliver r n = y := by
    unfold State.deliver
    dsimp only
    rw [hy, gateRecord_of_idle hg, if_neg fun k => by rw [show (s.atTick n).awaitsSwitch = false from hs] at k; cases k.1]
  obtain ⟨d, hd⟩ := Option.isSome_iff_exists.mp hslot
  rw [← hdeliver, ← hf, ← hn]
  show arrival (s.endWithMark sector code e o (s.afterIndex ticks)) = _
  unfold State.endWithMark
  rw [hd]
  rfl

/-- A GOOD record of the measured head within 127 tracks that brings used to W ends the window COMPLETE (R50, R53). -/
theorem slotEndMark_completes (hi : s.inbox = []) (hw : s.window = some w) (hatt : w.attempt = s.jct.attempt)
    (ha : s.pos.act = .following) (hgate : s.gcu.state = .idle) (hslot : s.sdc.slotDue.isSome = true)
    (hm : s.sdc.marker = false) (hs : s.awaitsSwitch = false) (hg : GoodMark s sector code e o m)
    (hn : ((m.track : Int) - w.track).natAbs ≤ 127) (hu : w.size ≤ w.used + 1) (hmeas : s.Measures w) :
    ∃ y, exec (.slotEndMark sector code e o ticks) s = .next y.finish ∧
      WindowEnds s y ((w.completed m).report .complete) := by
  obtain ⟨hcls, hmark, hpes⟩ := formRecord_good hm hg (s.pos.indexRef.getD s.now + ticks)
  generalize hN : s.pos.indexRef.getD s.now + ticks = N at hcls hmark hpes
  have hhead : (formRecord (s.atTick N) (markOf s.prof.sectors sector code e o)).head = s.drivenHead := rfl
  generalize hr : formRecord (s.atTick N) (markOf s.prof.sectors sector code e o) = r at hcls hmark hpes hhead
  let v := (s.atTick N).endSlot r N
  obtain ⟨q, hq, hkeeps, hwin⟩ : ∃ q, v.servoRecord r = v.setPos q ∧ s.pos.Keeps q ∧ (v.setPos q).windowRecord r =
      ((v.setPos q).setWindow (some (w.completed m))).closeWindow (w.completed m) .complete := by
    unfold Window.completed
    rcases hmeas with ⟨hanchor, hdriven, hh, hot⟩ | ⟨hord, hprobing, hdriven, hh⟩
    · obtain ⟨q, hq, hkeeps⟩ := servoRecord_keeps (s := v) ⟨hhead.trans (hdriven.trans hh), hmark, hcls, hpes⟩ ha hot
      rw [if_pos hanchor, ← hpes]
      exact ⟨q, hq, hkeeps, windowRecord_completes_anchor (by exact hw) hanchor (hhead.trans hdriven) hcls hmark hn hu⟩
    · rw [if_neg (by rw [hord]; decide), ← hpes]
      exact ⟨s.pos, servoRecord_of_other (s := v) (by rw [hhead, hdriven]; exact hh), ⟨rfl, rfl, rfl, rfl⟩,
        windowRecord_completes_visit (by exact hw) hord hprobing (hhead.trans hdriven) hcls hmark hn hu⟩
  have hends := closeWindow_ends (s := (v.setPos q).setWindow (some (w.completed m))) (w := w.completed m) (e := .complete)
    hi hatt rfl
  refine ⟨_, slotEndMark_of_window hslot hs hN hr (by rw [show (s.atTick N).endSlot r N = v from rfl, hq, hwin])
    (by rw [hends.gate]; exact hgate), ?_⟩
  exact ⟨hends.inbox, hends.jct, hends.map, hends.prof, hends.gate, hends.window, hends.act.trans hkeeps.act,
    hends.target.trans hkeeps.target, hends.spindle.1.trans hkeeps.spindle.1, hends.spindle.2.trans hkeeps.spindle.2⟩

/-- Out of GATE_P no switch point is waited for (R91). -/
theorem awaitsSwitch_of_phase (h : s.runningPhase = some p) (hp : p ≠ .gateP) : s.awaitsSwitch = false := by
  unfold State.awaitsSwitch
  rw [h, beq_eq_false_iff_ne.mpr fun k => hp (Option.some.inj k)]
  rfl

/-! ## The obligation -/

/-- WINDOW_TIMEOUT of a QUALIFY job's only head-zone (R55, R74, R76, R112). -/
theorem windowTimeout_qualify (hi : s.inbox = []) (hw : s.window = some w) (hl : w.revs + 1 = w.limit)
    (hatt : w.attempt = s.jct.attempt) (hr : s.running = some j) (hj : j.At c f head zone) (hc : c.phase = .collect)
    (ho : OnlyHeadZone s j head zone) (hk : j.kind = .qualify) (haw : s.jct.ctx.await = some .window) :
    ∃ t, exec .windowTimeout s = .next t ∧ MotionFrame s t ∧ t.window = none ∧
      EndedWith s j head zone (.qualify (.fail .timeout (qualFigures w))) t := by
  obtain ⟨y, hexec, hcarries, hends⟩ := windowTimeout_ends hi hw hl hatt
  obtain ⟨hended, hclosed⟩ := hends.qualified hr hj haw ho (runningPhase_of hr hj.cursor) (by rw [hc]; rfl) hk rfl
  exact ⟨_, hexec, hcarries.finish, hclosed, hended⟩

/-- WINDOW_TIMEOUT of a SPAN job's window is a head-zone failure (R55, R113, R116). -/
theorem windowTimeout_span (h : MeasureUnderWay s j c f head zone c.phase) (hc : c.phase = .collect1 ∨ c.phase = .collect2)
    (hw : s.window = some w) (hl : w.revs + 1 = w.limit) (hatt : w.attempt = s.jct.attempt) (ha : s.pos.act = .following)
    (hk : j.kind = .span) (haw : s.jct.ctx.await = some .window) :
    ∃ t, exec .windowTimeout s = .next t ∧ HeadFailed s j c head zone .timeout t := by
  obtain ⟨y, hexec, -, hends⟩ := windowTimeout_ends h.inbox hw hl hatt
  refine ⟨_, hexec, hends.failed h (by rcases hc with k | k <;> rw [k] <;> rfl) ha ?_⟩
  rw [hends.take h.running h.at haw, if_neg (by rw [hk]; decide)]
  rfl

/-- Settles O31: the window ends (`windowTimeout_ends`, `slotEndMark_completes`), and the Job Controller takes its report
(`WindowEnds`). -/
theorem windowTimeoutFailsTheHeadZone : Obligations.WindowTimeoutFailsTheHeadZone := by
  unfold Obligations.WindowTimeoutFailsTheHeadZone
  intro s j w h z r k sector code e o ticks m c f y
  refine ⟨fun hi hw hl hatt htable hstate hkind hheads hzones hcursor hfigures haw hsound => ?_,
    fun hm haw hw hh hatt ha hgate => ⟨fun hc hk hl => windowTimeout_span hm hc hw hl hatt ha hk haw,
      fun hslot hmark hg hn hu hmeas hend hwin hmean => ?_⟩⟩
  · obtain ⟨g, hg⟩ := Option.isSome_iff_exists.mp hfigures
    have hrun : s.running = some j := by
      unfold State.running State.active
      rw [htable, List.find?_cons_of_pos (isActive_of_running hstate)]
      exact if_pos hstate
    obtain ⟨t, hexec, hframe, hclosed, hended⟩ := windowTimeout_qualify (f := g) (head := h) (zone := z) hi hw hl hatt hrun
      ⟨hcursor, hg, by rw [hheads]; rfl, by rw [hzones]; rfl⟩ rfl ⟨htable, hheads, hzones, hsound⟩ hkind haw
    have hrecord := hended.record
    rw [← joinFinished_eq, hkind] at hrecord
    exact ⟨t, hexec, hclosed, hended.table, hended.working, hended.map.1, hended.map.2.1, hrecord, hended.event, hframe.now,
      hframe.chm, hframe.pst⟩
  · have hreport : y = (w.completed m).report .complete := by
      cases y
      dsimp only at hend hwin hmean
      subst hend hwin hmean
      rfl
    have hout : ∀ {p : Phase}, c.phase = p → p ≠ .gateP → ∃ u, exec (.slotEndMark sector code e o ticks) s = .next u.finish ∧
        WindowEnds s u y := fun hp hne => by
      subst hh
      rw [hreport]
      exact slotEndMark_completes hm.inbox hw hatt ha hgate hslot hmark
        (awaitsSwitch_of_phase hm.runningPhase (by rw [hp]; exact hne)) hg hn hu hmeas
    refine ⟨fun q hk hp ho hq => ?_, fun hk hp => ?_, fun x hk hp ho hx => ?_⟩
    · obtain ⟨u, hexec, hends⟩ := hout hp (by decide)
      exact ⟨_, hexec, (hends.qualified hm.running hm.at haw ho hm.runningPhase (by rw [hp]; rfl) hk hq).1⟩
    · obtain ⟨u, hexec, hends⟩ := hout hp (by decide)
      exact ⟨_, hexec, hends.jogs (hp ▸ hm) haw ha hk hend⟩
    · obtain ⟨u, hexec, hends⟩ := hout hp (by decide)
      exact ⟨_, hexec, hends.spanned (hp ▸ hm) haw ho hk hend hx⟩

end Sys2Proof.Machine
end

section
/-! PROOF. The arithmetic of spans, qualification and skew (R63 to R76, R95, R96). -/

namespace Sys2Proof.Machine

/-! ## The two divisions of R63 -/

/-- The magnitude of the rounded quotient. -/
theorem roundDiv_natAbs (n : Int) (d : Nat) :
    (roundDiv n d).natAbs = n.natAbs / d + (if d ≤ 2 * (n.natAbs % d) then 1 else 0) := by
  have hmag : ∀ m : Nat, (if n < 0 then -(m : Int) else m).natAbs = m := fun m => by split <;> simp
  unfold roundDiv
  rw [hmag]
  split <;> rfl

theorem roundDiv_nonneg {n : Int} (h : 0 ≤ n) (d : Nat) : 0 ≤ roundDiv n d := by
  unfold roundDiv
  rw [if_neg (by omega)]
  exact Int.natCast_nonneg _

theorem roundDiv_nonpos {n : Int} {d : Nat} (hd : 0 < d) (h : n ≤ 0) : roundDiv n d ≤ 0 := by
  rcases Int.lt_or_eq_of_le h with hn | rfl
  · unfold roundDiv
    rw [if_pos hn]
    omega
  · have hzero : (roundDiv 0 d).natAbs = 0 := by
      rw [roundDiv_natAbs]
      simp [hd.ne']
    omega

/-- The rounded quotient is a nearest one. -/
theorem roundDiv_nearest (n : Int) {d : Nat} (hd : 0 < d) : 2 * (roundDiv n d * d - n).natAbs ≤ d := by
  have hdiv : d * (n.natAbs / d) + n.natAbs % d = n.natAbs := Nat.div_add_mod _ _
  have hmod : n.natAbs % d < d := Nat.mod_lt _ hd
  have hmag : (roundDiv n d * d).natAbs = d * (n.natAbs / d) + if d ≤ 2 * (n.natAbs % d) then d else 0 := by
    rw [Int.natAbs_mul, roundDiv_natAbs, Int.natAbs_natCast, Nat.add_mul, Nat.mul_comm]
    split <;> simp
  rcases Int.le_total 0 n with hn | hn
  · have hsign : 0 ≤ roundDiv n d * d := mul_nonneg (roundDiv_nonneg hn d) (Int.natCast_nonneg d)
    split at hmag <;> omega
  · have hsign : roundDiv n d * d ≤ 0 := mul_nonpos_of_nonpos_of_nonneg (roundDiv_nonpos hd hn) (Int.natCast_nonneg d)
    split at hmag <;> omega

/-- The rounded quotient of two counts is a count. -/
theorem roundDiv_toNat {n d x : Nat} (h : (x : Int) = roundDiv n d) : (roundDiv n d).toNat = x := by omega

/-- Whole tracks and fraction by the sign of D. -/
theorem split_of_nonneg {d : Int} (h : 0 ≤ d) : wholeTracks d = (d.natAbs / 16384 : Nat) ∧ fractionOf d = d.natAbs % 16384 :=
  ⟨if_pos h, if_pos h⟩

theorem split_of_neg_exact {d : Int} (h : d < 0) (hr : d.natAbs % 16384 = 0) :
    wholeTracks d = -(d.natAbs / 16384 : Nat) ∧ fractionOf d = 0 :=
  ⟨(if_neg (Int.not_le.mpr h)).trans (if_pos hr), (if_neg (Int.not_le.mpr h)).trans (if_pos hr)⟩

theorem split_of_neg {d : Int} (h : d < 0) (hr : d.natAbs % 16384 ≠ 0) :
    wholeTracks d = -(d.natAbs / 16384 : Nat) - 1 ∧ fractionOf d = 16384 - d.natAbs % 16384 :=
  ⟨(if_neg (Int.not_le.mpr h)).trans (if_neg hr), (if_neg (Int.not_le.mpr h)).trans (if_neg hr)⟩

/-- The split gives D again, its fraction less than a track. -/
theorem split_sum (d : Int) : fractionOf d ≤ 16383 ∧ wholeTracks d * 16384 + fractionOf d = d := by
  rcases Int.lt_or_le d 0 with h | h
  · by_cases hr : d.natAbs % 16384 = 0
    · obtain ⟨hw, hf⟩ := split_of_neg_exact h hr
      omega
    · obtain ⟨hw, hf⟩ := split_of_neg h hr
      omega
  · obtain ⟨hw, hf⟩ := split_of_nonneg h
    omega

/-- Settles O34: the magnitude by `roundDiv_natAbs`, the split case by case of its sign and remainder. -/
theorem roundingAndSplitOfR63 : Obligations.RoundingAndSplitOfR63 :=
  ⟨fun n d hd => ⟨roundDiv_natAbs n d, fun h => roundDiv_nonneg h d, roundDiv_nonpos hd⟩,
   fun d => ⟨split_of_nonneg, split_of_neg_exact, split_of_neg, split_sum d⟩⟩

/-! ## The span (R66 to R71) -/

/-- The whole tracks of an offset within its limit lie within 127 either way (R69, R70). -/
theorem wholeTracks_within {d : Int} (h : d.natAbs ≤ 2080768) : -127 ≤ wholeTracks d ∧ wholeTracks d ≤ 127 := by
  have hsum := split_sum d
  omega

/-- Settles O35: the tests of R67 and R69 in their order; the split by `split_sum`. -/
theorem spanFiguresAndTheirLimits : Obligations.SpanFiguresAndTheirLimits := by
  intro p first second v1 v2 g d h1 h2 _ _ _ hg hd
  have hspan : spanComputation p first second =
      if g < p.gainMinQ8 ∨ (p.gainMaxQ8 : Int) < g then .fault .gainRange
      else if 2080768 < d.natAbs then .fault .offsetRange
      else .ok { d := d, dt := wholeTracks d, df := fractionOf d, g := g, v1 := v1, v2 := v2
                 o1 := first.window.offset, o2 := second.window.offset } := by
    unfold spanComputation
    rw [h1, h2, hd, hg]
    rfl
  refine ⟨fun hout => ?_, fun hlo hhi hbig => ?_, fun hlo hhi hfit => ?_⟩
  · rw [hspan, if_pos hout]
  · rw [hspan, if_neg (by omega), if_pos hbig]
  · obtain ⟨hlow, hhigh⟩ := wholeTracks_within hfit
    obtain ⟨hfrac, hsum⟩ := split_sum d
    refine ⟨wholeTracks d, fractionOf d, hlow, hhigh, hfrac, hsum, ?_⟩
    rw [hspan, if_neg (by omega), if_neg (by omega)]

/-! ## The qualification (R74 to R76) -/

/-- A figure with a divisor is the rounded quotient (R74). -/
theorem figure_eq {n d x : Nat} (hd : 0 < d) (h : (x : Int) = roundDiv n d) : figure n d = some x := by
  unfold figure
  rw [if_neg (by omega), roundDiv_toNat h]

/-- Settles O36: the three figures by `figure_eq`, the tests of R75 in their order. -/
theorem qualificationVerdictInOrder : Obligations.QualificationVerdictInOrder := by
  intro p r a wk ms hu ha hwk hms
  have hfig : qualFigures r.window = { amp := some a, weak := some wk, miss := some ms } := by
    unfold qualFigures
    rw [figure_eq hu ha, figure_eq (by omega) hwk, figure_eq (by omega) hms]
  have hverdict (he : r.ending = .complete) : qualification p r =
      some (completeVerdict p { amp := some a, weak := some wk, miss := some ms }) := by
    unfold qualification
    rw [he, hfig]
  refine ⟨fun he => ⟨fun h1 => ?_, fun h1 h2 => ?_, fun h1 h2 h3 => ?_, fun h1 h2 h3 => ?_⟩, fun he => ?_, fun he => ?_⟩
  · rw [hverdict he]
    exact congrArg some (if_pos h1)
  · rw [hverdict he]
    exact congrArg some ((if_neg (Nat.not_lt.mpr h1)).trans (if_pos h2))
  · rw [hverdict he]
    exact congrArg some ((if_neg (Nat.not_lt.mpr h1)).trans ((if_neg (Nat.not_lt.mpr h2)).trans (if_pos h3)))
  · rw [hverdict he]
    exact congrArg some ((if_neg (Nat.not_lt.mpr h1)).trans
      ((if_neg (Nat.not_lt.mpr h2)).trans (if_neg (Nat.not_lt.mpr h3))))
  · unfold qualification
    rw [he, hfig]
  · unfold qualification
    rw [he, hfig]

/-! ## The skew (R95, R96) -/

/-- Settles O37: the rounded quotient is a nearest one (`roundDiv_nearest`), and the clamp of R96 cuts it at its bounds. -/
theorem skewIsRoundedAndClamped : Obligations.SkewIsRoundedAndClamped := by
  intro sectors nRev ra rh sumA sumH ha hh hn
  have hd : 0 < ra * rh * nRev := Nat.mul_pos (Nat.mul_pos ha hh) hn
  refine ⟨rawSkew sectors nRev ra rh sumA sumH, roundDiv_nearest _ hd, rfl, fun hlo hhi => ?_, fun hhi => ?_, fun hlo => ?_⟩
  all_goals unfold skewComputation clampInt
  · simp [Int.not_lt.mpr hlo, Int.not_lt.mpr hhi]
  · simp [hhi, show ¬rawSkew sectors nRev ra rh sumA sumH < -16383 by omega]
  · simp [hlo]

end Sys2Proof.Machine
end

section
/-! PROOF. The payload of a JOB_SUBMIT read back, and the checks of R100. -/

namespace Sys2Proof.Machine

variable {s : State} {kind tag : Byte} {heads zones : List Byte} {options : List (Byte × Half)}

/-! ## Bytes inside a payload (R194) -/

/-- The byte behind the first `i` bytes of a payload. -/
theorem byteAt_behind {xs ys : List Byte} {b : Byte} {i : Nat} (h : xs.length = i) : byteAt (xs ++ b :: ys) i = b.toNat := by
  subst h
  simp [byteAt]

/-- The field behind the first `i` bytes of a payload. -/
theorem fieldBytes_behind {xs ys zs : List Byte} {i w : Nat} (h : xs.length = i) (hw : ys.length = w) :
    fieldBytes (xs ++ (ys ++ zs)) i w = ys := by
  subst h hw
  simp [fieldBytes]

theorem byteOf_toNat {n : Nat} (h : n < 256) : (byteOf n).toNat = n := Nat.mod_eq_of_lt h

/-- An option entry as the decoder reads it. -/
def optionRead (x : Byte × Half) : Nat × Half := (x.1.toNat, x.2)

/-- The option entries behind the first `i` bytes of a payload, read back (R194). -/
theorem readOptions_behind (options : List (Byte × Half)) {xs : List Byte} {i : Nat} (h : xs.length = i) :
    readOptions (xs ++ (options.map optionBytes).flatten) i options.length = options.map optionRead := by
  induction options generalizing xs i with
  | nil => rfl
  | cons o os ih =>
    have hentry : xs ++ ((o :: os).map optionBytes).flatten =
        (xs ++ [o.1]) ++ (leBytes 2 o.2.toNat ++ (os.map optionBytes).flatten) := by
      simp [optionBytes]
    have hbyte : byteAt (xs ++ ((o :: os).map optionBytes).flatten) i = o.1.toNat := by
      rw [hentry, List.append_assoc]
      exact byteAt_behind h
    have hvalue : fieldBytes (xs ++ ((o :: os).map optionBytes).flatten) (i + 1) 2 = leBytes 2 o.2.toNat := by
      rw [hentry]
      exact fieldBytes_behind (by simp [h]) (by simp)
    have hrest : xs ++ ((o :: os).map optionBytes).flatten =
        (xs ++ [o.1] ++ leBytes 2 o.2.toNat) ++ (os.map optionBytes).flatten := by
      rw [hentry]
      simp only [List.append_assoc]
    show (byteAt _ i, BitVec.ofNat 16 (leNat (fieldBytes _ (i + 1) 2))) :: readOptions _ (i + 3) os.length = _
    rw [hbyte, hvalue, leNat_leBytes_half, hrest, ih (by simp [h])]
    rfl

/-! ## The submission that a payload carries (R185, R194) -/

/-- The submission of a payload's fields. -/
def submissionOf (kind : Byte) (heads zones : List Byte) (options : List (Byte × Half)) : Submission :=
  { kind := kind.toNat, heads := heads.map BitVec.toNat, zones := zones.map BitVec.toNat, options := options.map optionRead }

/-- The payload's parts up to each count. -/
theorem submitPayload_split (kind : Byte) (heads zones : List Byte) (options : List (Byte × Half)) :
    submitPayload kind heads zones options =
      [kind] ++ byteOf heads.length :: (heads ++ byteOf zones.length :: (zones ++ byteOf options.length ::
        (options.map optionBytes).flatten)) := by
  simp [submitPayload]

section
variable (h : 4 + heads.length + zones.length + 3 * options.length ≤ 240)
include h

theorem submitPayload_byteAt :
    byteAt (submitPayload kind heads zones options) 0 = kind.toNat ∧
    byteAt (submitPayload kind heads zones options) 1 = heads.length ∧
    byteAt (submitPayload kind heads zones options) (2 + heads.length) = zones.length ∧
    byteAt (submitPayload kind heads zones options) (3 + heads.length + zones.length) = options.length := by
  rw [submitPayload_split]
  refine ⟨rfl, ?_, ?_, ?_⟩
  · rw [byteAt_behind (by rfl), byteOf_toNat (by omega)]
  · rw [show [kind] ++ byteOf heads.length :: (heads ++ byteOf zones.length :: (zones ++ byteOf options.length ::
        (options.map optionBytes).flatten)) = ([kind, byteOf heads.length] ++ heads) ++ byteOf zones.length ::
        (zones ++ byteOf options.length :: (options.map optionBytes).flatten) by simp,
      byteAt_behind (by simp; omega), byteOf_toNat (by omega)]
  · rw [show [kind] ++ byteOf heads.length :: (heads ++ byteOf zones.length :: (zones ++ byteOf options.length ::
        (options.map optionBytes).flatten)) = ([kind, byteOf heads.length] ++ heads ++ [byteOf zones.length] ++ zones) ++
        byteOf options.length :: (options.map optionBytes).flatten by simp,
      byteAt_behind (by simp; omega), byteOf_toNat (by omega)]

theorem submitCounts_submitPayload :
    submitCounts (submitPayload kind heads zones options) = some (heads.length, zones.length, options.length) := by
  obtain ⟨-, hn, hm, hk⟩ := submitPayload_byteAt (kind := kind) h
  have hlen := Laws.submitPayload_length kind heads zones options
  unfold submitCounts
  rw [if_neg (by omega)]
  simp only [hn]
  rw [if_neg (by omega)]
  simp only [hm]
  rw [if_neg (by omega)]
  simp only [hk]
  rw [if_pos hlen]

theorem readSubmission_submitPayload :
    readSubmission (submitPayload kind heads zones options) heads.length zones.length options.length =
      submissionOf kind heads zones options := by
  obtain ⟨hkind, -, -, -⟩ := submitPayload_byteAt (kind := kind) h
  have hheads : fieldBytes (submitPayload kind heads zones options) 2 heads.length = heads := by
    rw [submitPayload_split]
    exact fieldBytes_behind (xs := [kind, byteOf heads.length]) rfl rfl
  have hzones : fieldBytes (submitPayload kind heads zones options) (3 + heads.length) zones.length = zones := by
    rw [submitPayload_split, show [kind] ++ byteOf heads.length :: (heads ++ byteOf zones.length :: (zones ++
      byteOf options.length :: (options.map optionBytes).flatten)) = ([kind, byteOf heads.length] ++ heads ++
        [byteOf zones.length]) ++ (zones ++ byteOf options.length :: (options.map optionBytes).flatten) by simp]
    exact fieldBytes_behind (by simp; omega) rfl
  have hoptions : readOptions (submitPayload kind heads zones options) (4 + heads.length + zones.length) options.length =
      options.map optionRead := readOptions_behind options (by simp; omega)
  unfold readSubmission
  rw [hkind, hheads, hzones, hoptions]
  rfl

/-- JOB_SUBMIT refused by its owner (R100). -/
theorem reqJobSubmit_refused {r : Refuse} (hc : s.submitCheck (submissionOf kind heads zones options) = some r) :
    s.reqJobSubmit (submitPayload kind heads zones options) = (.refuse r, s) := by
  unfold State.reqJobSubmit
  rw [submitCounts_submitPayload h]
  dsimp only
  rw [readSubmission_submitPayload h, hc]

/-- JOB_SUBMIT taken by its owner (R101, R102). -/
theorem reqJobSubmit_accepted (hc : s.submitCheck (submissionOf kind heads zones options) = none) :
    s.reqJobSubmit (submitPayload kind heads zones options) = s.submit (submissionOf kind heads zones options) := by
  unfold State.reqJobSubmit
  rw [submitCounts_submitPayload h]
  dsimp only
  rw [readSubmission_submitPayload h, hc]

end

end Sys2Proof.Machine
end

section
/-! PROOF. The checks of R100 in their order, and what a refused JOB_SUBMIT leaves. -/

namespace Sys2Proof.Machine

variable {s : State} {kind tag : Byte} {heads zones : List Byte} {options : List (Byte × Half)}

/-! ## The first bad element -/

theorem firstBad_behind {α : Type} {bad : α → Bool} {before : List α} {x : α} (after : List α)
    (hb : ∀ y ∈ before, bad y = false) (hx : bad x = true) : firstBad bad (before ++ x :: after) = some before.length := by
  unfold firstBad
  induction before with
  | nil => simp [List.findIdx?_cons, hx]
  | cons y ys ih =>
    rw [List.cons_append, List.findIdx?_cons, hb y List.mem_cons_self, ih fun z hz => hb z (List.mem_cons_of_mem _ hz)]
    rfl

theorem firstBad_none {α : Type} {bad : α → Bool} {xs : List α} (h : ∀ y ∈ xs, bad y = false) : firstBad bad xs = none :=
  List.findIdx?_eq_none_iff.mpr h

/-! ## The checks (R100) -/

/-- The check on head or zone numbers against their count. -/
theorem firstBad_number {n : Nat} {before : List Byte} {x : Byte} (after : List Byte) (hb : ∀ y ∈ before, y.toNat < n)
    (hx : n ≤ x.toNat) : firstBad (fun y => decide (n ≤ y)) ((before ++ x :: after).map BitVec.toNat) = some before.length := by
  rw [List.map_append, List.map_cons, firstBad_behind _ _ (by simpa using hx), List.length_map]
  exact List.forall_mem_map.mpr fun y hy => decide_eq_false (Nat.not_le.mpr (hb y hy))

theorem firstBad_number_none {n : Nat} {xs : List Byte} (h : ∀ y ∈ xs, y.toNat < n) :
    firstBad (fun y => decide (n ≤ y)) (xs.map BitVec.toNat) = none :=
  firstBad_none (List.forall_mem_map.mpr fun y hy => decide_eq_false (Nat.not_le.mpr (h y hy)))

theorem submitCheck_kind (h : 2 < kind.toNat) :
    s.submitCheck (submissionOf kind heads zones options) = some { code := .badValue, detail := 0 } := if_pos h

section
variable (hk : kind.toNat ≤ 2)
include hk

theorem submitCheck_noHeads : s.submitCheck (submissionOf kind [] zones options) = some { code := .badValue, detail := 1 } :=
  (if_neg (Nat.not_lt.mpr hk)).trans (if_pos rfl)

theorem submitCheck_badHead {before after : List Byte} {x : Byte} (hb : ∀ y ∈ before, y.toNat < s.prof.headCount)
    (hx : s.prof.headCount ≤ x.toNat) : s.submitCheck (submissionOf kind (before ++ x :: after) zones options) =
      some { code := .badValue, detail := 2 + before.length } := by
  unfold State.submitCheck submissionOf
  dsimp only
  rw [if_neg (Nat.not_lt.mpr hk), if_neg (by simp), firstBad_number after hb hx]

variable (hn : heads ≠ []) (hheads : ∀ x ∈ heads, x.toNat < s.prof.headCount)
include hn hheads

theorem submitCheck_noZones : s.submitCheck (submissionOf kind heads [] options) =
    some { code := .badValue, detail := 2 + heads.length } := by
  unfold State.submitCheck submissionOf
  dsimp only
  rw [if_neg (Nat.not_lt.mpr hk), if_neg (by simpa using hn), firstBad_number_none hheads]
  simp

theorem submitCheck_badZone {before after : List Byte} {x : Byte} (hb : ∀ y ∈ before, y.toNat < s.prof.zoneCount)
    (hx : s.prof.zoneCount ≤ x.toNat) : s.submitCheck (submissionOf kind heads (before ++ x :: after) options) =
      some { code := .badValue, detail := 3 + heads.length + before.length } := by
  unfold State.submitCheck submissionOf
  dsimp only
  rw [if_neg (Nat.not_lt.mpr hk), if_neg (by simpa using hn), firstBad_number_none hheads]
  dsimp only
  rw [if_neg (by simp), firstBad_number after hb hx, List.length_map]

variable (hm : zones ≠ []) (hzones : ∀ x ∈ zones, x.toNat < s.prof.zoneCount)
include hm hzones

/-- Past the checks on kind, heads and zones, the options are checked and then the job table (R100). -/
theorem submitCheck_options : s.submitCheck (submissionOf kind heads zones options) =
    (firstBad (fun o => decide (3 < o.1)) (options.map optionRead)).elim
      (if 8 ≤ s.jct.table.length then some { code := .full } else none)
      fun i => some { code := .badValue, detail := 4 + heads.length + zones.length + 3 * i } := by
  unfold State.submitCheck submissionOf
  dsimp only
  rw [if_neg (Nat.not_lt.mpr hk), if_neg (by simpa using hn), firstBad_number_none hheads]
  dsimp only
  rw [if_neg (by simpa using hm), firstBad_number_none hzones, List.length_map, List.length_map]
  cases firstBad (fun o : Nat × Half => decide (3 < o.1)) (options.map optionRead) <;> rfl

theorem submitCheck_badOption {before after : List (Byte × Half)} {x : Byte × Half} (ho : options = before ++ x :: after)
    (hb : ∀ y ∈ before, y.1.toNat ≤ 3) (hx : 3 < x.1.toNat) : s.submitCheck (submissionOf kind heads zones options) =
      some { code := .badValue, detail := 4 + heads.length + zones.length + 3 * before.length } := by
  have hbad : firstBad (fun o => decide (3 < o.1)) (options.map optionRead) = some before.length := by
    rw [ho, List.map_append, List.map_cons]
    exact (firstBad_behind (bad := fun o : Nat × Half => decide (3 < o.1)) _
      (List.forall_mem_map.mpr fun y hy => decide_eq_false (Nat.not_lt.mpr (hb y hy))) (decide_eq_true hx)).trans
      (by rw [List.length_map])
  rw [submitCheck_options hk hn hheads hm hzones, hbad]
  rfl

/-- With good options the job table alone decides. -/
theorem submitCheck_table (ho : ∀ y ∈ options, y.1.toNat ≤ 3) : s.submitCheck (submissionOf kind heads zones options) =
    if 8 ≤ s.jct.table.length then some { code := .full } else none := by
  rw [submitCheck_options hk hn hheads hm hzones, firstBad_none]
  · rfl
  · exact List.forall_mem_map.mpr fun y hy => decide_eq_false (Nat.not_lt.mpr (ho y hy))

end

/-! ## The refusal (R100) -/

/-- A refused JOB_SUBMIT changes nothing but the JOB_REQ reload. -/
theorem jobSubmit_refused {c : RefuseCode} {d : Nat} (h : s.LinkReady)
    (hl : 4 + heads.length + zones.length + 3 * options.length ≤ 240)
    (hc : s.submitCheck (submissionOf kind heads zones options) = some { code := c, detail := d }) :
    exec (.jobSubmit tag kind heads zones options) s = .next ((s.reload .jobReq).refuses tag c d) := by
  refine request_kept (k := .jobSubmit) (a := .refuse { code := c, detail := d }) h
    ((Laws.submitPayload_length _ _ _ _).trans_le hl) nofun (by decide) (reqJobSubmit_refused hl ?_)
  obtain ⟨r, e⟩ := reloadFor_eq s .jobSubmit
  rw [e]
  exact hc

end Sys2Proof.Machine
end

section
/-! PROOF. The record that an accepted JOB_SUBMIT makes of its payload (R99, R101, R102). -/

namespace Sys2Proof.Machine

variable {s : State} {kind : Byte} {heads zones : List Byte} {options : List (Byte × Half)} {seen xs : List Nat} {x : Nat}

/-! ## Heads in the order of first appearance (R101) -/

theorem keepFirst_seen (h : x ∈ seen) : keepFirst seen (x :: xs) = keepFirst seen xs := if_pos h

theorem keepFirst_new (h : x ∉ seen) : keepFirst seen (x :: xs) = x :: keepFirst (x :: seen) xs := if_neg h

theorem mem_keepFirst {n : Nat} : n ∈ keepFirst seen xs ↔ n ∈ xs ∧ n ∉ seen := by
  induction xs generalizing seen with
  | nil => simp [keepFirst]
  | cons x xs ih =>
    by_cases h : x ∈ seen
    · rw [keepFirst_seen h, ih]
      grind
    · rw [keepFirst_new h, List.mem_cons, ih]
      grind

theorem keepFirst_sublist : (keepFirst seen xs).Sublist xs := by
  induction xs generalizing seen with
  | nil => exact List.Sublist.refl _
  | cons x xs ih =>
    by_cases h : x ∈ seen
    · rw [keepFirst_seen h]
      exact ih.cons x
    · rw [keepFirst_new h]
      exact ih.cons_cons x

theorem keepFirst_nodup : (keepFirst seen xs).Nodup := by
  induction xs generalizing seen with
  | nil => exact List.nodup_nil
  | cons x xs ih =>
    by_cases h : x ∈ seen
    · rw [keepFirst_seen h]
      exact ih
    · rw [keepFirst_new h]
      exact List.nodup_cons.mpr ⟨fun hx => (mem_keepFirst.mp hx).2 List.mem_cons_self, ih⟩

/-- The elements kept stand in the order of their first appearance. -/
theorem keepFirst_ordered : ((keepFirst seen xs).map xs.idxOf).Pairwise (· < ·) := by
  induction xs generalizing seen with
  | nil => exact List.Pairwise.nil
  | cons x xs ih =>
    have hshift : ∀ {ys : List Nat}, x ∈ ys →
        (keepFirst ys xs).map (x :: xs).idxOf = ((keepFirst ys xs).map xs.idxOf).map Nat.succ := fun {ys} hy => by
      rw [List.map_map]
      refine List.map_congr_left fun n hn => ?_
      exact List.idxOf_cons_ne xs fun e => (mem_keepFirst.mp hn).2 (e ▸ hy)
    by_cases h : x ∈ seen
    · rw [keepFirst_seen h, hshift h]
      exact ih.map _ fun _ _ => Nat.succ_lt_succ
    · rw [keepFirst_new h, List.map_cons, List.idxOf_cons_self, hshift List.mem_cons_self]
      refine List.pairwise_cons.mpr ⟨fun n hn => ?_, ih.map _ fun _ _ => Nat.succ_lt_succ⟩
      obtain ⟨m, -, rfl⟩ := List.mem_map.mp hn
      exact Nat.succ_pos m

/-- Every element is kept exactly where the list repeats none (R101). -/
theorem keepFirst_length_iff : (keepFirst [] xs).length = xs.length ↔ xs.Nodup := by
  constructor
  · intro h
    rw [← keepFirst_sublist.eq_of_length h]
    exact keepFirst_nodup
  · intro h
    have hperm : (keepFirst [] xs).Perm xs :=
      (List.perm_ext_iff_of_nodup keepFirst_nodup h).mpr fun n => by simp [mem_keepFirst]
    exact hperm.length_eq

/-! ## Zones ascending (R101) -/

theorem mem_orderZones {n : Nat} (h : ∀ z ∈ xs, z < 24) : n ∈ orderZones xs ↔ n ∈ xs := by
  unfold orderZones
  rw [List.mem_filter, List.mem_range, List.contains_iff_mem]
  exact ⟨And.right, fun hn => ⟨h n hn, hn⟩⟩

theorem orderZones_ordered : (orderZones xs).Pairwise (· < ·) := List.pairwise_lt_range.filter _

theorem orderZones_nodup : (orderZones xs).Nodup := orderZones_ordered.imp Nat.ne_of_lt

theorem orderZones_length_iff (h : ∀ z ∈ xs, z < 24) : (orderZones xs).length = xs.length ↔ xs.Nodup := by
  constructor
  · intro hl
    have hsub : (orderZones xs).Subperm xs := orderZones_nodup.subperm fun n hn => (mem_orderZones h).mp hn
    exact (hsub.perm_of_length_le hl.ge).nodup orderZones_nodup
  · intro hn
    exact ((List.perm_ext_iff_of_nodup orderZones_nodup hn).mpr fun n => mem_orderZones h).length_eq

/-! ## The options (R99, R101) -/

/-- The first appearance of an option among the entries of the payload. -/
theorem firstOption_read (options : List (Byte × Half)) (b : Byte) :
    firstOption (options.map optionRead) b.toNat = (options.find? fun x => x.1 == b).map (·.2) := by
  have hsame : ((fun x : Nat × Half => x.1 == b.toNat) ∘ optionRead) = fun x : Byte × Half => x.1 == b := by
    funext x
    exact Bool.eq_iff_iff.mpr (by simp [optionRead, BitVec.toNat_inj])
  unfold firstOption
  rw [List.find?_map, hsame, Option.map_map]
  rfl

theorem clampNat_eq {lo hi : Nat} (h : lo ≤ hi) (x : Nat) : clampNat lo hi x = max lo (min hi x) := by
  unfold clampNat
  split
  · omega
  · split <;> omega

theorem clampInt_eq {lo hi : Int} (h : lo ≤ hi) (x : Int) : clampInt lo hi x = max lo (min hi x) := by
  unfold clampInt
  split
  · omega
  · split <;> omega

/-- An option is kept clamped to its range, and indicated where the clamp changes it. -/
theorem option_kept {α : Type} [DecidableEq α] (o : Option (Byte × Half)) (v : Half → α) {clamp clamp' : α → α}
    {out : α → Prop} [DecidablePred out] (hc : ∀ x, clamp x = clamp' x) (ho : ∀ x, clamp' x ≠ x ↔ out x) :
    ((o.map (·.2)).map fun x => clamp (v x)) = (o.map fun x => clamp' (v x.2)) ∧
    ((o.map (·.2)).any fun x => ((o.map (·.2)).map fun x => clamp (v x)) != some (v x)) =
      o.any fun x => decide (out (v x.2)) := by
  cases o with
  | none => exact ⟨rfl, rfl⟩
  | some x =>
    refine ⟨congrArg some (hc _), ?_⟩
    show (some (clamp (v x.2)) != some (v x.2)) = decide (out (v x.2))
    rw [hc, Bool.eq_iff_iff, bne_iff_ne, decide_eq_true_iff, ← ho]
    simp

end Sys2Proof.Machine
end

section
/-! PROOF. The id of a submitted job (R102), and its record whole. -/

namespace Sys2Proof.Machine

variable {s : State} {kind : Byte} {heads zones : List Byte} {options : List (Byte × Half)}

/-! ## The first id that no record holds (R102) -/

/-- The id `k` steps upward from `id`, 1 following 255. -/
def idFrom (id k : Nat) : Nat := (id - 1 + k) % 255 + 1

theorem idFrom_zero {id : Nat} (h1 : 1 ≤ id) (h2 : id ≤ 255) : idFrom id 0 = id := by
  unfold idFrom
  omega

theorem idFrom_succ {id : Nat} (h1 : 1 ≤ id) (h2 : id ≤ 255) (k : Nat) : idFrom id (k + 1) = idFrom (idAfter id) k := by
  unfold idFrom idAfter
  split <;> omega

theorem idAfter_range {id : Nat} (h2 : id ≤ 255) : 1 ≤ idAfter id ∧ idAfter id ≤ 255 := by
  unfold idAfter
  split <;> omega

theorem idHeld_iff {n : Nat} : s.idHeld n = true ↔ (∃ x ∈ s.jct.table, x.id = n) ∨ ∃ x ∈ s.jct.finished, x.id = n := by
  simp [State.idHeld]

/-- The search finds the first id not held, where it comes to one (R102). -/
theorem freeId_first {n id : Nat} (h1 : 1 ≤ id) (h2 : id ≤ 255) (h : ∃ k < n, s.idHeld (idFrom id k) = false) :
    ∃ k < n, s.freeId n id = idFrom id k ∧ s.idHeld (idFrom id k) = false ∧ ∀ i < k, s.idHeld (idFrom id i) = true := by
  induction n generalizing id with
  | zero => obtain ⟨k, hk, -⟩ := h; omega
  | succ n ih =>
    obtain ⟨k, hk, hfree⟩ := h
    by_cases hid : s.idHeld id = true
    · have hstep : s.freeId (n + 1) id = s.freeId n (idAfter id) := if_pos hid
      obtain ⟨g1, g2⟩ := idAfter_range h2
      cases k with
      | zero => rw [idFrom_zero h1 h2, hid] at hfree; cases hfree
      | succ k =>
        rw [idFrom_succ h1 h2] at hfree
        obtain ⟨k', hk', hat, hfree', hheld⟩ := ih g1 g2 ⟨k, by omega, hfree⟩
        refine ⟨k' + 1, by omega, by rw [hstep, hat, idFrom_succ h1 h2], by rw [idFrom_succ h1 h2, hfree'], fun i hi => ?_⟩
        cases i with
        | zero => rw [idFrom_zero h1 h2, hid]
        | succ i => rw [idFrom_succ h1 h2, hheld i (by omega)]
    · have hfirst : s.freeId (n + 1) id = id := if_neg hid
      exact ⟨0, by omega, by rw [hfirst, idFrom_zero h1 h2], by rw [idFrom_zero h1 h2]; simpa using hid, fun i hi => by omega⟩

/-- Fewer than 255 records leave an id free. -/
theorem free_id_exists (id : Nat) (h : s.jct.table.length + s.jct.finished.length < 255) :
    ∃ k < 255, s.idHeld (idFrom id k) = false := by
  by_contra hall
  have hheld : ∀ k < 255, s.idHeld (idFrom id k) = true := fun k hk => by
    by_contra hk'
    exact hall ⟨k, hk, by simpa using hk'⟩
  have hnodup : ((List.range 255).map (idFrom id)).Nodup := by
    refine List.nodup_range.map_on fun a ha b hb e => ?_
    rw [List.mem_range] at ha hb
    unfold idFrom at e
    omega
  have hsub : (List.range 255).map (idFrom id) ⊆ s.jct.table.map (·.id) ++ s.jct.finished.map (·.id) := fun n hn => by
    obtain ⟨k, hk, rfl⟩ := List.mem_map.mp hn
    rw [List.mem_append, List.mem_map, List.mem_map]
    exact idHeld_iff.mp (hheld k (List.mem_range.mp hk))
  have hle := (hnodup.subperm hsub).length_le
  simp at hle
  omega

/-! ## The record (R99, R101, R102) -/

/-- The record of a JOB_SUBMIT in the state `s`. -/
def State.jobOf (s : State) (kind : Byte) (heads zones : List Byte) (options : List (Byte × Half)) : Job :=
  (submissionOf kind heads zones options).record (s.freeId 255 s.jct.nextId)

theorem nodup_toNat (xs : List Byte) : (xs.map BitVec.toNat).Nodup ↔ xs.Nodup :=
  List.nodup_map_iff fun _ _ h => BitVec.eq_of_toNat_eq h

/-- DUPLICATES, where any list repeats (R101). -/
theorem duplicates_iff (hz : ∀ z ∈ zones, z.toNat < 24) :
    (submitFlags (submissionOf kind heads zones options)).duplicates = false ↔
      heads.Nodup ∧ zones.Nodup ∧ (options.map (·.1)).Nodup := by
  have hzones : ∀ z ∈ zones.map BitVec.toNat, z < 24 := List.forall_mem_map.mpr hz
  have hoptions : (options.map optionRead).map (·.1) = (options.map (·.1)).map BitVec.toNat := by
    rw [List.map_map, List.map_map]
    rfl
  show (((keepFirst [] (heads.map BitVec.toNat)).length != (heads.map BitVec.toNat).length ||
    (orderZones (zones.map BitVec.toNat)).length != (zones.map BitVec.toNat).length ||
    (keepFirst [] ((options.map optionRead).map (·.1))).length != (options.map optionRead).length) = false) ↔ _
  rw [← List.length_map (as := options.map optionRead) (·.1), hoptions, Bool.or_eq_false_iff, Bool.or_eq_false_iff,
    bne_eq_false_iff_eq, bne_eq_false_iff_eq, bne_eq_false_iff_eq, keepFirst_length_iff, orderZones_length_iff hzones,
    keepFirst_length_iff, nodup_toNat, nodup_toNat, nodup_toNat, and_assoc]

theorem jobKind_code {n : Nat} (h : n ≤ 2) : ((JobKind.ofCode n).getD .qualify).code = n := by
  match n, h with
  | 0, _ | 1, _ | 2, _ => rfl

/-- The record is the one of R99, R101 and R102. -/
theorem jobOf_submitted (hk : kind.toNat ≤ 2) (hz : ∀ z ∈ zones, z.toNat < 24)
    (hn : s.jct.table.length + s.jct.finished.length < 255) (h1 : 1 ≤ s.jct.nextId) (h2 : s.jct.nextId ≤ 255) :
    Submitted s kind heads zones options (s.jobOf kind heads zones options) := by
  have hzones : ∀ z ∈ zones.map BitVec.toNat, z < 24 := List.forall_mem_map.mpr hz
  obtain ⟨k, hk255, hid, hfree, hheld⟩ := freeId_first h1 h2 (free_id_exists s.jct.nextId hn)
  rw [← Bool.not_eq_true, idHeld_iff, not_or, not_exists, not_exists, ← hid] at hfree
  have hfirst : ∀ (n : Nat) (b : Byte), b.toNat = n → firstOption (submissionOf kind heads zones options).options n =
      (options.find? fun x => x.1 == b).map (·.2) := fun n b e => e ▸ firstOption_read options b
  refine ⟨⟨k, hk255, hid, fun x hx e => hfree.1 x ⟨hx, e⟩, fun x hx e => hfree.2 x ⟨hx, e⟩, fun i hi => idHeld_iff.mp (hheld i hi)⟩,
    ⟨jobKind_code hk, rfl, rfl, rfl, rfl, rfl, rfl⟩, ⟨fun n => by simp [State.jobOf, Submission.record, submissionOf, mem_keepFirst],
      keepFirst_ordered⟩, ⟨fun n => mem_orderZones hzones, orderZones_ordered⟩, duplicates_iff hz, ?_, ?_, ?_, ?_⟩
  all_goals
    simp only [State.jobOf, Submission.record, keptOptions, submitFlags]
  · rw [hfirst 0 0 rfl]
    exact option_kept _ BitVec.toNat (out := fun v => v < 16 ∨ 512 < v) (clampNat_eq (by omega)) fun x => by omega
  · rw [hfirst 1 1 rfl]
    exact option_kept _ BitVec.toNat (out := fun v => v < 256 ∨ 4096 < v) (clampNat_eq (by omega)) fun x => by omega
  · rw [hfirst 2 2 rfl]
    exact option_kept _ BitVec.toInt (out := fun v => v < -4096 ∨ 4096 < v) (clampInt_eq (by omega)) fun x => by omega
  · rw [hfirst 3 3 rfl]
    exact option_kept _ BitVec.toNat (out := fun v => v < 1 ∨ 16 < v) (clampNat_eq (by omega)) fun x => by omega

end Sys2Proof.Machine
end

section
/-! PROOF. A submission that waits, and one that becomes RUNNING (R102, R106 to R109). -/

namespace Sys2Proof.Machine

variable {s : State} {kind tag : Byte} {heads zones : List Byte} {options : List (Byte × Half)} {j : Job} {head zone : Nat}
  {c : Jct} {p : Pos} {ms : List JctMsg}

/-! ## The submission (R101, R102) -/

/-- The Job Controller with the record `j` at the end of the job table, the next-id counter past its id (R102). -/
def Jct.filed (c : Jct) (j : Job) : Jct :=
  { c with table := c.table ++ [j], nextId := if j.id = 255 then 1 else j.id + 1 }

/-- `s` within the arrival of the accepted submission of `j`: the JOB_REQ reload made, the ACK waiting, the Job Controller at
`c`, the Positioner at `p`, the reports `ms` still to be taken (R101, R158). -/
def State.taking (s : State) (tag : Byte) (j : Job) (c : Jct) (p : Pos) (ms : List JctMsg) : State :=
  { s with
    rtm := (s.reload .jobReq).rtm, jct := c, pos := p, inbox := ms
    blk := { s.blk with waiting := [.reply { kind := 0x80, tag := tag, payload := submitAck j } false] } }

theorem taking_setInbox (ns : List JctMsg) : (s.taking tag j c p ms).setInbox ns = s.taking tag j c p ns := rfl

theorem submitAck_eq (j : Job) : b1 j.id ++ [j.flags.byte] = submitAck j := by
  rw [jobFlags_byte]
  rfl

theorem freeId_congr {t : State} (h : t.jct = s.jct) (n id : Nat) : t.freeId n id = s.freeId n id := by
  have hheld : ∀ m, t.idHeld m = s.idHeld m := fun m => by unfold State.idHeld; rw [h]
  induction n generalizing id with
  | zero => rfl
  | succ n ih =>
    unfold State.freeId
    rw [hheld, ih]

/-- What the acceptance answers and makes of the state (R101, R102). -/
theorem submit_eq {t : State} (h : t.jct = s.jct) : t.submit (submissionOf kind heads zones options) =
    (.ack (submitAck (s.jobOf kind heads zones options)),
      (t.setJct (s.jct.filed (s.jobOf kind heads zones options))).goOn .startTest) := by
  unfold State.submit
  rw [h, freeId_congr h, ← submitAck_eq]
  rfl

/-- An accepted JOB_SUBMIT joins the job table, and its arrival goes on with the test of the start conditions. -/
theorem jobSubmit_filed (h : s.LinkReady) (hl : 4 + heads.length + zones.length + 3 * options.length ≤ 240)
    (hc : s.submitCheck (submissionOf kind heads zones options) = none) (hj : s.jobOf kind heads zones options = j) :
    exec (.jobSubmit tag kind heads zones options) s = .next (s.taking tag j (s.jct.filed j) s.pos [.startTest]).finish := by
  obtain ⟨r, e⟩ := reload_eq s .jobReq
  have hhandle : ((s.reload .jobReq).openReply tag).handle .jobSubmit (submitPayload kind heads zones options) =
      (.ack (submitAck j), (((s.reload .jobReq).openReply tag).setJct (s.jct.filed j)).goOn .startTest) := by
    refine (reqJobSubmit_accepted (s := (s.reload .jobReq).openReply tag) hl (by rw [e]; exact hc)).trans ?_
    rw [submit_eq (s := s) (by rw [e]; rfl), hj]
  show request RequestKind.jobSubmit.code tag _ s = _
  rw [request_good h .jobSubmit tag ((Laws.submitPayload_length _ _ _ _).trans_le hl) nofun]
  unfold arrival State.answer
  rw [if_neg (by decide), openReply_reloadFor, show (s.reloadFor .jobSubmit) = s.reload .jobReq from rfl]
  dsimp only
  rw [hhandle]
  unfold State.taking
  rw [e]
  refine congrArg (fun z => Host.Outcome.next (State.finish z)) ?_
  simp [State.fillReply, State.openReply, State.goOn, State.setBlk, State.setInbox, State.setJct, State.setRtm, h.waiting, h.inbox,
    Waiting.fill, Answer.frame, isResetAck]

/-! ## The start conditions (R106) -/

theorem waitingCause_some (h : s.active.isSome = true ∨ s.flc.selectBench = true ∨ s.flc.spindleBench = true ∨
    s.chm.level = .hot) : s.waitingCause.isSome = true := by
  unfold State.waitingCause
  grind

theorem waitingCause_none (ha : s.active = none) (hs : s.flc.selectBench = false) (hp : s.flc.spindleBench = false)
    (hh : s.chm.level ≠ .hot) : s.waitingCause = none := by
  simp [State.waitingCause, ha, hs, hp, hh]

theorem startTest_waits (h : s.waitingCause.isSome = true) : s.startTest = s := by
  obtain ⟨c, hc⟩ := Option.isSome_iff_exists.mp h
  unfold State.startTest
  rw [hc]

/-- The only record of the job table becomes RUNNING (R106). -/
theorem startTest_starts (hw : s.waitingCause = none) (ht : s.jct.table = [j]) (hq : j.state = .queued) : s.startTest =
    (s.setJct { s.jct with table := [j.start s.prof], ctx := {}, zoneFailed := false }).goOn .takeUp := by
  have hhead : s.queueHead = some j := by simp [State.queueHead, ht, Job.isActive, hq]
  unfold State.startTest
  rw [hw, hhead, ht]
  simp

/-- The transmitter begins the reply that began to wait first (R187). -/
theorem transmit_reply {f : Frame} {ws : List Waiting} (hs : s.blk.sending = none) (hw : s.blk.waiting = .reply f false :: ws) :
    s.transmit = s.setBlk
      { s.blk with
        sending := some { frame := f, isReply := true, reset := false, due := s.now + 1000 * (5 + f.payload.length) }
        waiting := ws } := by
  unfold State.transmit
  rw [hs, hw]
  rfl

/-! ## A submission that waits -/

/-- A start condition fails: the record waits in the job table (R106). -/
theorem filed_waits (h : s.LinkReady) (hw : s.active.isSome = true ∨ s.flc.selectBench = true ∨ s.flc.spindleBench = true ∨
    s.chm.level = .hot) : (s.taking tag j (s.jct.filed j) s.pos [.startTest]).finish =
      ((s.reload .jobReq).setJct (s.jct.filed j)).acks tag (submitAck j) := by
  have hcause : (s.taking tag j (s.jct.filed j) s.pos []).waitingCause.isSome = true := by
    refine waitingCause_some (hw.imp (fun ha => ?_) id)
    show ((s.jct.table ++ [j]).find? Job.isActive).isSome = true
    rw [List.find?_append, show s.jct.table.find? Job.isActive = s.active from rfl, Option.isSome_or, ha]
    rfl
  have hd : (s.taking tag j (s.jct.filed j) s.pos [.startTest]).drain Config.drainFuel =
      s.taking tag j (s.jct.filed j) s.pos [] := by
    show State.drain (65535 + 1) _ = _
    rw [drain_cons (m := .startTest) (ms := []) rfl]
    exact (congrArg (State.drain 65535) (startTest_waits hcause)).trans (drain_of_nil rfl _)
  obtain ⟨r, e⟩ := reload_eq s .jobReq
  unfold State.finish State.acks State.replies
  rw [hd, transmit_reply (by exact h.sending) rfl]
  unfold State.taking
  rw [e]
  simp [State.setBlk, State.setJct, State.setRtm, h.inbox, h.waiting]

/-! ## A job that becomes RUNNING (R106) -/

/-- The Job Controller with `j` its only record, RUNNING at its first head-zone (R106). -/
def Jct.started (c : Jct) (j : Job) (p : Profile) : Jct :=
  { c.filed j with table := [j.start p], ctx := {}, zoneFailed := false }

/-- With every start condition met the arrival goes on at the first head-zone. -/
theorem filed_starts (ht : s.jct.table = []) (hs : s.flc.selectBench = false) (hp : s.flc.spindleBench = false)
    (hh : s.chm.level ≠ .hot) (hq : j.state = .queued) (n : Nat) :
    (s.taking tag j (s.jct.filed j) s.pos [.startTest]).drain (n + 1 + 1) =
      (s.taking tag j (s.jct.started j s.prof) s.pos []).takeUp.drain n := by
  have htable : (s.jct.filed j).table = [j] := by
    show s.jct.table ++ [j] = [j]
    rw [ht, List.nil_append]
  have hcause : (s.taking tag j (s.jct.filed j) s.pos []).waitingCause = none := by
    refine waitingCause_none ?_ hs hp hh
    show (s.jct.filed j).table.find? Job.isActive = none
    rw [htable]
    simp [Job.isActive, hq]
  rw [drain_cons (m := .startTest) (ms := []) rfl]
  show (s.taking tag j (s.jct.filed j) s.pos []).startTest.drain (n + 1) = _
  rw [startTest_starts hcause htable hq]
  exact drain_cons (m := .takeUp) (ms := []) rfl n

/-- The job started, at its first head-zone. -/
theorem start_at (p : Profile) (hh : j.heads[0]? = some head) (hz : j.zones[0]? = some zone) :
    (j.start p).At { zone := 0, head := 0, phase := .prepare, retries := 0, failedZones := 0 } (resolveFigures p j) head zone :=
  ⟨rfl, rfl, hh, hz⟩

theorem taking_running (h : c.table = [j.start s.prof]) : (s.taking tag j c p ms).running = some (j.start s.prof) := by
  have hactive : (s.taking tag j c p ms).active = some (j.start s.prof) := by
    show c.table.find? Job.isActive = _
    rw [h]
    rfl
  unfold State.running
  rw [hactive]
  rfl

/-- The job RUNNING takes up its first head-zone, the head not excluded: measured, or decided at once (R107). -/
theorem started_takeUp (hh : j.heads[0]? = some head) (hz : j.zones[0]? = some zone)
    (hx : excludedIn s.hmp.working head = false) {x : Here} (e : x = ⟨j.start s.prof,
      { zone := 0, head := 0, phase := .prepare, retries := 0, failedZones := 0 }, resolveFigures s.prof j, head, zone⟩) :
    (s.taking tag j (s.jct.started j s.prof) p []).takeUp =
      ((s.taking tag j (s.jct.started j s.prof) p []).decided x).elim
        (s.taking tag j { s.jct.started j s.prof with attempt := s.jct.attempt + 1 } p [.prepare])
        fun r => (s.taking tag j (s.jct.started j s.prof) p []).endWith x r := by
  subst e
  unfold State.takeUp
  rw [here_of (taking_running rfl) (start_at s.prof hh hz)]
  dsimp only
  rw [show (s.taking tag j (s.jct.started j s.prof) p []).hmp = s.hmp from rfl, hx, if_neg (by decide)]
  cases (s.taking tag j (s.jct.started j s.prof) p []).decided _ <;> rfl

end Sys2Proof.Machine
end

section
/-! PROOF. A submitted job that orders its spin-up (R20, R107 to R109). -/

namespace Sys2Proof.Machine

variable {s : State} {tag : Byte} {j : Job} {head zone : Nat}

/-- The first head-zone is measured (R107). -/
theorem decided_measured {x : Here} {c : Jct} {p : Pos} {ms : List JctMsg} (hc : c.zoneFailed = false)
    (hm : x.job.kind = .qualify ∨ (x.head ≠ s.prof.anchor ∧ derivedIn s.hmp.working x.head = .qualified)) :
    (s.taking tag j c p ms).decided x = none := by
  unfold State.decided
  rw [show (s.taking tag j c p ms).prof = s.prof from rfl, show (s.taking tag j c p ms).hmp = s.hmp from rfl,
    show (s.taking tag j c p ms).jct = c from rfl, hc]
  rcases hm with hk | ⟨hne, hd⟩
  · simp [hk]
  · simp [hne, hd]

/-- The Job Controller with `j` RUNNING in the attempt of its first head-zone (R107). -/
def Jct.attempting (c : Jct) (j : Job) (p : Profile) : Jct := { c.started j p with attempt := c.attempt + 1 }

/-- The spin-up of the attempt ordered and awaited (R109). -/
def Jct.spinning (c : Jct) (j : Job) (p : Profile) : Jct :=
  { c.attempting j p with ctx := { await := some .spinUp, waits := some .spunUp } }

/-- The Positioner accelerating for the job's attempt (R20). -/
def State.spinningPos (s : State) : Pos :=
  s.pos.spinningUp (s.now + s.prof.spinupMs * 200000) (.job (s.jct.attempt + 1))

/-- PREPARE with the spindle STOPPED orders the spin-up of the attempt (R108, R109). -/
theorem prepare_spins (hh : j.heads[0]? = some head) (hz : j.zones[0]? = some zone) (hs : s.pos.spindle = .stopped) :
    (s.taking tag j (s.jct.attempting j s.prof) s.pos []).prepare =
      s.taking tag j (s.jct.spinning j s.prof) s.spinningPos [.posChanged] := by
  unfold State.prepare
  rw [here_of (taking_running rfl) (start_at s.prof hh hz)]
  dsimp only
  rw [if_pos rfl, show (s.taking tag j (s.jct.attempting j s.prof) s.pos []).pos.spindle = .stopped from hs]
  dsimp only
  unfold State.prepareSpin
  rw [takeSpinUp_stopped (by exact hs)]
  rfl

/-- A spin-up in flight is its own answer to PREPARE (R108, R109). -/
theorem spinning_ordered (hh : j.heads[0]? = some head) (hz : j.zones[0]? = some zone) (ms : List JctMsg) :
    (s.taking tag j (s.jct.spinning j s.prof) s.spinningPos ms).Ordered := by
  refine ⟨fun _ ns => ?_, nofun⟩
  rw [taking_setInbox]
  unfold State.prepare
  rw [here_of (taking_running rfl) (start_at s.prof hh hz)]
  rfl

/-- The whole arrival of a submission that is measured, with the spindle STOPPED. -/
theorem filed_spins (h : s.LinkReady) (ht : s.jct.table = []) (hsel : s.flc.selectBench = false) (hspi : s.flc.spindleBench = false)
    (hhot : s.chm.level ≠ .hot) (hq : j.state = .queued) (hh : j.heads[0]? = some head) (hz : j.zones[0]? = some zone)
    (hx : excludedIn s.hmp.working head = false)
    (hm : j.kind = .qualify ∨ (head ≠ s.prof.anchor ∧ derivedIn s.hmp.working head = .qualified))
    (hs : s.pos.spindle = .stopped) : (s.taking tag j (s.jct.filed j) s.pos [.startTest]).finish =
      (s.taking tag j (s.jct.spinning j s.prof) s.spinningPos []).setBlk
        { s.blk with
          sending := some
            { frame := { kind := 0x80, tag := tag, payload := submitAck j }, isReply := true, reset := false
              due := s.now + 7000 }
          waiting := [] } := by
  have hd : (s.taking tag j (s.jct.filed j) s.pos [.startTest]).drain Config.drainFuel =
      s.taking tag j (s.jct.spinning j s.prof) s.spinningPos [] := by
    show State.drain (65533 + 1 + 1 + 1) _ = _
    rw [filed_starts ht hsel hspi hhot hq, started_takeUp hh hz hx rfl, decided_measured rfl hm, Option.elim_none,
      drain_cons (m := .prepare) (ms := []) rfl]
    show (s.taking tag j (s.jct.attempting j s.prof) s.pos []).prepare.drain 65533 = _
    rw [prepare_spins hh hz hs]
    exact (spinning_ordered hh hz _).drain rfl _
  unfold State.finish
  rw [hd, transmit_reply (by exact h.sending) rfl]
  rfl

end Sys2Proof.Machine
end

section
/-! PROOF. A submitted SPAN or SKEW job of the anchor alone, which its own arrival finishes (R72, R97, R103, R117). -/

namespace Sys2Proof.Machine

variable {s v z : State} {tag : Byte} {j : Job} {head zone : Nat}

/-! ## Without jobs, what a reply and a gate see of the rest of an arrival (R160) -/

/-- The gate stays, and what begins to wait for the transmitter waits behind what already does (R78, R187). -/
structure Onward (s t : State) : Prop where
  gcu : t.gcu = s.gcu
  waiting : s.blk.waiting <+: t.blk.waiting

theorem Onward.refl (s : State) : Onward s s := ⟨rfl, List.prefix_refl _⟩

theorem Onward.trans {t u : State} (h : Onward s t) (k : Onward t u) : Onward s u :=
  ⟨k.gcu.trans h.gcu, h.waiting.trans k.waiting⟩

theorem raise_waiting (b : Blk) (k : EventKind) : b.waiting <+: (b.raise k).waiting := by
  rcases b.raise_cases k with e | ⟨-, e⟩ | ⟨-, e⟩ <;> rw [e]
  exact List.prefix_append _ _

theorem unloadBegunBy_waiting (b : Blk) (c : UnloadCause) : b.waiting <+: (b.unloadBegunBy c).waiting := by
  unfold Blk.unloadBegunBy
  split
  · exact List.prefix_refl _
  · exact raise_waiting b .motion

theorem Moved.gcu {t : State} {p : Pos} {w : Option Window} (h : Moved s p w t) : t.gcu = s.gcu := by
  obtain ⟨n, m, ms, -, -, rfl⟩ := h
  rfl

/-- An unload with no job RUNNING (R38, R39). -/
theorem beginUnload_onward (hr : s.running = none) (hl : s.pos.act.isLoaded = true) (c : UnloadCause) :
    Onward s (s.beginUnload c) := by
  obtain ⟨u, hu, hunload⟩ := beginUnload_moved s hr hl c
  have hbegun : Onward s (u.setBlk (s.blk.unloadBegunBy c)) :=
    ⟨hu.gcu, by rw [State.setBlk_blk]; exact unloadBegunBy_waiting s.blk c⟩
  rw [hunload]
  split
  · obtain ⟨ms, -, hpark⟩ := arrivePark_eq (u.setBlk (s.blk.unloadBegunBy c)) false
      (by rw [State.setBlk_pos, hu.reads.1]; rfl)
    rw [hpark]
    exact ⟨hbegun.gcu, hbegun.waiting⟩
  · exact hbegun

/-- The rest test with no job RUNNING (R160). -/
theorem restTest_onward (h : s.running = none) : Onward s s.restTest := by
  rcases restTest_cases s with e | ⟨hact, e⟩
  · rw [e]
    exact .refl s
  · rw [e]
    exact beginUnload_onward h (by rw [hact]; rfl) .rest

/-- The reports that are left when the last job has finished. -/
theorem drain_onward (h : s.jct.table = []) (n : Nat) : Onward s (s.drain n) := by
  induction n generalizing s with
  | zero => exact ⟨rfl, List.prefix_refl _⟩
  | succ n ih =>
    cases hi : s.inbox with
    | nil =>
      rw [drain_of_nil hi]
      exact .refl s
    | cons m ms =>
      rw [drain_cons hi]
      have hsame : Onward s (s.setInbox ms) := ⟨rfl, List.prefix_refl _⟩
      by_cases hm : m = .restTest
      · subst hm
        have hjct : (s.setInbox ms).restTest.jct = s.jct := (restTest_motion _).jct
        exact (hsame.trans (restTest_onward (running_noJobs h))).trans
          (ih (s := (s.setInbox ms).restTest) (by rw [hjct]; exact h))
      · rw [jctTake_noJobs (s := s.setInbox ms) h hm]
        exact hsame.trans (ih (s := s.setInbox ms) h)

/-! ## The only head-zone ends before anything is measured (R103, R107, R117) -/

/-- The only head-zone ends with its entry, and the job finishes. -/
theorem endWith_only (hr : v.running = some j) (ho : OnlyHeadZone v j head zone) (c : Cursor) (f : Figures) (q : Result) :
    v.endWith ⟨j, c, f, head, zone⟩ q =
      (v.entered j head zone q).finishActive (finalOf (countsWith j.counts q)) none := by
  show (v.entered j head zone q).advance ⟨j, c, f, head, zone⟩ = _
  unfold State.advance
  rw [if_neg (by show ¬c.head + 1 < j.heads.length; rw [ho.heads]; simp),
    if_neg (by rw [show (v.entered j head zone q).jct.zoneFailed = false from ho.sound]; decide)]
  unfold State.nextZone
  rw [if_neg (by show ¬c.zone + 1 < j.zones.length; rw [ho.zones]; simp), active_entered hr, countResult_eq]
  rfl

/-- The active job finishes with no skew measurement under way: a window that may be open is abandoned (R103, R118). -/
theorem finishActive_moved (ha : s.active = some j) (hp : ¬(s.runningPhase.map Phase.isSkew) = some true) (final : FinalState)
    (why : Option FailReason) : ∃ n m ms x, s.finishActive final why =
      (((((s.moved s.pos none n m).setJct { s.jct with
        ctx := {}, recoverDue := none, table := s.jct.table.filter fun x => x.id != j.id
        finished := withFinished s.jct.finished (j.finish final why) }).raise .jobEnd).setRtm x).setInbox
          (.startTest :: .restTest :: (s.inbox ++ ms))) := by
  obtain ⟨n, m, ms, -, -, e⟩ := endWindow_moved s (.abandoned .job)
  have hend : s.endMeasurement = ((s.moved s.pos none n m).tells ms).setCtx {} := by
    unfold State.endMeasurement
    dsimp only
    rw [if_neg hp, e]
  unfold State.finishActive
  rw [ha]
  dsimp only
  unfold State.finishJob
  rw [if_pos (show j.isActive = true from List.find?_some ha), hend]
  dsimp only
  rw [joinFinished_eq]
  obtain ⟨x, hx⟩ := reload_eq (((s.moved s.pos none n m).tells ms).setJct { s.jct with
      ctx := {}, recoverDue := none, table := s.jct.table.filter fun x => x.id != j.id
      finished := withFinished s.jct.finished (j.finish final why) } |>.raise .jobEnd) .jobEnd
  exact ⟨n, m, ms, x, congrArg (fun z => (State.goOn z .restTest).goOn .startTest) hx⟩

/-- The only job, RUNNING at its only head-zone and not in a skew measurement, finishes with the entry `q` there: the record and
the map as R103 and R117 say, the gate as it was. -/
theorem endWith_finishes (hr : v.running = some j) (ho : OnlyHeadZone v j head zone)
    (hp : ¬(v.runningPhase.map Phase.isSkew) = some true) (c : Cursor) (f : Figures) (q : Result) :
    EndedWith v j head zone q (v.endWith ⟨j, c, f, head, zone⟩ q) ∧ Onward v (v.endWith ⟨j, c, f, head, zone⟩ q) ∧
      (v.endWith ⟨j, c, f, head, zone⟩ q).jct.nextId = v.jct.nextId := by
  have ha := active_entered (head := head) (zone := zone) hr q
  have htable : (v.entered j head zone q).jct.table = [j.countResult head zone q] := by
    show v.jct.table.map _ = _
    rw [ho.table, List.map_cons, List.map_nil, if_pos (isActive_of_running (active_of_running hr).2)]
  have hphase : (v.entered j head zone q).runningPhase = v.runningPhase := by
    unfold State.runningPhase
    rw [show (v.entered j head zone q).running = some (j.countResult head zone q) from
      running_editActive (s := v.capture head zone q j.id) hr fun x => by rw [countResult_eq], hr, countResult_eq]
    rfl
  obtain ⟨n, m, ms, x, e⟩ := finishActive_moved ha (by rw [hphase]; exact hp) (finalOf (countsWith j.counts q)) none
  rw [endWith_only hr ho, e]
  refine ⟨⟨?_, ?_, ⟨rfl, rfl, rfl⟩, ?_, raise_has _ .jobEnd⟩, ⟨rfl, raise_waiting v.blk .jobEnd⟩, rfl⟩
  · show (v.entered j head zone q).jct.table.filter _ = []
    rw [htable]
    simp
  · show putEntry v.hmp.working head zone q j.id = _
    unfold putEntry
    simp only [put_eq]
  · show withFinished v.jct.finished ((j.countResult head zone q).finish _ none) = _
    rw [countResult_eq]
    rfl

/-! ## The whole arrival -/

/-- The anchor of a SPAN or SKEW job is its reference: decided at once (R72, R97, R107). -/
theorem decided_reference {x : Here} {c : Jct} {p : Pos} {ms : List JctMsg} {q : Result} (hx : x.head = s.prof.anchor)
    (hk : x.job.kind ≠ .qualify) (hq : referenceEntry x.job.kind = some q) :
    (s.taking tag j c p ms).decided x = some q := by
  unfold State.decided
  rw [if_pos ⟨hx, hk⟩, hq]

/-- The rest of an arrival whose reply waits first and whose only job has finished (R160, R187). -/
theorem finished_transmit {t : State} {fr : Frame} {ws : List Waiting} {q : Result} {n : Nat} (he : EndedWith s j head zone q z)
    (hw : z.blk.waiting = .reply fr false :: ws) (hs : z.blk.sending = none) (ht : (z.drain n).transmit = t) :
    EndedWith s j head zone q t ∧ t.jct.nextId = z.jct.nextId ∧ t.gcu = z.gcu ∧ t.chm = z.chm ∧
      t.blk.sending = some
        { frame := fr, isReply := true, reset := false, due := z.now + 1000 * (5 + fr.payload.length) } := by
  have hcarries := drain_carries z n
  have honward := drain_onward he.table n
  obtain ⟨hjct, hmap, -⟩ := drain_emptied he.table n
  obtain ⟨us, hus⟩ := honward.waiting
  rw [hw] at hus
  rw [transmit_reply (hcarries.sending.trans hs) hus.symm] at ht
  subst ht
  refine ⟨⟨?_, ?_, ?_, ?_, hcarries.raised .jobEnd he.event⟩, congrArg Jct.nextId hjct, honward.gcu, hcarries.chm, ?_⟩
  · show (z.drain n).jct.table = []
    rw [hjct]
    exact he.table
  · show (z.drain n).hmp.working = _
    rw [hmap]
    exact he.working
  · show (z.drain n).hmp.unpub = true ∧ (z.drain n).hmp.published = _ ∧ (z.drain n).hmp.gen = _
    rw [hmap]
    exact he.map
  · show (z.drain n).jct.finished = _
    rw [hjct]
    exact he.record
  · rw [← hcarries.now]
    rfl

/-- The whole arrival of a submission whose only head-zone is the reference: the job has finished with that entry. -/
theorem filed_refers {q : Result} (h : s.LinkReady) (ht : s.jct.table = []) (hsel : s.flc.selectBench = false)
    (hspi : s.flc.spindleBench = false) (hhot : s.chm.level ≠ .hot) (hj : j.state = .queued) (hh : j.heads = [head])
    (hz : j.zones = [zone]) (hx : excludedIn s.hmp.working head = false) (ha : head = s.prof.anchor) (hk : j.kind ≠ .qualify)
    (hq : referenceEntry j.kind = some q) {t : State}
    (e : (s.taking tag j (s.jct.filed j) s.pos [.startTest]).finish = t) :
    EndedWith s (j.start s.prof) head zone q t ∧ t.jct.nextId = (s.jct.filed j).nextId ∧ t.gcu = s.gcu ∧ t.chm = s.chm ∧
      t.blk.sending = some
        { frame := { kind := 0x80, tag := tag, payload := submitAck j }, isReply := true, reset := false
          due := s.now + 7000 } := by
  let v := s.taking tag j (s.jct.started j s.prof) s.pos []
  have hr : v.running = some (j.start s.prof) := taking_running rfl
  have hp : ¬(v.runningPhase.map Phase.isSkew) = some true := by
    unfold State.runningPhase
    rw [hr]
    exact nofun
  obtain ⟨hended, honward, hnext⟩ := endWith_finishes hr ⟨rfl, hh, hz, rfl⟩ hp
    { zone := 0, head := 0, phase := .prepare, retries := 0, failedZones := 0 } (resolveFigures s.prof j) q
  have hwork := endWith_work v ⟨j.start s.prof, { zone := 0, head := 0, phase := .prepare, retries := 0, failedZones := 0 },
    resolveFigures s.prof j, head, zone⟩ q
  have htake : v.takeUp = v.endWith ⟨j.start s.prof,
      { zone := 0, head := 0, phase := .prepare, retries := 0, failedZones := 0 }, resolveFigures s.prof j, head, zone⟩ q := by
    rw [started_takeUp (by rw [hh]; rfl) (by rw [hz]; rfl) hx rfl, decided_reference ha hk hq, Option.elim_some]
  have hcarries := hwork.carries
  rw [← htake] at hended honward hnext hcarries
  obtain ⟨us, hus⟩ := honward.waiting
  have hdrain : (v.takeUp.drain 65534).transmit = t := by
    rw [← e]
    unfold State.finish
    show _ = (State.drain (65534 + 1 + 1) _).transmit
    rw [filed_starts ht hsel hspi hhot hj]
  obtain ⟨hend, hid, hgate, hchm, hsending⟩ := finished_transmit hended hus.symm (hcarries.sending.trans h.sending) hdrain
  refine ⟨⟨hend.table, hend.working, hend.map, hend.record, hend.event⟩, hid.trans hnext, hgate.trans honward.gcu,
    hchm.trans hcarries.chm, hsending.trans ?_⟩
  rw [hcarries.now]
  rfl

end Sys2Proof.Machine
end

section
/-! PROOF. The obligation on JOB_SUBMIT (R65, R72, R97 to R102, R106, R107, R117). -/

namespace Sys2Proof.Machine

variable {s : State} {tag kind : Byte} {heads zones : List Byte} {options : List (Byte × Half)} {p : Profile} {j : Job}

/-! ## The first head and zone of the record (R101) -/

theorem jobOf_heads_first (h : Byte) (hs : List Byte) : (s.jobOf kind (h :: hs) zones options).heads[0]? = some h.toNat := by
  show (keepFirst [] (h.toNat :: hs.map BitVec.toNat))[0]? = _
  rw [keepFirst_new (List.not_mem_nil)]
  rfl

theorem jobOf_heads_only (h : Byte) : (s.jobOf kind [h] zones options).heads = [h.toNat] := keepFirst_new List.not_mem_nil

theorem jobOf_zones_first (hm : zones ≠ []) (hz : ∀ z ∈ zones, z.toNat < 24) :
    ∃ z, (s.jobOf kind heads zones options).zones[0]? = some z := by
  obtain ⟨z, hmem⟩ := List.exists_mem_of_ne_nil _ hm
  have hkept : z.toNat ∈ orderZones (zones.map BitVec.toNat) :=
    (mem_orderZones (List.forall_mem_map.mpr hz)).mpr (List.mem_map_of_mem hmem)
  exact ⟨_, List.getElem?_eq_getElem (List.length_pos_of_mem hkept)⟩

theorem jobOf_zones_only {z : Byte} (hz : z.toNat < 24) : (s.jobOf kind heads [z] options).zones = [z.toNat] := by
  refine List.perm_singleton.mp ((List.perm_ext_iff_of_nodup orderZones_nodup (List.nodup_singleton _)).mpr fun n => ?_)
  exact mem_orderZones fun x hx => by rw [List.mem_singleton.mp hx]; exact hz

theorem jobOf_kind_qualify (hk : kind.toNat = 0) : (s.jobOf kind heads zones options).kind = .qualify := by
  show (JobKind.ofCode kind.toNat).getD .qualify = _
  rw [hk]
  rfl

/-- A SPAN or SKEW job, and the entry that its reference head has (R72, R97). -/
theorem jobOf_kind_reference (h1 : 1 ≤ kind.toNat) (h2 : kind.toNat ≤ 2) :
    (s.jobOf kind heads zones options).kind ≠ .qualify ∧ referenceEntry (s.jobOf kind heads zones options).kind =
      some (if kind.toNat = 1 then .span .reference else .skew .reference) := by
  show (JobKind.ofCode kind.toNat).getD .qualify ≠ _ ∧ referenceEntry ((JobKind.ofCode kind.toNat).getD .qualify) = _
  obtain e | e : kind.toNat = 1 ∨ kind.toNat = 2 := by omega
  · rw [e]
    exact ⟨nofun, rfl⟩
  · rw [e]
    exact ⟨nofun, rfl⟩

/-! ## The figures (R65, R99) -/

theorem resolveFigures_spec (p : Profile) (j : Job) : FiguresOf p j (resolveFigures p j) := by
  refine ⟨rfl, rfl, ?_, ⟨rfl, rfl⟩, rfl⟩
  show (if j.kind = .qualify then _ else reducedJog _ _) = _
  by_cases hk : j.kind = .qualify
  · rw [if_pos hk, if_neg fun h => h.1 hk]
  · rw [if_neg hk]
    exact if_congr (iff_and_self.mpr fun _ => hk) rfl rfl

/-- The indication of a reduced J, for SPAN and SKEW alike (R65; log 19). -/
theorem jogReduced_eq (p : Profile) (j : Job) : jogReduced p j =
    decide (j.kind ≠ .qualify ∧ 8191 < (resolveFigures p j).centre.natAbs + j.options.jog.getD p.jog) := by
  unfold jogReduced
  rw [Bool.decide_and, bne, decide_not]
  rfl

theorem jogReduced_of_measured (hk : j.kind ≠ .qualify) : jogReduced p j =
    decide (8191 < (resolveFigures p j).centre.natAbs + j.options.jog.getD p.jog) := by
  rw [jogReduced_eq]
  exact decide_eq_decide.mpr (and_iff_right hk)

/-! ## The heads of the map -/

theorem excludedIn_of {m : List HeadRecord} {head : Nat} {r : HeadRecord} (h : m[head]? = some r) :
    excludedIn m head = r.excluded := by
  unfold excludedIn
  rw [h]
  rfl

theorem derivedIn_of {m : List HeadRecord} {head : Nat} {r : HeadRecord} (h : m[head]? = some r) :
    derivedIn m head = r.derived := by
  unfold derivedIn
  rw [h]

/-! ## The obligation -/

/-- What an accepted submission does, whole (R101, R102). -/
theorem jobSubmit_taken (h : s.LinkReady) (hl : 4 + heads.length + zones.length + 3 * options.length ≤ 240)
    (hk : kind.toNat ≤ 2) (hn : heads ≠ []) (hheads : ∀ x ∈ heads, x.toNat < s.prof.headCount) (hm : zones ≠ [])
    (hzones : ∀ x ∈ zones, x.toNat < s.prof.zoneCount) (ho : ∀ y ∈ options, y.1.toNat ≤ 3) (hroom : s.jct.table.length < 8)
    (hfin : s.jct.finished.length ≤ 8) (h1 : 1 ≤ s.jct.nextId) (h2 : s.jct.nextId ≤ 255) (hzc : s.prof.zoneCount ≤ 24)
    (hj : s.jobOf kind heads zones options = j) : Submitted s kind heads zones options j ∧
      exec (.jobSubmit tag kind heads zones options) s = .next (s.taking tag j (s.jct.filed j) s.pos [.startTest]).finish := by
  refine ⟨?_, jobSubmit_filed h hl ?_ hj⟩
  · rw [← hj]
    exact jobOf_submitted hk (fun z hz => (hzones z hz).trans_le hzc) (by omega) h1 h2
  · rw [submitCheck_table hk hn hheads hm hzones ho]
    exact if_neg (Nat.not_le.mpr hroom)

/-- Settles O40: a failing check refuses (`jobSubmit_refused`), and an accepted submission (`jobSubmit_taken`) waits
(`filed_waits`), orders its spin-up (`filed_spins`), or finishes with the entry of its reference (`filed_refers`). -/
theorem jobSubmitChecksAndQueues : Obligations.JobSubmitChecksAndQueues := by
  unfold Obligations.JobSubmitChecksAndQueues
  intro s tag kind heads zones options h hl
  refine ⟨fun hk => jobSubmit_refused h hl (submitCheck_kind hk), fun hk => ⟨?_, ?_, fun hn hheads => ⟨?_, ?_,
    fun hm hzones => ⟨?_, fun ho => ⟨?_, fun hroom hfin h1 h2 hzc => ?_⟩⟩⟩⟩⟩
  · rintro rfl
    exact jobSubmit_refused h hl (submitCheck_noHeads hk)
  · rintro before x after rfl hb hx
    exact jobSubmit_refused h hl (submitCheck_badHead hk hb hx)
  · rintro rfl
    exact jobSubmit_refused h hl (submitCheck_noZones hk hn hheads)
  · rintro before x after rfl hb hx
    exact jobSubmit_refused h hl (submitCheck_badZone hk hn hheads hb hx)
  · intro before x after e hb hx
    exact jobSubmit_refused h hl (submitCheck_badOption hk hn hheads hm hzones e hb hx)
  · intro hfull
    exact jobSubmit_refused h hl ((submitCheck_table hk hn hheads hm hzones ho).trans (if_pos hfull))
  · have hz24 : ∀ z ∈ zones, z.toNat < 24 := fun z hz => (hzones z hz).trans_le hzc
    obtain ⟨hsub, hexec⟩ := jobSubmit_taken (tag := tag) h hl hk hn hheads hm hzones ho hroom hfin h1 h2 hzc rfl
    have hqueued : (s.jobOf kind heads zones options).state = .queued := rfl
    refine ⟨fun hw => ⟨_, hsub, hexec.trans (congrArg Host.Outcome.next (filed_waits h hw))⟩,
      fun x xs r hx ht hsel hspi hhot hs hr hexcl hmeas => ?_, fun x z r hx hz h1k ha ht hsel hspi hhot hr hexcl => ?_⟩
    · subst hx
      obtain ⟨zone, hzone⟩ := jobOf_zones_first (s := s) (kind := kind) (heads := x :: xs) (options := options) hm hz24
      have hfirst : (s.jobOf kind (x :: xs) zones options).kind = .qualify ∨
          (x.toNat ≠ s.prof.anchor ∧ derivedIn s.hmp.working x.toNat = .qualified) :=
        hmeas.imp jobOf_kind_qualify fun hd => ⟨hd.1, (derivedIn_of hr).trans hd.2⟩
      generalize hj : s.jobOf kind (x :: xs) zones options = j at hsub hexec hqueued hzone hfirst
      have hhead : j.heads[0]? = some x.toNat := by rw [← hj]; exact jobOf_heads_first x xs
      have hfinish := filed_spins (tag := tag) h ht hsel hspi hhot hqueued hhead hzone ((excludedIn_of hr).trans hexcl) hfirst hs
      refine ⟨_, j, _, hexec.trans (congrArg Host.Outcome.next hfinish), hsub, resolveFigures_spec s.prof j, ?_, rfl, rfl, rfl,
        rfl, rfl, rfl, rfl, rfl, rfl, rfl, rfl⟩
      rw [← jogReduced_eq]
      rfl
    · subst hx hz
      obtain ⟨hne, hentry⟩ := jobOf_kind_reference (s := s) (heads := [x]) (zones := [z]) (options := options) h1k hk
      generalize hj : s.jobOf kind [x] [z] options = j at hsub hexec hqueued hne hentry
      have hhead : j.heads = [x.toNat] := by rw [← hj]; exact jobOf_heads_only x
      have hzone : j.zones = [z.toNat] := by rw [← hj]; exact jobOf_zones_only (hz24 z List.mem_cons_self)
      obtain ⟨hended, hrest⟩ := filed_refers (tag := tag) h ht hsel hspi hhot hqueued hhead hzone
        ((excludedIn_of hr).trans hexcl) ha hne hentry rfl
      refine ⟨_, j, _, hexec, hsub, resolveFigures_spec s.prof j, ?_, hrest⟩
      rw [← jogReduced_of_measured hne]
      exact ⟨hended.table, hended.working, hended.map, hended.record, hended.event⟩

end Sys2Proof.Machine
end

section
/-! PROOF. What is left of a gate that has ended while the Job Controller goes on: its record, its stages and its overflow
indication stand until the next index starts a gate (R79, R80, R85; log 15, log 16). -/

namespace Sys2Proof.Machine

variable {s t u v : State}

/-! ## A gate that has ended -/

/-- The stages, the overflow indication and the last ending record of the gate stand, and the engine selection stands or is the
anchor. -/
structure GateStands (s t : State) : Prop where
  stages : t.gcu.stageL = s.gcu.stageL ∧ t.gcu.stageU = s.gcu.stageU
  ended : t.gcu.overflow = s.gcu.overflow ∧ t.gcu.last = s.gcu.last
  lines : t.flc.engineHead = s.flc.engineHead ∨ t.flc.engineHead = s.prof.anchor
  prof : t.prof = s.prof

theorem GateStands.of (hg : t.gcu = s.gcu) (hl : t.flc.engineHead = s.flc.engineHead) (hp : t.prof = s.prof) :
    GateStands s t := ⟨by rw [hg]; exact ⟨rfl, rfl⟩, by rw [hg]; exact ⟨rfl, rfl⟩, .inl hl, hp⟩

theorem GateStands.trans (h : GateStands s t) (k : GateStands t u) : GateStands s u where
  stages := ⟨k.stages.1.trans h.stages.1, k.stages.2.trans h.stages.2⟩
  ended := ⟨k.ended.1.trans h.ended.1, k.ended.2.trans h.ended.2⟩
  lines := by
    rcases k.lines with hk | hk
    · rw [hk]
      exact h.lines
    · rw [hk, h.prof]
      exact .inr rfl
  prof := k.prof.trans h.prof

/-- The head-zone context holds no tally, and the probe is not selected for a gate (R88, R93). -/
def State.Untallied (s : State) : Prop := s.jct.ctx.tally = {} ∧ s.jct.ctx.probe = false

/-- No gate, no window and no tally is in hand, and the spindle is AT_SPEED with no spin-down pending. -/
structure State.GateFree (s : State) : Prop where
  window : s.window = none
  gate : s.gcu.state = .idle
  tally : s.Untallied
  spindle : s.pos.spindle = .atSpeed ∧ s.pos.spinDownPending = false

/-- A report that may wait behind others: one that changes nothing for a job that has its order, or the rest test. -/
def JctMsg.tail (m : JctMsg) : Bool := m.idle || m == .restTest

/-- `t` comes from `s` with no gate, window or tally taken in hand, and with no report beside those that may wait. -/
def StaysFree (s t : State) : Prop :=
  s.GateFree → t.GateFree ∧ GateStands s t ∧ (s.inbox.all JctMsg.tail = true → t.inbox.all JctMsg.tail = true)

theorem StaysFree.trans (h : StaysFree s t) (k : StaysFree t u) : StaysFree s u := fun hf => by
  obtain ⟨ht, hs, hi⟩ := h hf
  obtain ⟨ku, ks, ki⟩ := k ht
  exact ⟨ku, hs.trans ks, ki ∘ hi⟩

/-- A change of the Job Controller's own state, of the map, of the timers or of the events. -/
theorem StaysFree.of (hp : t.pos = s.pos) (hw : t.window = s.window) (hg : t.gcu = s.gcu)
    (hl : t.flc.engineHead = s.flc.engineHead) (hprof : t.prof = s.prof) (hi : t.inbox = s.inbox)
    (hc : s.Untallied → t.Untallied) : StaysFree s t := fun h =>
  ⟨⟨hw.trans h.window, by rw [hg]; exact h.gate, hc h.tally, by rw [hp]; exact h.spindle⟩, .of hg hl hprof,
    fun k => by rw [hi]; exact k⟩

theorem StaysFree.refl (s : State) : StaysFree s s := .of rfl rfl rfl rfl rfl rfl id

theorem untallied_of_empty (h : t.jct.ctx = {}) : t.Untallied := by
  unfold State.Untallied
  rw [h]
  exact ⟨rfl, rfl⟩

theorem await_staysFree (a : Option Await) (w : Option WaitCond) : StaysFree s (s.await a w) := .of rfl rfl rfl rfl rfl rfl id

theorem editActive_staysFree (g : Job → Job) : StaysFree s (s.editActive g) := .of rfl rfl rfl rfl rfl rfl id

theorem enterPhase_staysFree (p : Phase) : StaysFree s (s.enterPhase p) := editActive_staysFree _

theorem capture_staysFree (head zone : Nat) (r : Result) (n : Nat) : StaysFree s (s.capture head zone r n) :=
  .of rfl rfl rfl rfl rfl rfl id

/-! ## What the Job Controller goes on with (log 15) -/

/-- The continuations that the end of a head-zone or of a job puts before the reports that wait. -/
def continuations : List (List JctMsg) := [[], [.takeUp], [.prepare], [.startTest, .restTest]]

/-- `t` comes from such a state, with continuations before its reports. -/
def Leads (s t : State) : Prop := ∃ v hd, StaysFree s v ∧ hd ∈ continuations ∧ t = v.setInbox (hd ++ v.inbox)

theorem StaysFree.leads (h : StaysFree s t) : Leads s t := ⟨t, [], h, by simp [continuations], rfl⟩

theorem StaysFree.takesUp (h : StaysFree s t) : Leads s (t.goOn .takeUp) := ⟨t, [.takeUp], h, by simp [continuations], rfl⟩

theorem StaysFree.prepares (h : StaysFree s t) : Leads s (t.goOn .prepare) := ⟨t, [.prepare], h, by simp [continuations], rfl⟩

theorem StaysFree.andLeads (h : StaysFree s t) (k : Leads t u) : Leads s u := by
  obtain ⟨v, hd, hv, hm, e⟩ := k
  exact ⟨v, hd, h.trans hv, hm, e⟩

/-! ## The end of a measurement, of a head-zone and of a job (R93, R103, R107, R117) -/

/-- With no gate and no probe in hand the end of the measurement empties the context alone (R93, R118). -/
theorem endMeasurement_gateFree (hw : s.window = none) (hg : s.gcu.state = .idle) (hp : s.jct.ctx.probe = false) :
    s.endMeasurement = s.setCtx {} := by
  have hstop : s.stopSkew = s.setCtx { s.jct.ctx with tally := {}, probe := false } := by
    unfold State.stopSkew State.abortGate
    rw [hg, hp]
    rfl
  unfold State.endMeasurement State.endWindow
  rw [hw]
  dsimp only
  split
  · rw [hstop]
    rfl
  · rfl

theorem endMeasurement_staysFree : StaysFree s s.endMeasurement := fun h => by
  rw [endMeasurement_gateFree h.window h.gate h.tally.2]
  exact StaysFree.of (s := s) (t := s.setCtx {}) rfl rfl rfl rfl rfl rfl (fun _ => untallied_of_empty rfl) h

theorem finishJob_leads (j : Job) (final : FinalState) (why : Option FailReason) : Leads s (s.finishJob j final why) := by
  unfold State.finishJob
  extract_lets s1 q s2 q2 s3
  have h1 : StaysFree s s2 := by
    show StaysFree s (if j.isActive then s1.setJct _ else s)
    split
    · exact endMeasurement_staysFree.trans (.of rfl rfl rfl rfl rfl rfl id)
    · exact .refl s
  obtain ⟨r, e⟩ := reload_eq (s3.raise .jobEnd) .jobEnd
  rw [e]
  exact ⟨_, [.startTest, .restTest], h1.trans (u := (s3.raise .jobEnd).setRtm r) (.of rfl rfl rfl rfl rfl rfl id),
    by simp [continuations], rfl⟩

theorem finishActive_leads (final : FinalState) (why : Option FailReason) : Leads s (s.finishActive final why) := by
  unfold State.finishActive
  split
  · exact finishJob_leads _ _ _
  · exact (StaysFree.refl s).leads

theorem nextZone_leads (x : Here) (n : Nat) : Leads s (s.nextZone x n) := by
  unfold State.nextZone
  split
  · exact StaysFree.takesUp (.of rfl rfl rfl rfl rfl rfl fun _ => untallied_of_empty rfl)
  · exact finishActive_leads _ _

theorem advance_leads (x : Here) : Leads s (s.advance x) := by
  unfold State.advance
  split
  · exact StaysFree.takesUp (.of rfl rfl rfl rfl rfl rfl fun _ => untallied_of_empty rfl)
  · split
    · split
      · exact finishActive_leads _ _
      · exact nextZone_leads _ _
    · exact nextZone_leads _ _

theorem endWith_leads (x : Here) (r : Result) : Leads s (s.endWith x r) :=
  ((capture_staysFree _ _ _ _).trans (editActive_staysFree _)).andLeads (advance_leads x)

theorem skipHead_leads (x : Here) : Leads s (s.skipHead x) := (editActive_staysFree _).andLeads (advance_leads x)

theorem retry_leads : Leads s s.retry :=
  StaysFree.prepares (.of rfl rfl rfl rfl rfl rfl fun _ => untallied_of_empty rfl)

theorem failHead_leads (x : Here) (r : Reason) : Leads s (s.failHead x r) := by
  unfold State.failHead
  split
  · exact retry_leads
  · exact endWith_leads _ _

theorem takeUp_leads : Leads s s.takeUp := by
  unfold State.takeUp
  split
  · exact (StaysFree.refl s).leads
  · split
    · exact skipHead_leads _
    · split
      · exact endWith_leads _ _
      · exact StaysFree.prepares (.of rfl rfl rfl rfl rfl rfl fun _ => untallied_of_empty rfl)

theorem startTest_leads : Leads s s.startTest := by
  unfold State.startTest
  split
  · exact StaysFree.takesUp (.of rfl rfl rfl rfl rfl rfl fun _ => untallied_of_empty rfl)
  · exact (StaysFree.refl s).leads

/-! ## Motions (R29, R32, R33, R35) -/

theorem idle_tail {ms : List JctMsg} (h : ms.all JctMsg.idle = true) : ms.all JctMsg.tail = true :=
  List.all_eq_true.mpr fun m hm => by
    unfold JctMsg.tail
    rw [List.all_eq_true.mp h m hm]
    rfl

theorem Drove.staysFree {q : Pos} (h : Drove s q t) (hq : q.spindle = s.pos.spindle)
    (hd : q.spinDownPending = s.pos.spinDownPending) : StaysFree s t := fun hf => by
  obtain ⟨ms, hm, rfl⟩ := h
  refine ⟨⟨hf.window, hf.gate, hf.tally, hq.trans hf.spindle.1, hd.trans hf.spindle.2⟩, .of rfl rfl rfl, fun k => ?_⟩
  show (s.inbox ++ ms).all JctMsg.tail = true
  rw [List.all_append, k, idle_tail hm]
  rfl

/-- A seek order in FOLLOWING, outside a measurement, is a motion that leaves the spindle as it is. -/
theorem takeSeek_staysFree {track : Nat} {offset : Int} {o : Owner} {k : SeekTaken} (hu : s.Unmeasured)
    (ha : s.pos.act = .following) (h : s.takeSeek track offset o = .ok (k, t)) : StaysFree s t := by
  have hd : Drove s _ (s.discardHeld .replaced) := discardHeld_drove (by decide) (by decide)
  have hp : (s.discardHeld .replaced).pos.act ≠ .parked := by
    rw [hd.pos]
    show s.pos.act ≠ .parked
    rw [ha]
    decide
  have h0 : StaysFree s (s.discardHeld .replaced) := hd.staysFree rfl rfl
  unfold State.takeSeek at h
  rw [ha] at h
  dsimp only at h
  split at h
  · split at h
    · cases h
      exact h0
    · cases h
      exact h0.trans ((startJog_drove (hd.unmeasured hu) hp _ _).staysFree rfl rfl)
  · unfold State.seekOrHold at h
    dsimp only at h
    split at h
    · cases h
      exact h0.trans ((startSeek_drove (hd.unmeasured hu) hp _ _ _).staysFree rfl rfl)
    · cases h
      exact (hd.setPos _).staysFree (by rw [hd.pos]; rfl) (by rw [hd.pos]; rfl)

/-- A load order (R29): refused, not needed, or begun on the ramp with the anchor selected. -/
theorem takeLoad_staysFree {o : Owner} (h : s.takeLoad o = .ok t) : StaysFree s t := by
  unfold State.takeLoad at h
  cases ha : s.pos.act <;> rw [ha] at h
  case loading | unloading => cases h
  case acquiring | following | seeking | settling =>
    cases h
    exact .refl s
  case parked =>
    dsimp only at h
    split at h
    · cases h
    split at h
    · cases h
    split at h
    · cases h
    obtain ⟨m, -, e⟩ := selectHead_parked ha s.prof.anchor
    rw [e, setAct_from_parked (s := (s.setFlc { s.flc with engineHead := s.prof.anchor }).setSdc { s.sdc with marker := m }) ha
      (by decide)] at h
    cases h
    intro hf
    refine ⟨⟨hf.window, hf.gate, hf.tally, hf.spindle⟩, ⟨⟨rfl, rfl⟩, ⟨rfl, rfl⟩, .inr rfl, rfl⟩, fun k => ?_⟩
    show (s.inbox ++ [JctMsg.posChanged]).all JctMsg.tail = true
    rw [List.all_append, k]
    rfl

end Sys2Proof.Machine
end

section
/-! PROOF. From the end of a gate the rest of the arrival leaves its record, its stages and its overflow indication, whatever
head-zones and jobs come next (R79, R80, R85, R88, R106, R107; log 15, log 16). -/

namespace Sys2Proof.Machine

variable {s t u v : State} {j : Job} {c : Cursor} {f : Figures} {head zone : Nat} {x : Here}

/-! ## What the taking of a report comes to -/

/-- The RUNNING job has gone past ZONE_SEEK: it has its gate or its window, or the skew phase of another record. -/
def State.Posted (s : State) : Prop := ∃ p, s.runningPhase = some p ∧ p ≠ .prepare ∧ p ≠ .zoneSeek

/-- A continuation that only the front of the reports may hold. -/
def JctMsg.leading (m : JctMsg) : Bool := m == .takeUp || m == .prepare || m == .startTest

/-- Reports that may wait, behind at most one continuation. -/
def Queued : List JctMsg → Prop
  | [] => True
  | m :: ms => (m.leading || m.tail) = true ∧ ms.all JctMsg.tail = true

/-- A report that changes nothing while no job is RUNNING, or the rest test. -/
def JctMsg.resting (m : JctMsg) : Bool := m.needsRunning || m == .restTest

/-- The ended gate stands, no tally is in hand, and what is left of the arrival finds no gate in hand, or the job past ZONE_SEEK, or
no job RUNNING and none to start. -/
structure Comes (s t : State) : Prop where
  stands : GateStands s t
  tally : t.Untallied
  next : (t.GateFree ∧ Queued t.inbox) ∨ (t.Posted ∧ t.inbox.all JctMsg.tail = true) ∨
    (t.running = none ∧ t.window = none ∧ t.inbox.all JctMsg.resting = true)

theorem queued_of_tail {ms : List JctMsg} (h : ms.all JctMsg.tail = true) : Queued ms := by
  cases ms with
  | nil => trivial
  | cons m ms =>
    rw [List.all_cons, Bool.and_eq_true] at h
    exact ⟨by rw [h.1, Bool.or_true], h.2⟩

theorem Leads.free (h : Leads s t) (hf : s.GateFree) (hi : s.inbox.all JctMsg.tail = true) :
    t.GateFree ∧ GateStands s t ∧ Queued t.inbox := by
  obtain ⟨v, hd, hv, hm, rfl⟩ := h
  obtain ⟨hfree, hstands, htail⟩ := hv hf
  refine ⟨⟨hfree.window, hfree.gate, hfree.tally, hfree.spindle⟩,
    ⟨hstands.stages, hstands.ended, hstands.lines, hstands.prof⟩, ?_⟩
  show Queued (hd ++ v.inbox)
  have hrest := htail hi
  simp only [continuations, List.mem_cons, List.not_mem_nil, or_false] at hm
  rcases hm with rfl | rfl | rfl | rfl
  · exact queued_of_tail hrest
  · exact ⟨rfl, hrest⟩
  · exact ⟨rfl, hrest⟩
  · exact ⟨rfl, by show (JctMsg.restTest :: v.inbox).all JctMsg.tail = true; rw [List.all_cons, hrest]; rfl⟩

theorem Leads.comes (h : Leads s t) (hf : s.GateFree) (hi : s.inbox.all JctMsg.tail = true) : Comes s t := by
  obtain ⟨hfree, hstands, hqueued⟩ := h.free hf hi
  exact ⟨hstands, hfree.tally, .inl ⟨hfree, hqueued⟩⟩

theorem StaysFree.andComes (h : StaysFree s t) (hf : s.GateFree) (hi : s.inbox.all JctMsg.tail = true)
    (k : t.GateFree → t.inbox.all JctMsg.tail = true → Comes t u) : Comes s u := by
  obtain ⟨hfree, hstands, htail⟩ := h hf
  have hu := k hfree (htail hi)
  exact ⟨hstands.trans hu.stands, hu.tally, hu.next⟩

/-! ## The orders of a head-zone (R110, R112 to R114) -/

/-- An opening order in FOLLOWING with no window open (R45). -/
theorem collect_eq (ha : s.pos.act = .following) (hw : s.window = none) (p : Phase) (k : WindowKind) : ∃ w,
    s.collect x p k = ((s.enterPhase p).await (some .window) none).setWindow (some w) := by
  refine ⟨s.newWindow k x.head x.figures.w s.jct.attempt, ?_⟩
  unfold State.collect State.openWindow State.endWindow
  rw [show ((s.enterPhase p).await (some .window) none).window = none from hw]
  exact if_pos ha

theorem collect_comes (hr : s.running = some j) (hc : j.cursor = some c) (ha : s.pos.act = .following) {p : Phase}
    (hp : p ≠ .prepare ∧ p ≠ .zoneSeek) (k : WindowKind) (hf : s.GateFree) (hi : s.inbox.all JctMsg.tail = true) :
    Comes s (s.collect x p k) := by
  obtain ⟨w, e⟩ := collect_eq (x := x) ha hf.window p k
  rw [e]
  exact ⟨.of rfl rfl rfl, hf.tally,
    .inr (.inl ⟨⟨p, runningPhase_of (s := (s.enterPhase p).await _ _) (running_enterPhase hr hc p) rfl, hp⟩, hi⟩)⟩

/-- An arm order for an IDLE gate (R79, R114). -/
theorem armed_of_idle (hg : s.gcu.state = .idle) (mode : GateMode) (n : Option Nat) : s.arm mode n =
    (s.await (some .gate) none).setGcu
      { s.gcu with state := .armed, mode := mode, head := n, attempt := s.jct.attempt } := by
  unfold State.arm
  dsimp only
  rw [armGate_idle (s := s.await (some .gate) none) hg]
  rfl

/-- PERIOD with the gate IDLE: the period gate is armed, its stages those of the last ending (R79, R88, R89). -/
theorem startPeriod_eq (hg : s.gcu.state = .idle) : s.startPeriod =
    (((s.enterPhase .period).setCtx { s.jct.ctx with tally := {}, probe := false }).await (some .gate) none).setGcu
      { s.gcu with state := .armed, mode := .chained, head := none, attempt := s.jct.attempt } :=
  armed_of_idle (s := (s.enterPhase .period).setCtx { s.jct.ctx with tally := {}, probe := false }) hg .chained none

theorem startPeriod_comes (hr : s.running = some j) (hc : j.cursor = some c) (hf : s.GateFree)
    (hi : s.inbox.all JctMsg.tail = true) : Comes s s.startPeriod := by
  rw [startPeriod_eq hf.gate]
  exact ⟨⟨⟨rfl, rfl⟩, ⟨rfl, rfl⟩, .inl rfl, rfl⟩, ⟨rfl, rfl⟩,
    .inr (.inl ⟨⟨.period, runningPhase_of (s := s.enterPhase .period) (running_enterPhase hr hc .period) rfl, by decide⟩, hi⟩)⟩

/-- A jog order in FOLLOWING outside a measurement (R35, R113). -/
theorem jogTo_staysFree (hu : s.Unmeasured) (ha : s.pos.act = .following) (p : Phase) (offset : Int) :
    StaysFree s (s.jogTo x p offset) := by
  unfold State.jogTo State.takeJog
  rw [if_pos ha]
  exact (((startJog_drove hu (by rw [ha]; decide) _ _).staysFree rfl rfl).trans (enterPhase_staysFree p)).trans
    (await_staysFree _ _)

theorem zoneReached_comes (hr : s.running = some j) (hc : j.cursor = some c) (ha : s.pos.act = .following)
    (hu : s.Unmeasured) (hf : s.GateFree) (hi : s.inbox.all JctMsg.tail = true) : Comes s (s.zoneReached x) := by
  have hrun := running_zoneReached hr hc
  have hphase := (runningPhase_of hrun rfl).trans (runningPhase_of hr hc).symm
  let v := (s.editActive fun j => j.onCursor fun c => { c with failedZones := 0 }).await none none
  have hv : v.Unmeasured := ⟨hu.window, by rw [show v.runningPhase = s.runningPhase from hphase]; exact hu.skew⟩
  refine StaysFree.andComes (t := v) ((editActive_staysFree _).trans (await_staysFree _ _)) hf hi fun kf ki => ?_
  show Comes v (v.firstPhase x)
  unfold State.firstPhase
  split
  · exact collect_comes hrun rfl ha (by decide) _ kf ki
  · unfold State.jogFirst
    split
    · exact collect_comes hrun rfl ha (by decide) _ kf ki
    · exact (jogTo_staysFree hv ha _ _).leads.comes kf ki
  · exact startPeriod_comes hrun rfl kf ki

/-- ZONE_SEEK in FOLLOWING (R110). -/
theorem zoneSeek_comes (hr : s.running = some j) (hc : j.cursor = some c) (ha : s.pos.act = .following) (hf : s.GateFree)
    (hi : s.inbox.all JctMsg.tail = true) : Comes s (s.zoneSeek x) := by
  have hu := unmeasured_zoneSeek hr hc hf.window
  refine StaysFree.andComes (enterPhase_staysFree .zoneSeek) hf hi fun kf ki => ?_
  unfold State.zoneSeek
  dsimp only
  cases hon : (s.enterPhase .zoneSeek).onZone x ((s.enterPhase .zoneSeek).prof.zoneTracks.getD x.zone 0) with
  | true => exact zoneReached_comes (running_enterPhase hr hc .zoneSeek) rfl ha hu kf ki
  | false =>
    rw [if_neg Bool.false_ne_true]
    split
    next s1 hs1 =>
      -- A seek that changes nothing is one to the track and the offset held, where the head-zone is on its zone.
      exfalso
      unfold State.takeSeek State.seekOrHold at hs1
      rw [show (s.enterPhase .zoneSeek).pos.act = .following from ha] at hs1
      unfold State.onZone at hon
      dsimp only at hs1
      split at hs1
      next ht =>
        split at hs1
        next ho =>
          rw [← ht, ← ho, show (s.enterPhase .zoneSeek).pos.act = .following from ha] at hon
          simp at hon
        next => cases hs1
      next => split at hs1 <;> cases hs1
    next s1 hs1 => exact ((takeSeek_staysFree hu ha hs1).trans (await_staysFree _ _)).leads.comes kf ki
    next s1 hs1 => exact ((takeSeek_staysFree hu ha hs1).trans (await_staysFree _ _)).leads.comes kf ki
    next => exact (((enterPhase_staysFree _).trans (await_staysFree _ _)).prepares).comes kf ki

/-! ## PREPARE (R108, R109) -/

theorem prepareLoad_leads : Leads s s.prepareLoad := by
  unfold State.prepareLoad
  split
  · exact ((takeLoad_staysFree ‹_›).trans (await_staysFree _ _)).leads
  · split
    · exact finishActive_leads _ _
    · exact (await_staysFree _ _).leads
    · exact (await_staysFree _ _).prepares
    · exact (await_staysFree _ _).leads

/-- The head-zone in hand is at the cursor of the RUNNING job. -/
theorem here_at (h : s.here = some x) : s.running = some x.job ∧ x.job.At x.cursor x.figures x.head x.zone := by
  unfold State.here at h
  split at h
  · cases h
  next j hj =>
    split at h
    next c f hc hf =>
      split at h
      next hd z hh hz =>
        cases h
        exact ⟨hj, hc, hf, hh, hz⟩
      · cases h
    · cases h

theorem prepare_comes (hf : s.GateFree) (hi : s.inbox.all JctMsg.tail = true) : Comes s s.prepare := by
  cases hx : s.here with
  | none =>
    unfold State.prepare
    rw [hx]
    exact (StaysFree.refl s).leads.comes hf hi
  | some x =>
    obtain ⟨hr, hat⟩ := here_at hx
    by_cases hp : x.cursor.phase = .prepare
    · rw [prepare_atSpeed hr hat hp hf.spindle]
      unfold State.prepareActuator
      cases ha : s.pos.act with
      | following => exact zoneSeek_comes hr hat.cursor ha hf hi
      | parked => exact prepareLoad_leads.comes hf hi
      | loading | acquiring =>
        dsimp only
        split <;> exact (await_staysFree _ _).leads.comes hf hi
      | seeking | settling | unloading => exact (await_staysFree _ _).leads.comes hf hi
    · unfold State.prepare
      rw [hx]
      dsimp only
      rw [if_neg hp]
      exact (StaysFree.refl s).leads.comes hf hi

theorem takePosChange_comes (hf : s.GateFree) (hi : s.inbox.all JctMsg.tail = true) : Comes s s.takePosChange := by
  unfold State.takePosChange
  split
  · exact prepare_comes hf hi
  · split
    · exact (await_staysFree _ _).leads.comes hf hi
    · exact (StaysFree.refl s).leads.comes hf hi
  · exact (StaysFree.refl s).leads.comes hf hi

/-! ## The rest test (R160) -/

/-- With no job RUNNING and no window open the rest test leaves the gate, the lines and the Job Controller, and hands on reports of
a RUNNING job alone. -/
theorem restTest_leaves (hr : s.running = none) (hw : s.window = none) : s.restTest.jct = s.jct ∧ GateStands s s.restTest ∧
    s.restTest.window = none ∧ (s.inbox.all JctMsg.resting = true → s.restTest.inbox.all JctMsg.resting = true) := by
  have hjct := (restTest_motion s).jct
  have hprof := (restTest_carries s).prof
  have hforJob : ∀ ms, ForJob ms → ms.all JctMsg.resting = true := fun ms h => List.all_eq_true.mpr fun m hm => by
    unfold JctMsg.resting
    rw [List.all_eq_true.mp h m hm]
    rfl
  rcases restTest_cases s with e | ⟨hact, e⟩
  · rw [e]
    exact ⟨rfl, .of rfl rfl rfl, hw, id⟩
  · refine ⟨hjct, ?_⟩
    obtain ⟨w, ⟨n, m, ms, hm, hn, rfl⟩, hunload⟩ := beginUnload_moved s hr (by rw [hact]; rfl) .rest
    have hclosed : s.windowAt .unloading = none := if_pos ⟨hact, by decide⟩
    have hhead : n = s.flc.engineHead := (hn (hclosed.trans hw.symm)).1
    have hunloading : (s.pos.unloadBegunBy .rest (s.now + s.prof.unloadMs * 200000)).act = .unloading := rfl
    generalize s.pos.unloadBegunBy .rest (s.now + s.prof.unloadMs * 200000) = p at hunload hunloading
    rw [hclosed] at hunload
    rw [e] at hprof ⊢
    rw [hunload] at hprof ⊢
    generalize hv : ((s.moved p none n m).tells ms).setBlk (s.blk.unloadBegunBy .rest) = v at hprof ⊢
    have hread : v.gcu = s.gcu ∧ v.flc.engineHead = n ∧ v.window = none ∧ v.inbox = s.inbox ++ ms ∧ v.pos.act = .unloading := by
      subst hv
      exact ⟨rfl, rfl, rfl, rfl, hunloading⟩
    clear hv
    obtain ⟨hgate, hlines, hwindow, hinbox, hunder⟩ := hread
    split at hprof
    next hramp =>
      rw [if_pos hramp]
      obtain ⟨ks, hk, hpark⟩ := arrivePark_eq v false hunder
      rw [hpark] at hprof ⊢
      refine ⟨.of hgate (hlines.trans hhead) hprof, hwindow, fun k => ?_⟩
      show (v.inbox ++ ks).all JctMsg.resting = true
      rw [hinbox, List.all_append, List.all_append, k, hforJob ms hm, hforJob ks hk]
      rfl
    next hramp =>
      rw [if_neg hramp]
      refine ⟨.of hgate (hlines.trans hhead) hprof, hwindow, fun k => ?_⟩
      rw [hinbox, List.all_append, k, hforJob ms hm]
      rfl

theorem resting_of_tail {ms : List JctMsg} (h : ms.all JctMsg.tail = true) : ms.all JctMsg.resting = true :=
  List.all_eq_true.mpr fun m hm => by
    have hk := List.all_eq_true.mp h m hm
    unfold JctMsg.tail JctMsg.idle at hk
    unfold JctMsg.resting JctMsg.needsRunning
    cases m <;> simp_all

theorem restTest_comes (hf : s.GateFree) (hi : s.inbox.all JctMsg.tail = true) : Comes s s.restTest := by
  cases hr : s.running with
  | some j =>
    rw [restTest_running (by rw [hr]; rfl)]
    exact (StaysFree.refl s).leads.comes hf hi
  | none =>
    obtain ⟨hjct, hstands, hwindow, hinbox⟩ := restTest_leaves hr hf.window
    refine ⟨hstands, ?_, .inr (.inr ⟨?_, hwindow, hinbox (resting_of_tail hi)⟩)⟩
    · unfold State.Untallied
      rw [hjct]
      exact hf.tally
    · unfold State.running State.active
      rw [hjct]
      exact hr

/-! ## The whole arrival -/

/-- A report with no gate in hand. -/
theorem jctTake_comes {m : JctMsg} (hm : (m.leading || m.tail) = true) (hf : s.GateFree)
    (hi : s.inbox.all JctMsg.tail = true) : Comes s (s.jctTake m) := by
  match m with
  | .takeUp => exact takeUp_leads.comes hf hi
  | .prepare => exact prepare_comes hf hi
  | .startTest => exact startTest_leads.comes hf hi
  | .restTest => exact restTest_comes hf hi
  | .posChanged => exact takePosChange_comes hf hi
  | .gateEnded r n =>
    show Comes s (s.takeGate r n)
    rw [takeGate_aborted (by simpa [JctMsg.leading, JctMsg.tail, JctMsg.idle] using hm)]
    exact (StaysFree.refl s).leads.comes hf hi
  | .moveEnded k (.interrupted x) n =>
    have hx : x ≠ .servoLost ∧ x ≠ .offTrack := by simpa [JctMsg.leading, JctMsg.tail, JctMsg.idle] using hm
    show Comes s (s.takeMove k (.interrupted x) n)
    rw [takeMove_interrupted hx.1 hx.2]
    exact (StaysFree.refl s).leads.comes hf hi

/-- With the job past ZONE_SEEK the reports that wait change nothing. -/
theorem State.Posted.drain (h : s.Posted) (hi : s.inbox.all JctMsg.tail = true) (n : Nat) : s.drain n = s.setInbox [] := by
  obtain ⟨p, hp, h1, h2⟩ := h
  have hrun : s.running.isSome = true := by
    unfold State.runningPhase at hp
    cases hr : s.running with
    | none => rw [hr] at hp; cases hp
    | some j => rfl
  have hord : s.Ordered := Obeys.ordered (s := s) ⟨hp, id⟩ h1 h2
  clear hp h1 h2
  induction n generalizing s with
  | zero => rfl
  | succ n ih =>
    cases hm : s.inbox with
    | nil =>
      rw [drain_of_nil hm, ← hm]
      rfl
    | cons m ms =>
      rw [hm, List.all_cons, Bool.and_eq_true] at hi
      have hsame : (s.setInbox ms).jctTake m = s.setInbox ms := by
        by_cases hidle : m.idle = true
        · exact (hord.setInbox ms).take hidle
        · obtain rfl : m = .restTest := by simpa [JctMsg.tail, hidle] using hi.1
          exact restTest_running (s := s.setInbox ms) hrun
      rw [drain_cons hm, hsame]
      exact ih (s := s.setInbox ms) hi.2 hrun (hord.setInbox ms)

/-- With no job RUNNING and none to start, the reports that wait leave the gate and the Job Controller. -/
theorem drain_rested (hr : s.running = none) (hw : s.window = none) (hi : s.inbox.all JctMsg.resting = true) (n : Nat) :
    GateStands s (s.drain n) ∧ (s.drain n).jct = s.jct := by
  induction n generalizing s with
  | zero => exact ⟨.of rfl rfl rfl, rfl⟩
  | succ n ih =>
    cases hm : s.inbox with
    | nil =>
      rw [drain_of_nil hm]
      exact ⟨.of rfl rfl rfl, rfl⟩
    | cons m ms =>
      rw [hm, List.all_cons, Bool.and_eq_true] at hi
      rw [drain_cons hm]
      by_cases hn : m.needsRunning = true
      · rw [jctTake_noneRuns (s := s.setInbox ms) hr hn]
        obtain ⟨hstands, hjct⟩ := ih (s := s.setInbox ms) hr hw hi.2
        exact ⟨⟨hstands.stages, hstands.ended, hstands.lines, hstands.prof⟩, hjct⟩
      · obtain rfl : m = .restTest := by simpa [JctMsg.resting, hn] using hi.1
        obtain ⟨hjct, hstands, hwindow, hinbox⟩ := restTest_leaves (s := s.setInbox ms) hr hw
        obtain ⟨kstands, kjct⟩ := ih (s := (s.setInbox ms).restTest)
          (by unfold State.running State.active; rw [hjct]; exact hr) hwindow (hinbox hi.2)
        have hall := hstands.trans kstands
        exact ⟨⟨hall.stages, hall.ended, hall.lines, hall.prof⟩, kjct.trans hjct⟩

/-- From a state with no gate in hand the rest of an arrival leaves the ended gate as it stands, and no tally is in hand after
it. -/
theorem drain_gateFree (hf : s.GateFree) (hi : Queued s.inbox) (n : Nat) :
    GateStands s (s.drain n) ∧ (s.drain n).Untallied := by
  induction n generalizing s with
  | zero => exact ⟨.of rfl rfl rfl, hf.tally⟩
  | succ n ih =>
    cases hm : s.inbox with
    | nil =>
      rw [drain_of_nil hm]
      exact ⟨.of rfl rfl rfl, hf.tally⟩
    | cons m ms =>
      rw [hm] at hi
      obtain ⟨hstands, htally, hnext⟩ := jctTake_comes (s := s.setInbox ms) hi.1
        ⟨hf.window, hf.gate, hf.tally, hf.spindle⟩ hi.2
      rw [drain_cons hm]
      have hall : ∀ {z}, GateStands ((s.setInbox ms).jctTake m) z → GateStands s z := fun k =>
        have h := hstands.trans k
        ⟨h.stages, h.ended, h.lines, h.prof⟩
      rcases hnext with ⟨hfree, hq⟩ | ⟨hposted, htail⟩ | ⟨hr, hw, hrest⟩
      · obtain ⟨kstands, ktally⟩ := ih hfree hq
        exact ⟨hall kstands, ktally⟩
      · rw [hposted.drain htail]
        exact ⟨hall (.of rfl rfl rfl), htally⟩
      · obtain ⟨kstands, kjct⟩ := drain_rested hr hw hrest n
        refine ⟨hall kstands, ?_⟩
        unfold State.Untallied
        rw [kjct]
        exact htally

end Sys2Proof.Machine
end

section
/-! PROOF. A skew measurement that fails, whose pairs are done, or that goes on to its next gate (R88 to R90, R92, R94, R103, R107,
R116, R117). -/

namespace Sys2Proof.Machine

variable {s t u v y : State} {j : Job} {c : Cursor} {f : Figures} {head zone : Nat} {p : Phase} {q : Result} {why : Reason}
  {m : JctMsg} {k : Option Cursor}

/-! ## The measurement under way -/

theorem SkewUnderWay.at (h : SkewUnderWay s j c f head zone p) : j.At c f head zone :=
  ⟨h.cursor, h.figures, h.atHead, h.atZone⟩

theorem SkewUnderWay.runningPhase (h : SkewUnderWay s j c f head zone p) : s.runningPhase = some p := by
  rw [runningPhase_of h.running h.cursor, h.phase]

/-- The measurement with another tally in hand. -/
theorem SkewUnderWay.setTally (h : SkewUnderWay s j c f head zone p) (x : Tally) :
    SkewUnderWay (s.setTally x) j c f head zone p :=
  ⟨h.inbox, h.running, h.kind, h.cursor, h.phase, h.figures, h.atHead, h.atZone, h.spindle, h.actuator, h.window⟩

/-- What the outcome of a skew measurement is said of, beside the head-zone context, is in `v` as in `s`. -/
structure SkewSame (s v : State) : Prop where
  table : v.jct.table = s.jct.table
  attempt : v.jct.attempt = s.jct.attempt
  finished : v.jct.finished = s.jct.finished
  sound : v.jct.zoneFailed = s.jct.zoneFailed
  map : v.hmp = s.hmp
  store : v.pst = s.pst
  heat : v.chm = s.chm
  place : v.pos.target = s.pos.target ∧ v.pos.offset = s.pos.offset

theorem SkewSame.trans (h : SkewSame s v) (k : SkewSame v u) : SkewSame s u :=
  ⟨k.table.trans h.table, k.attempt.trans h.attempt, k.finished.trans h.finished, k.sound.trans h.sound, k.map.trans h.map,
    k.store.trans h.store, k.heat.trans h.heat, k.place.1.trans h.place.1, k.place.2.trans h.place.2⟩

theorem SkewSame.running (h : SkewSame s v) : v.running = s.running := by
  unfold State.running State.active
  rw [h.table]

theorem SkewSame.prof (h : SkewSame s v) : v.prof = s.prof := congrArg Pst.profile h.store

theorem SkewSame.only (h : SkewSame s v) (k : OnlyHeadZone s j head zone) : OnlyHeadZone v j head zone :=
  ⟨h.table.trans k.table, k.heads, k.zones, h.sound.trans k.sound⟩

theorem SkewSame.ended (h : SkewSame s v) (k : EndedWith v j head zone q t) : EndedWith s j head zone q t := by
  have hworking := k.working
  have hmap := k.map
  have hrecord := k.record
  rw [h.map] at hworking hmap
  rw [h.finished] at hrecord
  exact ⟨k.table, hworking, hmap, hrecord, k.event⟩

theorem SkewSame.failed (h : SkewSame s v) (k : HeadFailed v j c head zone why t) : HeadFailed s j c head zone why t := by
  have hprof := h.prof
  refine ⟨fun hr => ?_, fun hr ho => h.ended (k.spent (by rw [hprof]; exact hr) (h.only ho))⟩
  obtain ⟨hcursor, hattempt, hmap, hfinished⟩ := k.retried (by rw [hprof]; exact hr)
  exact ⟨hcursor, by rw [hattempt, h.attempt], hmap.trans h.map, hfinished.trans h.finished⟩

theorem SkewSame.goesOn {x : Tally} (h : SkewSame s v) (k : SkewGoesOn v j c p x t) : SkewGoesOn s j c p x t := by
  obtain ⟨hact, htarget, hoffset, hspin⟩ := k.motion
  obtain ⟨hmap, hheat, hwindow, hfinished⟩ := k.kept
  exact ⟨k.running, k.tally, ⟨hact, htarget.trans h.place.1, hoffset.trans h.place.2, hspin⟩, hmap.trans h.map,
    hheat.trans h.heat, hwindow, hfinished.trans h.finished⟩

theorem SkewSame.done {x : Tally} (h : SkewSame s v) (k : PairsDone v j c f head zone x t) : PairsDone s j c f head zone x t := by
  have hprof := h.prof
  obtain ⟨hheat, hstore, hpublished⟩ := k.kept
  refine ⟨k.tally, ⟨hheat.trans h.heat, hstore.trans h.store, hpublished.trans (congrArg Hmp.published h.map)⟩,
    fun hm => h.failed (k.missed hm), fun hm hr => k.again hm (by rw [hprof]; exact hr), fun ha hp ho => ?_⟩
  have hcomputed := k.computed ha hp (h.only ho)
  rw [hprof] at hcomputed
  exact h.ended hcomputed

/-! ## The end of the arrival -/

/-- An arrival whose first report leads to `u`. -/
theorem finish_cons {ms : List JctMsg} (hi : y.inbox = m :: ms) (ht : (y.setInbox ms).jctTake m = u) :
    ∃ x w, y.finish = (u.drain 65535).setBlk { (u.drain 65535).blk with sending := x, waiting := w } := by
  have hd : y.drain Config.drainFuel = u.drain 65535 := by
    show y.drain (65535 + 1) = _
    rw [drain_cons hi, ht]
  unfold State.finish
  rw [hd]
  exact transmit_frame _

/-- What motion leaves before an arrival's end, the arrival leaves. -/
theorem Carries.andFrame (h : Carries s v) (k : MotionFrame v t) : MotionFrame s t :=
  ⟨k.now.trans h.now, k.chm.trans h.chm, k.pst.trans h.pst, k.free.trans h.free, k.pending.trans h.pending,
    k.period.trans h.period, k.indexRef.trans h.indexRef, k.counts.trans h.counts, by rw [k.flc, h.flc],
    k.published.trans h.published, k.gen.trans h.gen, k.table.trans h.table, k.asm.trans h.asm, k.buffer.trans h.buffer,
    k.counters.trans h.counters, k.lastFault.trans h.lastFault, k.mask.trans h.mask, fun e he => k.raised e (h.raised e he)⟩

/-- From the end of a head-zone with no gate in hand the arrival leaves the ended gate as it stands, and what motion and jobs
leave. -/
theorem finish_stands (hi : y.inbox = [m]) (ht : (y.setInbox []).jctTake m = u) (hl : Leads v u) (hw : Work v u)
    (hf : v.GateFree) (hv : v.inbox = []) : GateStands v y.finish ∧ y.finish.Untallied ∧ MotionFrame v y.finish := by
  obtain ⟨hfree, hstands, hqueued⟩ := hl.free hf (by rw [hv]; rfl)
  obtain ⟨kstands, ktally⟩ := drain_gateFree hfree hqueued 65535
  have hall := hstands.trans kstands
  obtain ⟨hnow, hchm, hpst, hfree, hpending, hperiod, hindex, -, hcounts, hflc, hpub, hgen, htable, hasm, hbuffer, hcounters,
    hfault, hmask, -, -, -, hraised⟩ := hw.carries.trans (drain_carries u 65535)
  obtain ⟨x, w, e⟩ := finish_cons hi ht
  rw [e]
  exact ⟨⟨hall.stages, hall.ended, hall.lines, hall.prof⟩, ktally, hnow, hchm, hpst, hfree, hpending, hperiod, hindex, hcounts,
    hflc, hpub, hgen, htable, hasm, hbuffer, hcounters, hfault, hmask, hraised⟩

/-! ## The last head-zone of the only job (R103, R107, R117) -/

/-- The active job, with no gate and no probe in hand, finishes (R93, R103). -/
theorem finishActive_gateFree (ha : s.active = some j) (hf : s.GateFree) (final : FinalState) (why : Option FailReason) :
    ∃ x, s.finishActive final why = (((s.setJct { s.jct with
      ctx := {}, recoverDue := none, table := s.jct.table.filter fun x => x.id != j.id
      finished := withFinished s.jct.finished (j.finish final why) }).raise .jobEnd).setRtm x).setInbox
        (.startTest :: .restTest :: s.inbox) := by
  unfold State.finishActive
  rw [ha]
  dsimp only
  unfold State.finishJob
  rw [if_pos (show j.isActive = true from List.find?_some ha), endMeasurement_gateFree hf.window hf.gate hf.tally.2]
  dsimp only
  rw [joinFinished_eq]
  obtain ⟨x, hx⟩ := reload_eq ((s.setJct { s.jct with
      ctx := {}, recoverDue := none, table := s.jct.table.filter fun x => x.id != j.id
      finished := withFinished s.jct.finished (j.finish final why) }).raise .jobEnd) .jobEnd
  exact ⟨x, congrArg (fun z => (State.goOn z .restTest).goOn .startTest) hx⟩

/-- The only head-zone of the only job ends with its entry, no gate in hand: the job finishes (R103, R107, R117). -/
theorem endWith_ended (hr : v.running = some j) (ho : OnlyHeadZone v j head zone) (hf : v.GateFree) (c : Cursor) (f : Figures)
    (q : Result) : EndedWith v j head zone q (v.endWith ⟨j, c, f, head, zone⟩ q) ∧
      (v.endWith ⟨j, c, f, head, zone⟩ q).window = none ∧ (v.endWith ⟨j, c, f, head, zone⟩ q).gcu = v.gcu := by
  have hfree : (v.entered j head zone q).GateFree := ⟨hf.window, hf.gate, hf.tally, hf.spindle⟩
  obtain ⟨x, e⟩ := finishActive_gateFree (active_entered (head := head) (zone := zone) hr q) hfree
    (finalOf (countsWith j.counts q)) none
  have htable : (v.entered j head zone q).jct.table = [j.countResult head zone q] := by
    show v.jct.table.map _ = _
    rw [ho.table, List.map_cons, List.map_nil, if_pos (isActive_of_running (active_of_running hr).2)]
  rw [endWith_only hr ho, e]
  refine ⟨⟨?_, ?_, ⟨rfl, rfl, rfl⟩, ?_, raise_has _ .jobEnd⟩, hf.window, rfl⟩
  · show (v.entered j head zone q).jct.table.filter _ = []
    rw [htable]
    simp
  · show putEntry v.hmp.working head zone q j.id = _
    unfold putEntry
    simp only [put_eq]
  · show withFinished v.jct.finished ((j.countResult head zone q).finish _ none) = _
    rw [countResult_eq]
    rfl

/-- The arrival that brings the only head-zone of the only job its entry: the job has finished, the gate as it stood. -/
theorem finish_ended (hi : y.inbox = [m]) (ht : (y.setInbox []).jctTake m = v.endWith ⟨j, c, f, head, zone⟩ q)
    (hr : v.running = some { j with cursor := k }) (ho : OnlyHeadZone v { j with cursor := k } head zone) (hf : v.GateFree) :
    EndedWith v j head zone q y.finish ∧ y.finish.window = none ∧ y.finish.gcu = v.gcu := by
  obtain ⟨hend, hwindow, hgate⟩ := endWith_ended hr ho hf c f q
  rw [show v.endWith ⟨{ j with cursor := k }, c, f, head, zone⟩ q = v.endWith ⟨j, c, f, head, zone⟩ q from rfl] at hend hwindow hgate
  rw [← ht] at hend hwindow hgate
  obtain ⟨hjct, hmap, hclosed, hevent⟩ := finish_emptied hi rfl hend.table
  obtain ⟨x, w, e⟩ := finish_cons hi rfl
  refine ⟨⟨by rw [hjct]; exact hend.table, by rw [hmap]; exact hend.working, by rw [hmap]; exact hend.map,
    by rw [hjct]; exact hend.record, hevent hend.event⟩, hclosed hwindow, ?_⟩
  rw [e]
  exact (drain_onward hend.table 65535).gcu.trans hgate

/-! ## The retry (R88, R89, R110, R116) -/

/-- ZONE_SEEK of a SKEW head-zone in FOLLOWING on the zone's track, the gate IDLE: the period gate is armed at once (R88, R89,
R110). -/
theorem zoneSeek_arms (hr : s.running = some j) (hc : j.cursor = some c) (hk : j.kind = .skew) (hg : s.gcu.state = .idle)
    (ha : s.pos.act = .following ∧ s.pos.target = s.prof.zoneTracks.getD zone 0) : ∃ x,
    s.zoneSeek ⟨j, c, f, head, zone⟩ = (s.setJct x).setGcu
      { s.gcu with state := .armed, mode := .chained, head := none, attempt := s.jct.attempt } ∧
    (s.setJct x).running = some { j with cursor := some { c with phase := .period, failedZones := 0 } } ∧
    x.attempt = s.jct.attempt ∧ x.finished = s.jct.finished ∧ x.ctx.await = some .gate ∧ x.ctx.tally = {} ∧
    x.ctx.probe = false := by
  have hon : (s.enterPhase .zoneSeek).onZone ⟨j, c, f, head, zone⟩ (s.prof.zoneTracks.getD zone 0) = true := by
    unfold State.onZone
    rw [show (s.enterPhase .zoneSeek).pos = s.pos from rfl, ha.1, ha.2, hk]
    simp
  let v := ((s.enterPhase .zoneSeek).editActive fun j => j.onCursor fun c => { c with failedZones := 0 }).await none none
  have hseek : s.zoneSeek ⟨j, c, f, head, zone⟩ = v.startPeriod := by
    unfold State.zoneSeek
    dsimp only
    rw [show (s.enterPhase .zoneSeek).prof = s.prof from rfl, hon, if_pos rfl]
    unfold State.zoneReached State.firstPhase
    dsimp only
    rw [hk]
  have hrun := running_zoneReached (running_enterPhase hr hc .zoneSeek) rfl
  rw [hseek, startPeriod_eq (s := v) hg]
  exact ⟨(((v.enterPhase .period).setCtx { v.jct.ctx with tally := {}, probe := false }).await (some .gate) none).jct, rfl,
    running_enterPhase (s := v) hrun rfl .period, rfl, rfl, rfl, rfl, rfl⟩

/-- The head-zone of a skew measurement starts again: from PREPARE, in FOLLOWING on the zone's track, to the period gate of a new
attempt (R88, R89, R108, R116). -/
theorem skew_retried (h : SkewUnderWay v j c f head zone p) (hg : v.gcu.state = .idle) (hi : y.inbox = [m])
    (ht : (y.setInbox []).jctTake m = v.retry) : ∃ x b,
    y.finish = (((v.setJct x).setGcu
      { v.gcu with state := .armed, mode := .chained, head := none, attempt := v.jct.attempt + 1 }).setInbox []).setBlk b ∧
    (v.setJct x).running =
      some { j with cursor := some { c with retries := c.retries + 1, phase := .period, failedZones := 0 } } ∧
    x.attempt = v.jct.attempt + 1 ∧ x.finished = v.jct.finished ∧ x.ctx.await = some .gate ∧ x.ctx.tally = {} ∧
    x.ctx.probe = false := by
  let u := v.retry.setInbox []
  have hrun : u.running = some { j with cursor := some { c with retries := c.retries + 1, phase := .prepare } } :=
    running_retry h.running h.cursor
  obtain ⟨x, hseek, hx, hatt, hfin, hawait, htally, hprobe⟩ := zoneSeek_arms (s := u) (f := f) (head := head) (zone := zone) hrun rfl
    h.kind hg h.actuator
  have hprep := prepare_following (s := u) hrun ⟨rfl, h.figures, h.atHead, h.atZone⟩ rfl h.spindle h.actuator.1
  let w := (u.setJct x).setGcu { u.gcu with state := .armed, mode := .chained, head := none, attempt := u.jct.attempt }
  have hphase : w.runningPhase = some .period := runningPhase_of (s := u.setJct x) hx rfl
  have hord : w.Ordered := Obeys.ordered (s := w) ⟨hphase, id⟩ (by decide) (by decide)
  have hidle : w.inbox.all JctMsg.idle = true := rfl
  have hinbox : v.retry.inbox = .prepare :: [] := by
    show .prepare :: v.inbox = _
    rw [h.inbox]
  obtain ⟨sending, waiting, e⟩ := finish_prepared (u := w) hi ht hinbox (hprep.trans hseek) hord hidle
  have hsame : u.setJct x = v.setJct x := by
    have hv : v.setInbox [] = v := by
      rw [← h.inbox]
      rfl
    rw [← hv]
    rfl
  have hw : w = (v.setJct x).setGcu
      { v.gcu with state := .armed, mode := .chained, head := none, attempt := v.jct.attempt + 1 } := by
    rw [← hsame]
    rfl
  rw [hw] at e
  rw [hsame] at hx
  exact ⟨x, _, e, hx, hatt, hfin, hawait, htally, hprobe⟩

end Sys2Proof.Machine
end

section
/-! PROOF. The gate's ending report taken by the RUNNING SKEW job, and the pairs of its measurement (R89 to R92, R94, R115,
R116). -/

namespace Sys2Proof.Machine

variable {s t u v y : State} {j : Job} {c : Cursor} {f : Figures} {head zone : Nat} {p : Phase} {why : Reason}
  {m : JctMsg} {r : GateRecord} {x : Here}

/-! ## A failure weighed against the retries (R94, R116) -/

/-- The head-zone has come from `v` through PREPARE to the period gate of a new attempt, and else nothing has moved (R88, R89,
R116). -/
structure Rearmed (v : State) (j : Job) (c : Cursor) (t : State) : Prop where
  running : t.running =
    some { j with cursor := some { c with retries := c.retries + 1, phase := .period, failedZones := 0 } }
  attempt : t.jct.attempt = v.jct.attempt + 1
  gate : t.gcu = { v.gcu with state := .armed, mode := .chained, head := none, attempt := v.jct.attempt + 1 }
  awaits : t.awaitsGate
  job : t.window = none ∧ t.hmp = v.hmp ∧ t.jct.finished = v.jct.finished
  motion : t.pos = v.pos ∧ t.sdc = v.sdc ∧ t.flc = v.flc

theorem skew_rearmed (h : SkewUnderWay v j c f head zone p) (hg : v.gcu.state = .idle) (hi : y.inbox = [m])
    (ht : (y.setInbox []).jctTake m = v.retry) : Rearmed v j c y.finish := by
  obtain ⟨x, b, e, hrun, hatt, hfin, hawait, -, -⟩ := skew_retried h hg hi ht
  rw [e]
  exact ⟨hrun, hatt, rfl, ⟨hawait, hatt.symm⟩, ⟨h.window, rfl, hfin⟩, rfl, rfl, rfl⟩

/-- The failure of a skew measurement with no gate in hand: a retry, or with the retries spent the entry (R116). -/
structure SkewFailed (v : State) (j : Job) (c : Cursor) (head zone : Nat) (why : Reason) (t : State) : Prop where
  again : c.retries < v.prof.retries → Rearmed v j c t
  spent : v.prof.retries ≤ c.retries → OnlyHeadZone v j head zone →
    EndedWith v j head zone (entryOf j.kind why) t ∧ t.window = none ∧ t.gcu = v.gcu

theorem skew_failed (h : SkewUnderWay v j c f head zone p) (hf : v.GateFree) (hi : y.inbox = [m])
    (ht : (y.setInbox []).jctTake m = v.failHead ⟨j, c, f, head, zone⟩ why) : SkewFailed v j c head zone why y.finish := by
  unfold State.failHead at ht
  refine ⟨fun hr => skew_rearmed h hf.gate hi (ht.trans (if_pos hr)), fun hr ho => ?_⟩
  rw [if_neg (Nat.not_lt.mpr hr), faultEntry_eq] at ht
  exact finish_ended (k := j.cursor) hi ht h.running ho hf

theorem SkewFailed.headFailed (h : SkewFailed v j c head zone why t) : HeadFailed v j c head zone why t := by
  refine ⟨fun hr => ?_, fun hr ho => (h.spent hr ho).1⟩
  have k := h.again hr
  exact ⟨⟨_, k.running, rfl, rfl, rfl⟩, k.attempt, k.job.2.1, k.job.2.2⟩

/-- The measurement with an empty tally, no gate in hand. -/
theorem SkewUnderWay.gateFree (h : SkewUnderWay v j c f head zone p) (hg : v.gcu.state = .idle)
    (hp : v.jct.ctx.probe = false) : (v.setTally {}).GateFree := ⟨h.window, hg, ⟨rfl, hp⟩, h.spindle⟩

theorem skewSame_setTally (v : State) (x : Tally) : SkewSame v (v.setTally x) := ⟨rfl, rfl, rfl, rfl, rfl, rfl, rfl, rfl, rfl⟩

/-! ## The pairs (R90, R92, R94) -/

/-- GATE_A entered with the anchor's gate armed (R90). -/
theorem gateA_armed (h : SkewUnderWay v j c f head zone p) (hg : v.gcu.state = .idle) (hi : y.inbox = [m])
    (ht : (y.setInbox []).jctTake m = v.startGateA) : SkewGoesOn v j c .gateA v.jct.ctx.tally y.finish ∧
      y.finish.gcu = { v.gcu with
        state := .armed, mode := .split, head := some v.prof.anchor, attempt := v.jct.attempt } ∧
      y.finish.awaitsGate ∧ y.finish.flc = v.flc := by
  have hrun := running_enterPhase h.running h.cursor .gateA
  let w := ((v.enterPhase .gateA).await (some .gate) none).setGcu
    { v.gcu with state := .armed, mode := .split, head := some v.prof.anchor, attempt := v.jct.attempt }
  have hw : v.startGateA = w := armed_of_idle (s := v.enterPhase .gateA) hg .split (some v.prof.anchor)
  have hphase : w.runningPhase = some .gateA := runningPhase_of (s := v.enterPhase .gateA) hrun rfl
  have hinbox : w.inbox.all JctMsg.idle = true := by
    show v.inbox.all _ = true
    rw [h.inbox]
    rfl
  obtain ⟨a, b, e⟩ := finish_ordered hi (ht.trans hw) (Obeys.ordered (s := w) ⟨hphase, id⟩ (by decide) (by decide)) hinbox
  rw [e]
  exact ⟨⟨hrun, rfl, ⟨h.actuator.1, rfl, rfl, h.spindle.1⟩, rfl, rfl, h.window, rfl⟩, rfl, ⟨rfl, rfl⟩, rfl⟩

/-- GATE_P entered, the switch point waited for (R90, R91). -/
theorem gateP_entered (h : SkewUnderWay v j c f head zone p) (hi : y.inbox = [m])
    (ht : (y.setInbox []).jctTake m = v.startGateP) : SkewGoesOn v j c .gateP v.jct.ctx.tally y.finish ∧
      y.finish.gcu = v.gcu ∧ y.finish.flc = v.flc := by
  have hrun := running_enterPhase h.running h.cursor .gateP
  let w := (v.enterPhase .gateP).await none none
  have hphase : w.runningPhase = some .gateP := runningPhase_of (s := v.enterPhase .gateP) hrun rfl
  have hinbox : w.inbox.all JctMsg.idle = true := by
    show v.inbox.all _ = true
    rw [h.inbox]
    rfl
  obtain ⟨a, b, e⟩ := finish_ordered (t := w) hi ht (Obeys.ordered (s := w) ⟨hphase, id⟩ (by decide) (by decide)) hinbox
  rw [e]
  exact ⟨⟨hrun, rfl, ⟨h.actuator.1, rfl, rfl, h.spindle.1⟩, rfl, rfl, h.window, rfl⟩, rfl, rfl⟩

/-- A pair is done and others are left: the anchor's gate is armed (R92, step 3). -/
theorem pair_goesOn (h : SkewUnderWay v j c f head zone p) (hg : v.gcu.state = .idle) (hi : y.inbox = [m])
    (ht : (y.setInbox []).jctTake m = v.pairDone ⟨j, c, f, head, zone⟩) (hr : v.jct.ctx.tally.pairs + 1 < f.r) :
    SkewGoesOn v j c .gateA { v.jct.ctx.tally with pairs := v.jct.ctx.tally.pairs + 1 } y.finish ∧
      y.finish.gcu = { v.gcu with
        state := .armed, mode := .split, head := some v.prof.anchor, attempt := v.jct.attempt } ∧
      y.finish.awaitsGate ∧ y.finish.flc = v.flc := by
  obtain ⟨hgoes, hgate, hawaits, hlines⟩ := gateA_armed
    (h.setTally { v.jct.ctx.tally with pairs := v.jct.ctx.tally.pairs + 1 }) hg hi (ht.trans (if_pos hr))
  exact ⟨⟨hgoes.running, hgoes.tally, hgoes.motion, hgoes.kept⟩, hgate, hawaits, hlines⟩

theorem endSkew_leads (v : State) (x : Here) : Leads (v.setTally {}) (v.endSkew x) ∧ Work (v.setTally {}) (v.endSkew x) := by
  unfold State.endSkew
  dsimp only
  split
  · exact ⟨failHead_leads x .skewMiss, failHead_work _ x .skewMiss⟩
  · exact ⟨(enterPhase_staysFree (s := v.setTally {}) .compute).andLeads (endWith_leads _ _),
      (enterPhase_work (v.setTally {}) .compute).trans (endWith_work _ _ _)⟩

/-- The R pairs are done (R94, R95). -/
theorem endSkew_done (h : SkewUnderWay v j c f head zone p) (hg : v.gcu.state = .idle) (hp : v.jct.ctx.probe = false)
    (hi : y.inbox = [m]) (ht : (y.setInbox []).jctTake m = v.endSkew ⟨j, c, f, head, zone⟩) :
    PairsDone v j c f head zone v.jct.ctx.tally y.finish ∧ GateStands v y.finish ∧ MotionFrame v y.finish := by
  have hfree := h.gateFree hg hp
  obtain ⟨hleads, hwork⟩ := endSkew_leads v ⟨j, c, f, head, zone⟩
  obtain ⟨hstands, htally, hframe⟩ := finish_stands hi ht hleads hwork hfree h.inbox
  have hmissed : v.jct.ctx.tally.ra < (f.r + 1) / 2 ∨ v.jct.ctx.tally.rh < (f.r + 1) / 2 →
      SkewFailed (v.setTally {}) j c head zone .skewMiss y.finish := fun hm =>
    skew_failed (h.setTally {}) hfree hi (ht.trans (if_pos hm))
  refine ⟨⟨htally, ⟨hframe.chm, hframe.pst, hframe.published⟩,
    fun hm => (skewSame_setTally v {}).failed (hmissed hm).headFailed, fun hm hr => ?_, fun ha hq ho => ?_⟩,
    ⟨hstands.stages, hstands.ended, hstands.lines, hstands.prof⟩, (setJct_carries v _).andFrame hframe⟩
  · have k := (hmissed hm).again hr
    exact ⟨runningPhase_of k.running rfl, by rw [k.gate], by rw [k.gate], by rw [k.gate], k.awaits⟩
  · have hcompute : (y.setInbox []).jctTake m = ((v.enterPhase .compute).setTally {}).endWith ⟨j, c, f, head, zone⟩
        (.skew (skewComputation v.prof.sectors (v.jct.ctx.tally.nRev.getD 0) v.jct.ctx.tally.ra v.jct.ctx.tally.rh
          v.jct.ctx.tally.sumA v.jct.ctx.tally.sumH)) :=
      ht.trans (if_neg (show ¬(v.jct.ctx.tally.ra < (f.r + 1) / 2 ∨ v.jct.ctx.tally.rh < (f.r + 1) / 2) by omega))
    have hrun := running_enterPhase h.running h.cursor .compute
    have honly : OnlyHeadZone ((v.enterPhase .compute).setTally {}) { j with cursor := some { c with phase := .compute } } head
        zone := by
      refine ⟨?_, ho.heads, ho.zones, ho.sound⟩
      show v.jct.table.map _ = _
      rw [ho.table, List.map_cons, List.map_nil, if_pos (isActive_of_running (active_of_running h.running).2)]
      exact congrArg (fun x => [x]) (onCursor_eq h.cursor _)
    have hended := (finish_ended hi hcompute (by exact hrun) honly ⟨h.window, hg, ⟨rfl, hp⟩, h.spindle⟩).1
    exact ⟨hended.table, hended.working, hended.map, hended.record, hended.event⟩

/-- The last pair is done (R92, R94). -/
theorem pair_ends (h : SkewUnderWay v j c f head zone p) (hg : v.gcu.state = .idle) (hp : v.jct.ctx.probe = false)
    (hi : y.inbox = [m]) (ht : (y.setInbox []).jctTake m = v.pairDone ⟨j, c, f, head, zone⟩)
    (hr : f.r ≤ v.jct.ctx.tally.pairs + 1) :
    PairsDone v j c f head zone v.jct.ctx.tally y.finish ∧ GateStands v y.finish ∧ MotionFrame v y.finish := by
  let w := v.setTally { v.jct.ctx.tally with pairs := v.jct.ctx.tally.pairs + 1 }
  obtain ⟨hdone, hstands, hframe⟩ := endSkew_done (v := w)
    (h.setTally { v.jct.ctx.tally with pairs := v.jct.ctx.tally.pairs + 1 }) hg hp hi (ht.trans (if_neg (Nat.not_lt.mpr hr)))
  have k := (skewSame_setTally v { v.jct.ctx.tally with pairs := v.jct.ctx.tally.pairs + 1 }).done hdone
  exact ⟨⟨k.tally, k.kept, k.missed, k.again, k.computed⟩, ⟨hstands.stages, hstands.ended, hstands.lines, hstands.prof⟩,
    (setJct_carries v _).andFrame hframe⟩

/-! ## The gate's ending report (R85, R89, R90, R92, R115) -/

/-- The report of the gate that the job awaits goes to the phase of the measurement (R89, R90, R92, R115). -/
theorem takeGate_awaited (h : SkewUnderWay v j c f head zone p) (ha : v.jct.ctx.await = some .gate) (r : GateRecord) :
    (p = .period → v.jctTake (.gateEnded r v.jct.attempt) = v.takePeriod ⟨j, c, f, head, zone⟩ r) ∧
    (p = .gateA → v.jctTake (.gateEnded r v.jct.attempt) = v.takeGateA ⟨j, c, f, head, zone⟩ r) ∧
    (p = .gateP → v.jctTake (.gateEnded r v.jct.attempt) = v.takeGateP ⟨j, c, f, head, zone⟩ r) := by
  have hans : v.answers .gate v.jct.attempt = true := answers_of h.running ha .gate
  show (_ → v.takeGate r v.jct.attempt = _) ∧ (_ → v.takeGate r v.jct.attempt = _) ∧ (_ → v.takeGate r v.jct.attempt = _)
  unfold State.takeGate
  rw [here_of h.running h.at]
  dsimp only
  rw [if_pos hans, h.phase]
  refine ⟨?_, ?_, ?_⟩ <;> rintro rfl <;> rfl

end Sys2Proof.Machine
end

section
/-! PROOF. A gate that overflows (R81, R83, R85, R94, R116). -/

namespace Sys2Proof.Machine

variable {s t u v y : State} {j : Job} {c : Cursor} {f : Figures} {head zone n l k : Nat} {p : Phase} {m : JctMsg}
  {r : GateRecord} {st : Stage} {q : Pos} {d : Sdc} {g : Gcu}

/-! ## A gate that ends while its measurement is under way (R85) -/

/-- What the Positioner keeps while a skew measurement goes on. -/
structure Pos.Holds (p q : Pos) : Prop where
  act : q.act = p.act
  target : q.target = p.target
  offset : q.offset = p.offset
  spindle : q.spindle = p.spindle ∧ q.spinDownPending = p.spinDownPending

theorem Pos.Holds.refl (p : Pos) : p.Holds p := ⟨rfl, rfl, rfl, rfl, rfl⟩

/-- The state at tick `n` with the Sector Decoder `d`, the Positioner `q` and the gate unit `g`. -/
def State.clocked (s : State) (n : Nat) (d : Sdc) (q : Pos) (g : Gcu) : State :=
  (((s.atTick n).setSdc d).setPos q).setGcu g

theorem SkewUnderWay.clocked (h : SkewUnderWay s j c f head zone p) (hq : s.pos.Holds q) :
    SkewUnderWay (s.clocked n d q g) j c f head zone p :=
  ⟨h.inbox, h.running, h.kind, h.cursor, h.phase, h.figures, h.atHead, h.atZone,
    ⟨hq.spindle.1.trans h.spindle.1, hq.spindle.2.trans h.spindle.2⟩,
    ⟨hq.act.trans h.actuator.1, hq.target.trans h.actuator.2⟩, h.window⟩

/-- The ending record of a gate (R85). -/
def Gcu.recordOf (g : Gcu) (ending : GateEnding) (value : Option Nat) (closedBy : Option ClosedBy) (overflowed : Option Stage)
    (marks : Nat) : GateRecord :=
  { ending := ending, abortCause := none, mode := g.mode, head := g.head, value := value, closedBy := closedBy
    marks := if g.mode = .split && ending != .aborted then some marks else none
    overflowed := if ending = .overrange then overflowed else none }

/-- The gate unit of a gate that has ended (R85). -/
def Gcu.endedWith (g : Gcu) (r : GateRecord) (overflow : Option Stage) (l u : Nat) : Gcu :=
  { g with state := .idle, stageL := l, stageU := u, overflow := overflow, last := some r }

/-- A gate that ends but by an abort reports its record (R85). -/
theorem endGate_told (e : GateEnding) (value : Option Nat) (b : Option ClosedBy) (o : Option Stage) :
    s.endGate e none value b o l k =
      (s.setGcu (s.gcu.endedWith (s.gcu.recordOf e value b o k) o l k)).tell
        (.gateEnded (s.gcu.recordOf e value b o k) s.gcu.attempt) := by
  unfold State.endGate
  exact if_neg (by decide)

/-- The arrival in which the awaited gate of a measurement ends: its report is the only one. -/
theorem ended_inbox (h : SkewUnderWay s j c f head zone p) (ha : s.awaitsGate) :
    ((s.clocked n d q g).tell (.gateEnded r s.gcu.attempt)).inbox = [.gateEnded r s.jct.attempt] := by
  show s.inbox ++ _ = _
  rw [h.inbox, ha.2]
  rfl

/-- The state in which that report is taken. -/
theorem ended_setInbox (h : SkewUnderWay s j c f head zone p) (m : JctMsg) :
    ((s.clocked n d q g).tell m).setInbox [] = s.clocked n d q g := by
  rw [← h.inbox]
  rfl

/-! ## The anchor selected again (R92, R93) -/

/-- A head selection in FOLLOWING arms the recovery marker when it changes the driven head (R6, R164). -/
theorem selectHead_following (ha : s.pos.act = .following) (n : Nat) : ∃ m,
    s.selectHead n = (s.setFlc { s.flc with engineHead := n }).setSdc { s.sdc with marker := m } ∧
      (s.drivenHead ≠ (s.setFlc { s.flc with engineHead := n }).drivenHead → m = true) := by
  unfold State.selectHead State.takeHeadChange
  split
  next hsame => exact ⟨s.sdc.marker, rfl, fun k => absurd hsame.symm k⟩
  next => exact ⟨true, by rw [show (s.setFlc { s.flc with engineHead := n }).pos.act = .following from ha]; rfl, fun _ => rfl⟩

/-- The measurement after its probe gate, before the pair is done or failed: the anchor is selected (R92). -/
def State.anchored (s : State) (marker : Bool) : State :=
  ((s.setFlc { s.flc with engineHead := s.prof.anchor }).setSdc { s.sdc with marker := marker }).setCtx
    { s.jct.ctx with probe := false, await := none }

theorem SkewUnderWay.anchored (h : SkewUnderWay s j c f head zone p) (b : Bool) :
    SkewUnderWay (s.anchored b) j c f head zone p :=
  ⟨h.inbox, h.running, h.kind, h.cursor, h.phase, h.figures, h.atHead, h.atZone, h.spindle, h.actuator, h.window⟩

/-- The tally after a probe gate: a closed one adds its value and one good gate (R92). -/
def Tally.probeTaken (y : Tally) (r : GateRecord) : Tally :=
  if r.ending = .closed then { y with rh := y.rh + 1, sumH := y.sumH + r.value.getD 0 } else y

/-- The probe gate's report selects the anchor first (R92). -/
theorem takeGateP_anchors (ha : s.pos.act = .following) (x : Here) : ∃ b,
    (s.drivenHead ≠ (s.anchored b).drivenHead → b = true) ∧ ∀ r : GateRecord,
    (r.ending = .overrange → s.takeGateP x r = (s.anchored b).failSkew x .overrange) ∧
    (r.ending = .closed ∨ r.ending = .missed →
      s.takeGateP x r = ((s.anchored b).setTally (s.jct.ctx.tally.probeTaken r)).pairDone x) := by
  obtain ⟨b, e, hb⟩ := selectHead_following ha s.prof.anchor
  refine ⟨b, hb, fun r => ⟨fun hr => ?_, fun hr => ?_⟩⟩
  · unfold State.takeGateP
    rw [hr, e]
    rfl
  · unfold State.takeGateP Tally.probeTaken
    rcases hr with hr | hr <;> rw [hr, e] <;> rfl

/-! ## OVERRANGE (R94, R116) -/

/-- A skew measurement with no gate in hand fails with OVERRANGE (R94, R116). -/
theorem overrange_taken (h : SkewUnderWay v j c f head zone p) (hg : v.gcu.state = .idle) (hp : v.jct.ctx.probe = false)
    (hi : y.inbox = [m]) (ht : (y.setInbox []).jctTake m = v.failSkew ⟨j, c, f, head, zone⟩ .overrange) :
    OverrangeTaken v j c head zone y.finish ∧ GateStands v y.finish ∧ y.finish.now = v.now ∧
      (c.retries < v.prof.retries → y.finish.sdc = v.sdc ∧ y.finish.flc = v.flc) := by
  have hfree := h.gateFree hg hp
  obtain ⟨hstands, htally, hframe⟩ := finish_stands hi ht (failHead_leads _ _) (failHead_work _ _ _) hfree h.inbox
  have hfailed := skew_failed (h.setTally {}) hfree hi ht
  refine ⟨⟨htally, ⟨hframe.chm, hframe.pst, hframe.published, hframe.counts⟩, fun hr => ?_, fun hr h1 h2 h3 h4 => ?_⟩,
    ⟨hstands.stages, hstands.ended, hstands.lines, hstands.prof⟩, hframe.now, fun hr => (hfailed.again hr).motion.2⟩
  · obtain ⟨hrun, -, hgate, hawaits, ⟨hwindow, hmap, hfin⟩, hpos, -⟩ := hfailed.again hr
    exact ⟨hrun, by rw [hgate], by rw [hgate], by rw [hgate], hawaits, hpos, hmap, hwindow, hfin⟩
  · obtain ⟨hended, hwindow, hgate⟩ := hfailed.spent hr ⟨h1, h2, h3, h4⟩
    rw [h.kind] at hended
    have hrecord := hended.record
    rw [h.kind] at hrecord
    exact ⟨by rw [hgate]; exact hg, hwindow, hended.table, hended.event, hended.map.1, hended.working, hrecord⟩

/-- The awaited gate of a skew measurement ends OVERRANGE (R81, R83, R94). -/
theorem gate_overranges (h : SkewUnderWay s j c f head zone p) (ha : s.awaitsGate)
    (hp : ((p = .period ∨ p = .gateA) ∧ s.jct.ctx.probe = false) ∨ p = .gateP)
    (hy : (s.atTick n).endGate .overrange none none none (some st) l k = y) :
    y.finish.now = max s.now n ∧ OverrangeTaken s j c head zone y.finish ∧ y.finish.gcu.stageL = l ∧ y.finish.gcu.stageU = k ∧
      y.finish.gcu.overflow = some st ∧ y.finish.gcu.last = some (s.gcu.recordOf .overrange none none (some st) k) ∧
      (p ≠ .gateP → c.retries < s.prof.retries → y.finish.sdc = s.sdc ∧ y.finish.flc = s.flc) ∧
      (p = .gateP → c.retries < s.prof.retries → y.finish.flc = { s.flc with engineHead := s.prof.anchor } ∧
        y.finish.sdc = { s.sdc with marker := y.finish.sdc.marker } ∧
        (s.drivenHead ≠ y.finish.drivenHead → y.finish.sdc.marker = true)) := by
  rw [endGate_told] at hy
  let r := s.gcu.recordOf .overrange none none (some st) k
  let v := s.clocked n s.sdc s.pos (s.gcu.endedWith r (some st) l k)
  have hv : SkewUnderWay v j c f head zone p := h.clocked (.refl _)
  have hy' : y = v.tell (.gateEnded r s.gcu.attempt) := hy.symm
  clear hy
  subst hy'
  have hi : (v.tell (.gateEnded r s.gcu.attempt)).inbox = [.gateEnded r s.jct.attempt] := ended_inbox h ha
  have hset : (v.tell (.gateEnded r s.gcu.attempt)).setInbox [] = v := ended_setInbox h _
  obtain ⟨hperiod, hgateA, hgateP⟩ := takeGate_awaited hv ha.1 r
  rcases hp with ⟨hphase, hprobe⟩ | hphase
  · have htake : v.jctTake (.gateEnded r s.jct.attempt) = v.failSkew ⟨j, c, f, head, zone⟩ .overrange := by
      rcases hphase with hphase | hphase
      · exact hperiod hphase
      · exact hgateA hphase
    obtain ⟨hover, hstands, hnow, hlines⟩ := overrange_taken hv rfl hprobe hi (by rw [hset]; exact htake)
    exact ⟨hnow, ⟨hover.tally, hover.kept, hover.retried, hover.spent⟩, hstands.stages.1, hstands.stages.2, hstands.ended.1,
      hstands.ended.2, fun _ => hlines, fun k => by rcases hphase with rfl | rfl <;> cases k⟩
  · obtain ⟨b, hb, htake⟩ := takeGateP_anchors (s := v) h.actuator.1 ⟨j, c, f, head, zone⟩
    obtain ⟨hover, hstands, hnow, hlines⟩ := overrange_taken (hv.anchored b) rfl rfl hi
      (by rw [hset]; exact (hgateP hphase).trans ((htake r).1 rfl))
    refine ⟨hnow, ⟨hover.tally, hover.kept, hover.retried, hover.spent⟩, hstands.stages.1, hstands.stages.2, hstands.ended.1,
      hstands.ended.2, fun k => absurd hphase k, fun _ hr => ?_⟩
    obtain ⟨hsdc, hflc⟩ := hlines hr
    have hdriven : (v.tell (.gateEnded r s.gcu.attempt)).finish.drivenHead = (v.anchored b).drivenHead := by
      unfold State.drivenHead
      rw [hflc]
    refine ⟨hflc, by rw [hsdc]; rfl, fun k => ?_⟩
    rw [hsdc]
    rw [hdriven] at k
    exact hb k

/-- Settles O38: each overflow ends the awaited gate, and the measurement fails (`gate_overranges`). -/
theorem gateOverflowsEndOverrange : Obligations.GateOverflowsEndOverrange := by
  unfold Obligations.GateOverflowsEndOverrange
  intro s j c f head zone p h ha hcounting
  refine ⟨fun hp hprobe hmode => ?_, fun hp hmode => ?_⟩
  · have hu : s.overflowU = (s.atTick (s.gcu.start + 4294967296)).endGate .overrange none none none (some .u) 65535 65535 :=
      if_pos ⟨hcounting, hmode⟩
    obtain ⟨hnow, hover, hL, hU, hind, hlast, hlines, -⟩ := gate_overranges h ha (.inl ⟨.inl hp, hprobe⟩) hu.symm
    refine ⟨_, rfl, hnow, hover, hL, hU, hind, hlines (by rw [hp]; decide), ?_⟩
    rw [hlast]
    simp [Gcu.recordOf, hmode]
  · have hl : s.overflowL = (s.atTick (s.gcu.start + 65536)).endGate .overrange none none none (some .l) 65535 s.gcu.stageU :=
      if_pos ⟨hcounting, hmode⟩
    have hphase : ((p = .period ∨ p = .gateA) ∧ s.jct.ctx.probe = false) ∨ p = .gateP :=
      hp.imp (fun k => ⟨.inr k.1, k.2⟩) And.left
    obtain ⟨hnow, hover, hL, hU, hind, hlast, hlines, hprobe⟩ := gate_overranges h ha hphase hl.symm
    refine ⟨_, rfl, hnow, hover, hL, hU, hind, fun k => hlines (by rw [k]; decide), hprobe, ?_⟩
    rw [hlast]
    simp [Gcu.recordOf, hmode]

end Sys2Proof.Machine
end

section
/-! PROOF. Index arrivals while a skew measurement is under way (R19, R80, R81, R89, R91, R92). -/

namespace Sys2Proof.Machine

variable {s t u v y : State} {j : Job} {c : Cursor} {f : Figures} {head zone n ref ticks : Nat} {p : Phase} {r : GateRecord}
  {q : Pos} {d : Sdc} {g : Gcu}

/-! ## An arrival that only the clock, the decoder, the Positioner and the gate see -/

/-- The record of the RUNNING job stands at its phase. -/
theorem SkewUnderWay.same (h : SkewUnderWay s j c f head zone p) : { j with cursor := some { c with phase := p } } = j := by
  obtain ⟨hc, hp⟩ := And.intro h.cursor h.phase
  cases j
  cases c
  dsimp only at hc hp
  subst hc hp
  rfl

theorem skewSame_clocked (hq : s.pos.Holds q) : SkewSame s (s.clocked n d q g) :=
  ⟨rfl, rfl, rfl, rfl, rfl, rfl, rfl, hq.target, hq.offset⟩

/-- With no report the measurement goes on in its phase. -/
theorem clocked_goesOn (h : SkewUnderWay s j c f head zone p) (hq : s.pos.Holds q) :
    SkewGoesOn s j c p s.jct.ctx.tally (s.clocked n d q g).finish ∧ (s.clocked n d q g).finish.gcu = g := by
  obtain ⟨x, w, e⟩ := transmit_frame (s.clocked n d q g)
  rw [finish_of_nil (s := s.clocked n d q g) h.inbox, e]
  refine ⟨⟨?_, rfl, ⟨hq.act.trans h.actuator.1, hq.target, hq.offset, hq.spindle.1.trans h.spindle.1⟩, rfl, rfl, h.window, rfl⟩,
    rfl⟩
  rw [h.same]
  exact h.running

/-! ## The speed monitor and the gate (R19, R80, R81) -/

theorem judgeRevolution_good (hs : u.pos.spindle = .atSpeed) : u.judgeRevolution true = u.setPos { u.pos with outTol := 0 } := by
  unfold State.judgeRevolution
  rw [hs]
  exact if_neg (show ¬2 ≤ (0 : Nat) by decide)

/-- A revolution in tolerance at AT_SPEED moves reference, period and limits alone (R19, R21). -/
theorem speedMonitor_holds (hs : s.pos.spindle = .atSpeed) (hr : s.pos.indexRef = some ref) (hg : s.revolutionGood ticks = true) :
    ∃ q, s.pos.Holds q ∧ s.speedMonitor (ref + ticks) = s.setPos q := by
  have hlimits : (s.setPos { s.pos with indexRef := some (ref + ticks) }).restartIndexLimits =
      s.setPos { s.pos with indexRef := some (ref + ticks), silenceDue := some (s.now + 2 * s.prof.nRevNom) } := by
    unfold State.restartIndexLimits
    rw [show (s.setPos { s.pos with indexRef := some (ref + ticks) }).pos.spindle = .atSpeed from hs]
    rfl
  have htol := revolutionGood_iff.mp hg
  have hin : inTolerance s.prof ticks = true := decide_eq_true htol.2
  refine ⟨{ s.pos with
    indexRef := some (ref + ticks), silenceDue := some (s.now + 2 * s.prof.nRevNom), period := some ticks, outTol := 0 },
    ⟨rfl, rfl, rfl, rfl, rfl⟩, ?_⟩
  unfold State.speedMonitor
  dsimp only
  rw [hlimits, hr]
  dsimp only
  rw [Nat.add_sub_cancel_left, if_neg (Nat.not_lt.mpr htol.1), hin]
  refine (judgeRevolution_good ?_).trans ?_
  · exact hs
  · rfl

theorem gateIndex_window (s : State) (n : Nat) : (s.gateIndex n).window = s.window := by
  unfold State.gateIndex
  split
  · rfl
  · rfl
  · split
    · rfl
    · dsimp only
      rw [endGate_told]
      rfl

/-- An index arrival in tolerance is taken by the gate, and before the switch point by the Job Controller (R19, R80, R81, R91). -/
theorem indexArrival_clocks (h : SkewUnderWay s j c f head zone p) (hr : s.pos.indexRef = some ref)
    (hg : s.revolutionGood ticks = true) : ∃ q, s.pos.Holds q ∧ ∀ y,
    (s.clocked (ref + ticks) s.sdc q s.gcu).gateIndex (ref + ticks) = y →
    exec (.indexArrival ticks) s =
      .next (if s.awaitsSwitch then (y.tell (.switchLost s.jct.attempt)).finish else y.finish) := by
  obtain ⟨q, hq, e⟩ := speedMonitor_holds (s := s.atTick (ref + ticks)) h.spindle.1 hr hg
  refine ⟨q, hq, fun y hy => ?_⟩
  have hwindow : y.windowIndex = y := by
    unfold State.windowIndex
    rw [← hy, gateIndex_window]
    rw [show (s.clocked (ref + ticks) s.sdc q s.gcu).window = none from h.window]
  have hgate : ((s.atTick (ref + ticks)).speedMonitor (ref + ticks)).gateIndex (ref + ticks) = y := by
    rw [e, ← hy]
    rfl
  rw [exec_indexArrival, indexTick_of_some hr]
  unfold State.takeIndex
  dsimp only
  rw [hgate, hwindow]
  split <;> rfl

/-- Before the switch point the Job Controller waits for it in GATE_P without the probe (R91). -/
theorem awaitsSwitch_iff (h : SkewUnderWay s j c f head zone p) :
    s.awaitsSwitch = true ↔ p = .gateP ∧ s.jct.ctx.probe = false := by
  unfold State.awaitsSwitch
  rw [h.runningPhase]
  cases s.jct.ctx.probe <;> simp

/-- An index arrival that the RUNNING job hears nothing of (R80, R81). -/
theorem index_goesOn (h : SkewUnderWay s j c f head zone p) (hr : s.pos.indexRef = some ref)
    (hg : s.revolutionGood ticks = true) (hp : ¬(p = .gateP ∧ s.jct.ctx.probe = false))
    (hx : ∀ q, (s.clocked (ref + ticks) s.sdc q s.gcu).gateIndex (ref + ticks) = s.clocked (ref + ticks) s.sdc q g) :
    ∃ t, exec (.indexArrival ticks) s = .next t ∧ SkewGoesOn s j c p s.jct.ctx.tally t ∧ t.gcu = g := by
  obtain ⟨q, hq, hexec⟩ := indexArrival_clocks h hr hg
  have hno : ¬s.awaitsSwitch = true := fun k => hp ((awaitsSwitch_iff h).mp k)
  refine ⟨_, (hexec _ (hx q)).trans (congrArg _ (if_neg hno)), clocked_goesOn h hq⟩

/-- The index that ends the period gate (R81, R89): N_rev is its value, and the anchor's gate is armed. -/
theorem index_closes (h : SkewUnderWay s j c f head zone .period) (hr : s.pos.indexRef = some ref)
    (hg : s.revolutionGood ticks = true) (ha : s.awaitsGate) (hcounting : s.gcu.state = .counting)
    (hmode : s.gcu.mode = .chained) (hn : ref + ticks - s.gcu.start ≤ 4294967295) :
    ∃ t r, exec (.indexArrival ticks) s = .next t ∧
      r = s.gcu.recordOf .closed (some (ref + ticks - s.gcu.start)) (some .index) none
        ((ref + ticks - s.gcu.start) / 65536) ∧
      SkewGoesOn s j c .gateA { s.jct.ctx.tally with nRev := some (ref + ticks - s.gcu.start) } t ∧ t.awaitsGate ∧
      t.gcu = { s.gcu.endedWith r none ((ref + ticks - s.gcu.start) % 65536) ((ref + ticks - s.gcu.start) / 65536) with
        state := .armed, mode := .split, head := some s.prof.anchor, attempt := s.jct.attempt } := by
  obtain ⟨q, hq, hexec⟩ := indexArrival_clocks h hr hg
  have hno : ¬s.awaitsSwitch = true := fun k => nomatch ((awaitsSwitch_iff h).mp k).1
  generalize ref + ticks = n at hexec hn ⊢
  generalize hz : n - s.gcu.start = z at hn ⊢
  let r := s.gcu.recordOf .closed (some z) (some .index) none (z / 65536)
  let v := s.clocked n s.sdc q (s.gcu.endedWith r none (z % 65536) (z / 65536))
  have hgate : (s.clocked n s.sdc q s.gcu).gateIndex n = v.tell (.gateEnded r s.gcu.attempt) := by
    have hticks : min 4294967295 (s.gcu.ticks n) = z := by
      unfold Gcu.ticks
      omega
    unfold State.gateIndex
    rw [show (s.clocked n s.sdc q s.gcu).gcu = s.gcu from rfl, hcounting, hmode]
    dsimp only
    rw [hticks, endGate_told]
    rfl
  have hv : SkewUnderWay v j c f head zone .period := h.clocked hq
  have htake : ((v.tell (.gateEnded r s.gcu.attempt)).setInbox []).jctTake (.gateEnded r s.jct.attempt) =
      (v.setTally { v.jct.ctx.tally with nRev := some z }).startGateA := by
    rw [ended_setInbox h]
    exact (takeGate_awaited hv ha.1 r).1 rfl
  obtain ⟨hgoes, harmed, hawaits, -⟩ := gateA_armed (hv.setTally { v.jct.ctx.tally with nRev := some z }) rfl
    (ended_inbox h ha) htake
  have hsame := (skewSame_clocked hq).trans (skewSame_setTally v { v.jct.ctx.tally with nRev := some z })
  exact ⟨_, r, (hexec _ hgate).trans (congrArg _ (if_neg hno)), rfl, hsame.goesOn hgoes, hawaits, harmed⟩

/-- The index before the switch point: the pair is done without a probe gate (R91). -/
theorem index_skips (h : SkewUnderWay s j c f head zone .gateP) (hr : s.pos.indexRef = some ref)
    (hg : s.revolutionGood ticks = true) (hp : s.jct.ctx.probe = false) (hidle : s.gcu.state = .idle) :
    ∃ t, exec (.indexArrival ticks) s = .next t ∧
      (s.jct.ctx.tally.pairs + 1 < f.r →
        SkewGoesOn s j c .gateA { s.jct.ctx.tally with pairs := s.jct.ctx.tally.pairs + 1 } t ∧ t.awaitsGate ∧
          t.gcu = { s.gcu with state := .armed, mode := .split, head := some s.prof.anchor, attempt := s.jct.attempt }) ∧
      (f.r ≤ s.jct.ctx.tally.pairs + 1 → PairsDone s j c f head zone s.jct.ctx.tally t) := by
  obtain ⟨q, hq, hexec⟩ := indexArrival_clocks h hr hg
  have hyes : s.awaitsSwitch = true := (awaitsSwitch_iff h).mpr ⟨rfl, hp⟩
  let v := s.clocked (ref + ticks) s.sdc q s.gcu
  have hgate : v.gateIndex (ref + ticks) = v := by
    unfold State.gateIndex
    rw [show v.gcu.state = .idle from hidle]
  have hv : SkewUnderWay v j c f head zone .gateP := h.clocked hq
  have hi : (v.tell (.switchLost s.jct.attempt)).inbox = [.switchLost s.jct.attempt] := by
    show s.inbox ++ _ = _
    rw [h.inbox]
    rfl
  have htake : ((v.tell (.switchLost s.jct.attempt)).setInbox []).jctTake (.switchLost s.jct.attempt) =
      v.pairDone ⟨j, c, f, head, zone⟩ := by
    rw [ended_setInbox h]
    show v.takeSwitchLost s.jct.attempt = _
    unfold State.takeSwitchLost
    rw [here_of hv.running hv.at]
    exact if_pos ⟨hyes, rfl⟩
  have hsame : SkewSame s v := skewSame_clocked hq
  refine ⟨_, (hexec _ hgate).trans (congrArg _ (if_pos hyes)), fun hpairs => ?_, fun hpairs => ?_⟩
  · obtain ⟨hgoes, harmed, hawaits, -⟩ := pair_goesOn hv hidle hi htake hpairs
    exact ⟨hsame.goesOn hgoes, hawaits, harmed⟩
  · exact hsame.done (pair_ends hv hidle hp hi htake hpairs).1

end Sys2Proof.Machine
end

section
/-! PROOF. Slots while a skew measurement is under way: the marks its SPLIT gates count and end at, and the switch point (R82, R90
to R92). -/

namespace Sys2Proof.Machine

variable {s t u v w y : State} {j : Job} {c : Cursor} {f : Figures} {head zone n k l ticks : Nat} {p : Phase} {q : Pos}
  {d : Sdc} {g : Gcu} {sector : BitVec 10} {code : BitVec 18} {e o : BitVec 12}

/-! ## The record of a mark (R2, R4, R11) -/

/-- The record `r` has the mark of sector `k`, and is no RECOVERY record. -/
structure SectorRecord.Marks (r : SectorRecord) (k : Nat) : Prop where
  sector : r.mark.map (·.sector) = some k
  cls : r.cls ≠ .recovery ∧ r.cls ≠ .miss

/-- The classes of a mark (R4). -/
theorem classify_mark (x : Profile) (m : Mark) : classify x false (some m) ≠ .recovery ∧ classify x false (some m) ≠ .miss := by
  unfold classify
  dsimp only
  rw [if_neg Bool.false_ne_true]
  split
  · decide
  · split <;> decide

theorem formRecord_marks (hm : s.sdc.marker = false) (hs : sector.toNat < s.prof.sectors) :
    (formRecord s (markOf s.prof.sectors sector code e o)).Marks sector.toNat := by
  let m : Mark := { sector := sector.toNat, track := decodeTrack code, e := e.toNat, o := o.toNat }
  have hmark : markOf s.prof.sectors sector code e o = some m := if_pos hs
  have hcls := classify_mark s.prof m
  rw [← hm] at hcls
  rw [hmark]
  exact ⟨rfl, hcls⟩

/-- A record with a mark leaves FOLLOWING only where it ends the off-track run (R24, R31). -/
theorem servoRecord_marks {r : SectorRecord} (ha : s.pos.act = .following) (hr : r.Marks k)
    (ho : r.head ≠ s.prof.anchor ∨ s.pos.otRun + 1 < s.prof.otCount) : ∃ q, s.pos.Holds q ∧ s.servoRecord r = s.setPos q := by
  by_cases hh : r.head = s.prof.anchor
  · rw [servoRecord_ofFollowing hh ha hr.cls.1]
    have hot : ¬s.prof.otCount ≤ s.pos.otRun + 1 := Nat.not_le.mpr (ho.resolve_left (fun x => x hh))
    unfold State.followingRecord
    split
    next m _ _ =>
      let z := { s.pos with control := Config.controlLaw s.pos.control (anchorError s m r.pes), lossRun := 0 }
      dsimp only
      split
      next =>
        refine ⟨{ z with otRun := s.pos.otRun + 1 }, ⟨rfl, rfl, rfl, rfl, rfl⟩, if_neg hot⟩
      next => exact ⟨{ z with otRun := 0 }, ⟨rfl, rfl, rfl, rfl, rfl⟩, rfl⟩
    next hmiss => exact absurd hmiss hr.cls.2
    next => exact ⟨{ s.pos with otRun := 0, lossRun := 0 }, ⟨rfl, rfl, rfl, rfl, rfl⟩, rfl⟩
  · exact ⟨s.pos, .refl _, servoRecord_of_other hh⟩

/-- Fewer than four RECOVERY and MISS records running do not leave FOLLOWING (R24, R37). -/
theorem servoRecord_missed {r : SectorRecord} (ha : s.pos.act = .following) (hr : r.cls = .recovery ∨ r.cls = .miss)
    (hl : s.pos.lossRun < 3) : ∃ q, s.pos.Holds q ∧ s.servoRecord r = s.setPos q := by
  unfold State.servoRecord
  split
  · rw [ha]
    dsimp only
    rcases hr with hr | hr
    · exact ⟨s.pos, .refl _, if_pos hr⟩
    · rw [if_neg (by rw [hr]; decide), followingRecord_miss hr]
      exact ⟨{ s.pos with otRun := 0, lossRun := s.pos.lossRun + 1 }, ⟨rfl, rfl, rfl, rfl, rfl⟩,
        if_pos (show s.pos.lossRun + 1 < 4 by omega)⟩
  · exact ⟨s.pos, .refl _, rfl⟩

/-- With no window open a record leaves it at that (R46). -/
theorem windowRecord_of_none (h : s.window = none) (r : SectorRecord) : s.windowRecord r = s := by
  unfold State.windowRecord
  rw [h]

/-- A slot with a mark reaches the gate of a skew measurement that waits for no switch point (R11, R82). -/
theorem slotEndMark_clocks (h : SkewUnderWay s j c f head zone p) (hslot : s.sdc.slotDue.isSome = true)
    (hm : s.sdc.marker = false) (hs : sector.toNat < s.prof.sectors) (hn : s.pos.indexRef.getD s.now + ticks = n)
    (hp : ¬(p = .gateP ∧ s.jct.ctx.probe = false))
    (ho : s.drivenHead ≠ s.prof.anchor ∨ s.pos.otRun + 1 < s.prof.otCount) :
    ∃ d q r, s.pos.Holds q ∧ r.head = s.drivenHead ∧ r.Marks sector.toNat ∧ ∀ y,
      (s.clocked n d q s.gcu).gateRecord r n = y → exec (.slotEndMark sector code e o ticks) s = .next y.finish := by
  let r := formRecord (s.atTick n) (markOf s.prof.sectors sector code e o)
  have hr : r.Marks sector.toNat := formRecord_marks (s := s.atTick n) hm hs
  let v := (s.atTick n).endSlot r n
  obtain ⟨q, hq, hservo⟩ := servoRecord_marks (s := v) h.actuator.1 hr ho
  refine ⟨v.sdc, q, r, hq, rfl, hr, fun y hy => ?_⟩
  have hdeliver : (s.atTick n).deliver r n = y := by
    have hno : ¬((s.atTick n).awaitsSwitch = true ∧ r.head = (s.atTick n).prof.anchor ∧
        v.sdc.expect = some ((s.atTick n).prof.sectors - 1)) := fun k => hp ((awaitsSwitch_iff h).mp k.1)
    refine (if_neg hno).trans ?_
    show ((v.servoRecord r).windowRecord r).gateRecord r n = y
    rw [hservo, windowRecord_of_none (by exact h.window)]
    exact hy
  obtain ⟨x, hx⟩ := Option.isSome_iff_exists.mp hslot
  show arrival (s.endWithMark sector code e o (s.afterIndex ticks)) = _
  rw [show s.afterIndex ticks = n from hn, ← hdeliver]
  unfold State.endWithMark
  rw [hx]
  rfl

/-! ## The gate and the mark (R82, R85) -/

/-- The ending record of a SPLIT gate that ends at a mark of sector `k` after `l` ticks (R82, R85). -/
def Gcu.markRecord (g : Gcu) (l k : Nat) : GateRecord :=
  if k = 0 then g.recordOf .closed (some l) (some .mark) none g.stageU else g.recordOf .missed none none none 3

/-- The mark count of that gate. -/
def Gcu.marksAt (g : Gcu) (k : Nat) : Nat := if k = 0 then g.stageU else 3

/-- A counting SPLIT gate whose head is the head of the record uses it (R82). -/
theorem gateRecord_used {r : SectorRecord} (hc : s.gcu.state = .counting) (hmode : s.gcu.mode = .split)
    (hh : s.gcu.head = some r.head) (hr : r.Marks k) : s.gateRecord r n =
      if k = 0 then s.endGate .closed none (some (min 65535 (s.gcu.ticks n))) (some .mark) none (min 65535 (s.gcu.ticks n)) s.gcu.stageU
      else if s.gcu.stageU + 1 < 3 then s.setGcu { s.gcu with stageU := s.gcu.stageU + 1 }
      else s.endGate .missed none none none none (min 65535 (s.gcu.ticks n)) (s.gcu.stageU + 1) := by
  have hused : s.gcu.usesRecord r = true := by
    obtain ⟨m, hm, -⟩ := Option.map_eq_some_iff.mp hr.sector
    have hcls : (r.cls != .recovery) = true := bne_iff_ne.mpr hr.cls.1
    unfold Gcu.usesRecord
    rw [hh, hm, hcls, beq_self_eq_true]
    rfl
  unfold State.gateRecord
  rw [if_pos ⟨hc, hmode, hused⟩, hr.sector]
  by_cases hk : k = 0
  · rw [if_pos hk, hk]
    rfl
  · rw [if_neg hk]
    exact if_neg fun x => hk (Option.some.inj x)

/-- Sector 0 and the third mark end the gate (R82). -/
theorem gateRecord_ends {r : SectorRecord} (hc : s.gcu.state = .counting) (hmode : s.gcu.mode = .split)
    (hh : s.gcu.head = some r.head) (hr : r.Marks k) (hl : s.gcu.ticks n = l) (hl' : l ≤ 65535)
    (hk : k = 0 ∨ s.gcu.stageU = 2) : s.gateRecord r n =
      (s.setGcu (s.gcu.endedWith (s.gcu.markRecord l k) none l (s.gcu.marksAt k))).tell
        (.gateEnded (s.gcu.markRecord l k) s.gcu.attempt) := by
  have hmin : min 65535 (s.gcu.ticks n) = l := by omega
  rw [gateRecord_used hc hmode hh hr, hmin]
  unfold Gcu.markRecord Gcu.marksAt
  by_cases h0 : k = 0
  · rw [if_pos h0, if_pos h0, if_pos h0]
    exact endGate_told _ _ _ _
  · have hu : s.gcu.stageU = 2 := hk.resolve_left h0
    rw [if_neg h0, if_neg h0, if_neg h0, hu]
    exact endGate_told _ _ _ _

/-- The tally after an anchor gate: a closed one adds its value and one good gate (R90). -/
def Tally.anchorTaken (y : Tally) (r : GateRecord) : Tally :=
  if r.ending = .closed then { y with ra := y.ra + 1, sumA := y.sumA + r.value.getD 0 } else y

/-- The anchor gate's report leads to GATE_P (R90). -/
theorem takeGateA_startsGateP (x : Here) (r : GateRecord) (hr : r.ending = .closed ∨ r.ending = .missed) :
    s.takeGateA x r = (s.setTally (s.jct.ctx.tally.anchorTaken r)).startGateP := by
  unfold State.takeGateA Tally.anchorTaken
  rcases hr with hr | hr <;> rw [hr] <;> rfl

section
variable {x : Tally}

theorem markRecord_ending (g : Gcu) (l k : Nat) : (g.markRecord l k).ending = .closed ∨ (g.markRecord l k).ending = .missed := by
  unfold Gcu.markRecord
  split
  · exact .inl rfl
  · exact .inr rfl

theorem anchorTaken_markRecord : x.anchorTaken (g.markRecord l k) =
    if k = 0 then { x with ra := x.ra + 1, sumA := x.sumA + l } else x := by
  unfold Gcu.markRecord
  split <;> rfl

theorem probeTaken_markRecord : x.probeTaken (g.markRecord l k) =
    if k = 0 then { x with rh := x.rh + 1, sumH := x.sumH + l } else x := by
  unfold Gcu.markRecord
  split <;> rfl

/-- The tally of the pair whose probe gate has ended (R92). -/
theorem probeTaken_nextPair : { x.probeTaken (g.markRecord l k) with pairs := (x.probeTaken (g.markRecord l k)).pairs + 1 } =
    if k = 0 then { x with pairs := x.pairs + 1, rh := x.rh + 1, sumH := x.sumH + l } else { x with pairs := x.pairs + 1 } := by
  rw [probeTaken_markRecord]
  split <;> rfl

theorem probeTaken_pairs (r : GateRecord) : (x.probeTaken r).pairs = x.pairs := by
  unfold Tally.probeTaken
  split <;> rfl

end

/-! ## The ending gate's report (R90, R92, R94) -/

/-- The anchor's gate has ended: GATE_P, with no gate in hand (R90, R91). -/
theorem anchorGate_taken {r : GateRecord} (h : SkewUnderWay v j c f head zone .gateA) (ha : v.jct.ctx.await = some .gate)
    (hr : r.ending = .closed ∨ r.ending = .missed) (hi : y.inbox = [.gateEnded r v.jct.attempt]) (hset : y.setInbox [] = v) :
    SkewGoesOn v j c .gateP (v.jct.ctx.tally.anchorTaken r) y.finish ∧ y.finish.gcu = v.gcu ∧ y.finish.flc = v.flc := by
  have htake : (y.setInbox []).jctTake (.gateEnded r v.jct.attempt) =
      (v.setTally (v.jct.ctx.tally.anchorTaken r)).startGateP := by
    rw [hset, (takeGate_awaited h ha r).2.1 rfl, takeGateA_startsGateP _ _ hr]
  obtain ⟨hgoes, hgate, hlines⟩ := gateP_entered (h.setTally (v.jct.ctx.tally.anchorTaken r)) hi htake
  exact ⟨(skewSame_setTally v _).goesOn hgoes, hgate, hlines⟩

/-- The probe gate has ended and its value is in the tally `x`: the anchor is selected, and the pair is done (R92, R94). -/
structure ProbeTaken (v : State) (j : Job) (c : Cursor) (f : Figures) (head zone : Nat) (x : Tally) (t : State) : Prop where
  anchor : t.flc = { v.flc with engineHead := v.prof.anchor }
  more : x.pairs + 1 < f.r → t.gcu.armedSplit v.prof.anchor ∧ t.awaitsGate ∧
    SkewGoesOn v j c .gateA { x with pairs := x.pairs + 1 } t
  done : f.r ≤ x.pairs + 1 → PairsDone v j c f head zone x t

theorem SkewSame.probeTaken {x : Tally} (h : SkewSame s v) (hl : v.flc = s.flc) (k : ProbeTaken v j c f head zone x t) :
    ProbeTaken s j c f head zone x t := by
  have hanchor := k.anchor
  rw [hl, h.prof] at hanchor
  refine ⟨hanchor, fun hp => ?_, fun hp => h.done (k.done hp)⟩
  obtain ⟨harmed, hawaits, hgoes⟩ := k.more hp
  rw [h.prof] at harmed
  exact ⟨harmed, hawaits, h.goesOn hgoes⟩

theorem skewSame_anchored (v : State) (b : Bool) : SkewSame v (v.anchored b) := ⟨rfl, rfl, rfl, rfl, rfl, rfl, rfl, rfl, rfl⟩

/-- The probe gate has ended: whatever follows, its stages and its ending record stand (R85, R92). -/
theorem probeGate_taken {r : GateRecord} (h : SkewUnderWay v j c f head zone .gateP) (ha : v.jct.ctx.await = some .gate)
    (hg : v.gcu.state = .idle) (hr : r.ending = .closed ∨ r.ending = .missed)
    (hi : y.inbox = [.gateEnded r v.jct.attempt]) (hset : y.setInbox [] = v) :
    ProbeTaken v j c f head zone (v.jct.ctx.tally.probeTaken r) y.finish ∧ y.finish.gcu.last = v.gcu.last ∧
      y.finish.gcu.stageL = v.gcu.stageL ∧ y.finish.gcu.stageU = v.gcu.stageU := by
  obtain ⟨b, -, htakeP⟩ := takeGateP_anchors h.actuator.1 ⟨j, c, f, head, zone⟩
  let w := (v.anchored b).setTally (v.jct.ctx.tally.probeTaken r)
  have htake : (y.setInbox []).jctTake (.gateEnded r v.jct.attempt) = w.pairDone ⟨j, c, f, head, zone⟩ := by
    rw [hset, (takeGate_awaited h ha r).2.2 rfl, (htakeP r).2 hr]
  have hw : SkewUnderWay w j c f head zone .gateP := (h.anchored b).setTally _
  have hsame : SkewSame v w := (skewSame_anchored v b).trans (skewSame_setTally _ _)
  by_cases hpairs : w.jct.ctx.tally.pairs + 1 < f.r
  · obtain ⟨hgoes, hgate, hawaits, hlines⟩ := pair_goesOn hw hg hi htake hpairs
    refine ⟨⟨hlines, fun _ => ⟨?_, hawaits, hsame.goesOn hgoes⟩, fun k => absurd hpairs (Nat.not_lt.mpr k)⟩, ?_⟩
    · rw [hgate]
      exact ⟨rfl, rfl, rfl⟩
    · rw [hgate]
      exact ⟨rfl, rfl, rfl⟩
  · obtain ⟨hdone, hstands, hframe⟩ := pair_ends hw hg rfl hi htake (Nat.not_lt.mp hpairs)
    have hhead : y.finish.flc.engineHead = v.prof.anchor := hstands.lines.elim id id
    refine ⟨⟨?_, fun k => absurd k hpairs, fun _ => hsame.done hdone⟩, hstands.ended.2, hstands.stages⟩
    rw [hframe.flc, hhead]
    rfl

/-! ## A mark of the gate head (R82, R90, R92) -/

section
variable (h : SkewUnderWay s j c f head zone p) (hslot : s.sdc.slotDue.isSome = true)
  (hc : s.gcu.state = .counting) (hmode : s.gcu.mode = .split) (hh : s.gcu.head = some s.drivenHead)
  (hm : s.sdc.marker = false) (hs : sector.toNat < s.prof.sectors) (hn : s.pos.indexRef.getD s.now + ticks = n)
  (hp : ¬(p = .gateP ∧ s.jct.ctx.probe = false))
  (ho : s.drivenHead ≠ s.prof.anchor ∨ s.pos.otRun + 1 < s.prof.otCount)
include h hslot hc hmode hh hm hs hn hp ho

/-- A mark of another sector than 0 that is not the third is one more mark (R82). -/
theorem mark_counts (hk : sector.toNat ≠ 0) (hu : s.gcu.stageU < 2) :
    ∃ t, exec (.slotEndMark sector code e o ticks) s = .next t ∧ SkewGoesOn s j c p s.jct.ctx.tally t ∧
      t.gcu = { s.gcu with stageU := s.gcu.stageU + 1 } := by
  obtain ⟨d, q, r, hq, hhead, hr, hexec⟩ := slotEndMark_clocks h hslot hm hs hn hp ho
  refine ⟨_, hexec (s.clocked n d q { s.gcu with stageU := s.gcu.stageU + 1 }) ?_, clocked_goesOn h hq⟩
  rw [gateRecord_used (s := s.clocked n d q s.gcu) hc hmode (hhead ▸ hh) hr, if_neg hk]
  exact if_pos (show s.gcu.stageU + 1 < 3 by omega)

/-- The mark of sector 0, and the third mark, end the gate, which reports its record (R82, R85). -/
theorem mark_ends (hl : n - s.gcu.start = l) (hl' : l ≤ 65535) (hk : sector.toNat = 0 ∨ s.gcu.stageU = 2) :
    ∃ d q, s.pos.Holds q ∧ exec (.slotEndMark sector code e o ticks) s =
      .next ((s.clocked n d q (s.gcu.endedWith (s.gcu.markRecord l sector.toNat) none l (s.gcu.marksAt sector.toNat))).tell
        (.gateEnded (s.gcu.markRecord l sector.toNat) s.gcu.attempt)).finish := by
  obtain ⟨d, q, r, hq, hhead, hr, hexec⟩ := slotEndMark_clocks h hslot hm hs hn hp ho
  exact ⟨d, q, hq, hexec _ (gateRecord_ends (s := s.clocked n d q s.gcu) hc hmode (hhead ▸ hh) hr hl hl' hk)⟩

end

end Sys2Proof.Machine
end

section
/-! PROOF. The gates of a skew measurement (R79 to R82, R85, R88, R89, R91, R92, R94; log 3, log 31). -/

namespace Sys2Proof.Machine

variable {s t u v w y : State} {j : Job} {c : Cursor} {f : Figures} {head zone n k l ticks : Nat} {p : Phase} {q : Pos}
  {d : Sdc} {g : Gcu} {r : GateRecord}

/-! ## The reports of the two SPLIT gates -/

/-- The anchor's gate ends in an arrival that else moves only the clock, the decoder and the Positioner (R90). -/
theorem anchorGate_reported (h : SkewUnderWay s j c f head zone .gateA) (ha : s.awaitsGate) (hq : s.pos.Holds q)
    (hr : r.ending = .closed ∨ r.ending = .missed)
    (ht : ((s.clocked n d q (s.gcu.endedWith r none l k)).tell (.gateEnded r s.gcu.attempt)).finish = t) :
    t.gcu = s.gcu.endedWith r none l k ∧ t.flc = s.flc ∧
      SkewGoesOn s j c .gateP (s.jct.ctx.tally.anchorTaken r) t := by
  subst ht
  let v := s.clocked n d q (s.gcu.endedWith r none l k)
  have hi : (v.tell (.gateEnded r s.gcu.attempt)).inbox = [.gateEnded r v.jct.attempt] := ended_inbox h ha
  have hset : (v.tell (.gateEnded r s.gcu.attempt)).setInbox [] = v := ended_setInbox h _
  obtain ⟨hgoes, hgate, hlines⟩ := anchorGate_taken (h.clocked hq : SkewUnderWay v j c f head zone _) ha.1 hr hi hset
  exact ⟨hgate, hlines, (skewSame_clocked hq).goesOn hgoes⟩

/-- The probe gate likewise (R92). -/
theorem probeGate_reported (h : SkewUnderWay s j c f head zone .gateP) (ha : s.awaitsGate) (hq : s.pos.Holds q)
    (hr : r.ending = .closed ∨ r.ending = .missed)
    (ht : ((s.clocked n d q (s.gcu.endedWith r none l k)).tell (.gateEnded r s.gcu.attempt)).finish = t) :
    ProbeTaken s j c f head zone (s.jct.ctx.tally.probeTaken r) t ∧ t.gcu.last = some r ∧ t.gcu.stageL = l ∧
      t.gcu.stageU = k := by
  subst ht
  let v := s.clocked n d q (s.gcu.endedWith r none l k)
  have hi : (v.tell (.gateEnded r s.gcu.attempt)).inbox = [.gateEnded r v.jct.attempt] := ended_inbox h ha
  have hset : (v.tell (.gateEnded r s.gcu.attempt)).setInbox [] = v := ended_setInbox h _
  obtain ⟨htaken, hstands⟩ := probeGate_taken (h.clocked hq : SkewUnderWay v j c f head zone _) ha.1 rfl hr hi hset
  exact ⟨(skewSame_clocked hq).probeTaken rfl htaken, hstands⟩

/-! ## The switch point (R91) -/

/-- The probe selected and its SPLIT gate armed (R91). -/
structure Switched (s : State) (j : Job) (c : Cursor) (head : Nat) (t : State) : Prop where
  goesOn : SkewGoesOn s j c .gateP s.jct.ctx.tally t
  gate : t.gcu = { s.gcu with state := .armed, mode := .split, head := some head, attempt := s.jct.attempt }
  awaits : t.awaitsGate
  probe : t.jct.ctx.probe = true
  head : t.drivenHead = head
  marker : t.sdc.marker = true

theorem takeSwitch_switches (h : SkewUnderWay v j c f head zone .gateP) (hp : v.jct.ctx.probe = false)
    (hg : v.gcu.state = .idle) (hb : v.flc.selectBench = false) (hd : v.drivenHead ≠ head)
    (hi : y.inbox = [.switchPoint v.jct.attempt]) (hset : y.setInbox [] = v) : Switched v j c head y.finish := by
  let z := (v.await (some .gate) none).setGcu
    { v.gcu with state := .armed, mode := .split, head := some head, attempt := v.jct.attempt }
  let w := ((z.setFlc { z.flc with engineHead := head }).setSdc { z.sdc with marker := true }).setCtx
    { z.jct.ctx with probe := true }
  have hselect : z.selectHead head = (z.setFlc { z.flc with engineHead := head }).setSdc { z.sdc with marker := true } :=
    selectHead_other hb hd (by rw [show z.pos.act = .following from h.actuator.1]; decide)
  have hswitch : v.awaitsSwitch = true := (awaitsSwitch_iff h).mpr ⟨rfl, hp⟩
  have htake : (y.setInbox []).jctTake (.switchPoint v.jct.attempt) = w := by
    rw [hset]
    show v.takeSwitch v.jct.attempt = w
    unfold State.takeSwitch
    rw [here_of h.running h.at]
    dsimp only
    rw [if_pos ⟨hswitch, rfl⟩, if_pos h.actuator.1, armed_of_idle hg, hselect]
    rfl
  have hinbox : w.inbox.all JctMsg.idle = true := by
    show v.inbox.all _ = true
    rw [h.inbox]
    rfl
  obtain ⟨a, b, e⟩ := finish_ordered hi htake (Obeys.ordered (s := w) ⟨h.runningPhase, id⟩ (by decide) (by decide)) hinbox
  rw [e]
  refine ⟨⟨?_, rfl, ⟨h.actuator.1, rfl, rfl, h.spindle.1⟩, rfl, rfl, h.window, rfl⟩, rfl, ⟨rfl, rfl⟩, rfl, ?_, rfl⟩
  · rw [h.same]
    exact h.running
  · exact drivenHead_of_engineOwned hb

/-- A slot that ends with a miss of sector S - 2 is the switch point (R8, R91). -/
theorem slotEndMiss_switches {due : Nat} (h : SkewUnderWay s j c f head zone .gateP) (hp : s.jct.ctx.probe = false)
    (hg : s.gcu.state = .idle) (hslot : s.sdc.slotDue = some due) (he : s.sdc.expect = some (s.prof.sectors - 2))
    (hs : 2 ≤ s.prof.sectors) (hl : s.pos.lossRun < 3) (hb : s.flc.selectBench = false)
    (hd : s.drivenHead = s.prof.anchor) (hh : head ≠ s.prof.anchor) :
    ∃ t, exec .slotEndMiss s = .next t ∧ Switched s j c head t := by
  let r := formRecord (s.atTick due) none
  let x := (s.atTick due).endSlot r due
  have hcls : r.cls = .recovery ∨ r.cls = .miss := by
    show classify s.prof s.sdc.marker none = .recovery ∨ classify s.prof s.sdc.marker none = .miss
    cases s.sdc.marker
    · exact .inr rfl
    · exact .inl rfl
  obtain ⟨q, hq, hservo⟩ := servoRecord_missed (s := x) h.actuator.1 hcls hl
  let v := s.clocked due x.sdc q s.gcu
  have hexpect : x.sdc.expect = some (s.prof.sectors - 1) := by
    show s.sdc.expect.map _ = _
    rw [he]
    refine congrArg some ?_
    show (s.prof.sectors - 2 + 1) % s.prof.sectors = s.prof.sectors - 1
    rw [Nat.mod_eq_of_lt (by omega)]
    omega
  have hdeliver : (s.atTick due).deliver r due = v.tell (.switchPoint s.jct.attempt) := by
    have hyes : (s.atTick due).awaitsSwitch = true ∧ r.head = (s.atTick due).prof.anchor ∧
        x.sdc.expect = some ((s.atTick due).prof.sectors - 1) := ⟨(awaitsSwitch_iff h).mpr ⟨rfl, hp⟩, hd, hexpect⟩
    refine (if_pos hyes).trans ?_
    show (((x.servoRecord r).windowRecord r).gateRecord r due).tell _ = _
    rw [hservo, windowRecord_of_none (by exact h.window), gateRecord_of_idle (s := x.setPos q) hg]
    rfl
  have hexec : exec .slotEndMiss s = .next (v.tell (.switchPoint s.jct.attempt)).finish := by
    show arrival s.endWithMiss = _
    unfold State.endWithMiss
    rw [hslot]
    dsimp only
    rw [hdeliver]
    rfl
  have hi : (v.tell (.switchPoint s.jct.attempt)).inbox = [.switchPoint s.jct.attempt] := by
    show s.inbox ++ _ = _
    rw [h.inbox]
    rfl
  have hsame : SkewSame s v := skewSame_clocked hq
  have k := takeSwitch_switches (v := v) (h.clocked hq) hp hg hb (by rw [show v.drivenHead = s.drivenHead from rfl, hd]; exact hh.symm)
    hi (ended_setInbox h _)
  exact ⟨_, hexec, hsame.goesOn k.goesOn, k.gate, k.awaits, k.probe, k.head, k.marker⟩

/-! ## The obligation -/

/-- The ending record of a SPLIT gate that ended at a mark (R85). -/
theorem markRecord_split (hmode : g.mode = .split) : g.markRecord l k =
    if k = 0 then
      { ending := .closed, abortCause := none, mode := .split, head := g.head, value := some l, closedBy := some .mark
        marks := some g.stageU, overflowed := none }
    else
      { ending := .missed, abortCause := none, mode := .split, head := g.head, value := none, closedBy := none
        marks := some 3, overflowed := none } := by
  unfold Gcu.markRecord Gcu.recordOf
  rw [hmode]
  rfl

/-- The index arrival at the gate the job awaits: an armed one begins to count, a counting SPLIT one counts on (R80, R81). -/
theorem indexArrival_gate {ref : Nat} (h : SkewUnderWay s j c f head zone p) (hr : s.pos.indexRef = some ref)
    (hg : s.revolutionGood ticks = true) (hp : p = .period ∨ p = .gateA ∨ (p = .gateP ∧ s.jct.ctx.probe = true)) :
    (s.gcu.state = .armed → ∃ t, exec (.indexArrival ticks) s = .next t ∧ SkewGoesOn s j c p s.jct.ctx.tally t ∧
      t.gcu = { s.gcu with state := .counting, stageL := 0, stageU := 0, overflow := none, start := ref + ticks }) ∧
    (s.gcu.state = .counting → s.gcu.mode = .split →
      ∃ t, exec (.indexArrival ticks) s = .next t ∧ SkewGoesOn s j c p s.jct.ctx.tally t ∧ t.gcu = s.gcu) := by
  have hno : ¬(p = .gateP ∧ s.jct.ctx.probe = false) := by
    rintro ⟨rfl, hprobe⟩
    simp [hprobe] at hp
  refine ⟨fun harmed => index_goesOn h hr hg hno fun q => ?_, fun hc hmode => index_goesOn h hr hg hno fun q => ?_⟩
  · unfold State.gateIndex
    rw [show (s.clocked (ref + ticks) s.sdc q s.gcu).gcu = s.gcu from rfl, harmed]
    rfl
  · unfold State.gateIndex
    rw [show (s.clocked (ref + ticks) s.sdc q s.gcu).gcu = s.gcu from rfl, hc, hmode]

/-- Settles O39: the index begins a gate, counts on or closes the period gate (`indexArrival_gate`, `index_closes`), and skips a
probe gate that is not armed (`index_skips`); marks count and end the SPLIT gates (`mark_counts`, `mark_ends`), whose reports are
taken by GATE_A and GATE_P (`anchorGate_reported`, `probeGate_reported`); and the miss is the switch point
(`slotEndMiss_switches`). -/
theorem gatesBeginAtTheIndexAndClose : Obligations.GatesBeginAtTheIndexAndClose := by
  unfold Obligations.GatesBeginAtTheIndexAndClose
  intro s j c f head zone p y sector code e o ref ticks n d h hy
  subst hy
  refine ⟨fun hr hn hle htol => ?_, fun hslot ha hc hmode hh hm hs hn hl hphase => ?_, ?_⟩
  · have hg : s.revolutionGood ticks = true := revolutionGood_iff.mpr ⟨hle, htol⟩
    subst hn
    refine ⟨fun _ hp => indexArrival_gate h hr hg hp, fun ha hp hc hmode hmax => ?_, fun hp hprobe hidle hpairs => ?_,
      fun hp hprobe hidle hpairs => ?_⟩
    · subst hp
      obtain ⟨t, r, hexec, hrec, hgoes, hawaits, hgate⟩ := index_closes h hr hg ha hc hmode hmax
      refine ⟨t, hexec, hgoes, ?_, hawaits, ?_⟩
      · rw [hgate]
        exact ⟨rfl, rfl, rfl⟩
      · rw [hgate]
        refine ⟨Nat.div_add_mod' _ _, Nat.le_of_lt_succ (Nat.mod_lt _ (by decide)), congrArg some ?_⟩
        rw [hrec]
        unfold Gcu.recordOf
        rw [hmode]
        rfl
    · subst hp
      obtain ⟨t, hexec, hmore, -⟩ := index_skips h hr hg hprobe hidle
      obtain ⟨hgoes, hawaits, hgate⟩ := hmore hpairs
      refine ⟨t, hexec, hgoes, ?_, hawaits, ?_⟩
      · rw [hgate]
        exact ⟨rfl, rfl, rfl⟩
      · rw [hgate]
    · subst hp
      obtain ⟨t, hexec, -, hdone⟩ := index_skips h hr hg hprobe hidle
      exact ⟨t, hexec, hdone hpairs⟩
  · have hp : ¬(p = .gateP ∧ s.jct.ctx.probe = false) := by
      rintro ⟨rfl, hprobe⟩
      simp [hprobe] at hphase
    have ho : s.drivenHead ≠ s.prof.anchor ∨ s.pos.otRun + 1 < s.prof.otCount :=
      hphase.symm.imp (fun k => k.2.2) (fun k => k.2.2.1)
    refine ⟨mark_counts h hslot hc hmode hh hm hs hn.symm hp ho, fun hk => ?_⟩
    obtain ⟨x, q, hq, hexec⟩ := mark_ends (code := code) (e := e) (o := o) h hslot hc hmode hh hm hs hn.symm hp ho rfl hl hk
    have hending := markRecord_ending s.gcu (n - s.gcu.start) sector.toNat
    refine ⟨_, hexec, ?_⟩
    rw [← markRecord_split hmode]
    rcases hphase with ⟨rfl, -⟩ | ⟨rfl, -⟩
    · obtain ⟨hgate, hlines, hgoes⟩ := anchorGate_reported h ha hq hending rfl
      rw [anchorTaken_markRecord] at hgoes
      rw [hgate]
      exact ⟨rfl, rfl, rfl, fun _ => ⟨rfl, hlines, hgoes⟩, nofun⟩
    · obtain ⟨htaken, hlast, hL, hU⟩ := probeGate_reported h ha hq hending rfl
      refine ⟨hlast, hL, hU, nofun, fun _ => ⟨htaken.anchor, fun hpairs => ?_, fun hpairs => ?_⟩⟩
      · have hmore := htaken.more (by rw [probeTaken_pairs]; exact hpairs)
        rwa [probeTaken_nextPair] at hmore
      · have hdone := htaken.done (by rw [probeTaken_pairs]; exact hpairs)
        rwa [probeTaken_markRecord] at hdone
  · rintro rfl hprobe hidle hslot he hs hl hb hd hh
    obtain ⟨t, hexec, k⟩ := slotEndMiss_switches h hprobe hidle hslot he hs hl hb hd hh
    refine ⟨t, hexec, k.goesOn, ?_, k.awaits, ?_, k.probe, k.head, k.marker⟩
    · rw [k.gate]
      exact ⟨rfl, rfl, rfl⟩
    · rw [k.gate]

end Sys2Proof.Machine
end
